-- ==== Sys2Proof/Word.lean ====
section
/-! DEFINITION. The widths of the CL128: the byte of the master ports and segments (R170, R203) and the two-byte field (12). -/

namespace Sys2Proof

/-- One byte of a UART or of a segment. -/
abbrev Byte := BitVec 8

/-- A field of two bytes, sent high byte first (12_frame_and_record_layouts.md). -/
abbrev Word16 := BitVec 16

/-- An opening number, 0..127 (R1). -/
abbrev OpeningId := Fin 128

/-- A zone number, 0..15 (R25). -/
abbrev ZoneId := Fin 16

/-- A drive slot number, 0..7 (R79). -/
abbrev SlotId := Fin 8

/-- A node address on a segment, 0..63 (R119). -/
abbrev NodeAddress := Fin 64

/-- A compass sector, N, NE, E, SE, S, SW, W, NW as 0..7: a ring (R54). -/
abbrev Sector := Fin 8

end Sys2Proof
end

