-- ==== Sys2Proof/Config.lean ====
section
/-! DEFINITION. What the manual leaves open and the model leaves open with it: the one free value. -/

namespace Sys2Proof

/-- The direction of a drive (R81). -/
inductive Direction
  | toOpen
  | toClose
deriving DecidableEq, Repr, Inhabited

/-- FREE VALUE (log entry 13). R81 gives the direction of a job whose target is below or above a numeric
position and says that a job whose position has reached its target does not exist; between an ENROLL reply
and the resolution that follows it such a job can meet a start walk with target and position equal. The
direction is then whatever this constant says of that position: nothing constrains it. -/
opaque Config.directionAtTarget : Nat → Direction

end Sys2Proof
end

