-- ==== Sys2Proof/Syntax.lean ====
section
/-! DEFINITION. The commands of the CL128: one constructor for each row of spec/opcode_table.json, with the
operands the row's rule names, and the small types those operands need. -/

namespace Sys2Proof

/-- The three master ports, each fixed to one role (R170). -/
inductive Role
  | ventilation
  | security
  | service
deriving DecidableEq, Repr

/-- The two RS-485 segments (00_scope.md, 0.5). -/
inductive Segment
  | seg0
  | seg1
deriving DecidableEq, Repr

/-- The two rain contacts (R50). -/
inductive RainContact
  | roof
  | facade
deriving DecidableEq, Repr

/-- A rain contact's level, in the order R49 lists it. -/
inductive Wetness
  | wet
  | dry
deriving DecidableEq, Repr

/-- The level of the mains-status line and the mains state (R154). -/
inductive MainsState
  | mains
  | battery
deriving DecidableEq, Repr

/-- The two kinds of opening (R2). -/
inductive Kind
  | window
  | skylight
deriving DecidableEq, Repr

/-- Position sense of an actuator (R5). -/
inductive Sense
  | fine
  | coarse
deriving DecidableEq, Repr

/-- One byte as a port's UART receives it; a framing error is a missing stop bit (R172). -/
structure RxByte where
  value : Byte
  framingError : Bool
deriving DecidableEq, Repr

/-- The answer of a good reply (R121). -/
inductive Answer
  | ack
  | nak
deriving DecidableEq, Repr

/-- The outcome a node reports, in the order of R121. -/
inductive DriveOutcome
  | none
  | reached
  | obstructed
  | stalled
deriving DecidableEq, Repr

/-- The ability an ACK to ENROLL reports; stroke time in s and rated current in 0.1 A take every byte (R203). -/
structure AbilityReport where
  stroke : Byte
  rated : Byte
  sense : Sense
  lockContact : Bool
  quiet : Bool
  kind : Kind
deriving DecidableEq, Repr

/-- A good reply with a correct checksum: its node's address and the fields of R121. A position byte above 100
is a valid value and reads as UNKNOWN (R203). -/
structure NodeReply where
  address : NodeAddress
  answer : Answer
  moving : Bool
  outcome : DriveOutcome
  position : Byte
  locked : Option Bool
  ability : Option AbilityReport
deriving DecidableEq, Repr

/-- The 26 settings in record order, each a whole number in the unit and step of R191 and R200. -/
structure Settings where
  agingPeriod : Nat
  rainFilterTime : Nat
  dryOutTime : Nat
  anemometerConstant : Nat
  watchGustSet : Nat
  watchGustRelease : Nat
  closeMeanSet : Nat
  closeMeanRelease : Nat
  drivingRainSet : Nat
  drivingRainRelease : Nat
  stormGustSet : Nat
  stormGustRelease : Nat
  standDownTime : Nat
  leadThreshold : Nat
  watchCeiling : Nat
  restInterval : Nat
  obstructionDwell : Nat
  reclaimTimeout : Nat
  mainsBudget : Nat
  batteryBudget : Nat
  highMark : Nat
  lowMark : Nat
  sagSet : Nat
  sagRelease : Nat
  outSet : Nat
  outRelease : Nat
deriving DecidableEq, Repr

/-- The commands. A request row stands for the arrival, on the port named first, of a frame that passes R172 and
the first two checks of R174 and carries the payload bytes given (log entry 3); the other rows are the events
of the lines, timers and inputs, each with the item it happens to. -/
inductive Instr
  -- master port line events
  | requestFrameArrival (port : Role) (frame : List RxByte)
  | frameGapTimeout (port : Role)
  | replySent (port : Role)
  -- requests
  | readOpening (port : Role) (opening : Byte)
  | readBlock (port : Role) (first : Byte)
  | readWeather (port : Role) (page : Byte)
  | readStatus (port : Role)
  | readEvents (port : Role)
  | setMask (port : Role) (kinds : Word16)
  | forceEvent (port : Role) (kinds : Word16)
  | claim (port : Role) (scope subject position : Byte)
  | release (port : Role) (scope subject : Byte)
  | advisory (port : Role) (kind lead : Byte) (duration : Word16)
  | staticSet (port : Role) (scope subject kind position : Byte)
  | staticClear (port : Role) (scope subject : Byte)
  | readStatic (port : Role) (slot : Byte)
  | readClaim (port : Role) (slot : Byte)
  | zoneRead (port : Role) (zone : Byte)
  | readCounters (port : Role) (opening : Byte)
  | clearFault (port : Role) (opening : Byte)
  | resync (port : Role) (segments : Byte)
  | openingWrite (port : Role) (opening present segment node kind zone facade rank sheltered : Byte)
  | zoneWrite (port : Role) (zone valid admitVentilation admitSecurity ceiling fallback : Byte)
  | settingsWrite (port : Role) (record : Settings)
  | settingsRead (port : Role)
  | save (port : Role)
  | mode (port : Role) (wanted : Byte)
  | reset (port : Role)
  -- resets and start-up
  | powerOnReset
  | logicSupplyFall (micros : Nat)
  | resetPinAssert
  | loadEvent
  | noticeEvent
  -- weather
  | rainContactChange (contact : RainContact) (raw : Wetness)
  | rainFilterExpiry (contact : RainContact)
  | dryOutExpiry
  | anemometerPulse (micros : Nat)
  | gustWindowEnd
  | vaneChange (lines : BitVec 3)
  | stabilityTimerExpiry
  | advisoryMinuteMark
  | standDownExpiry
  | warmUpExpiry
  -- claims, resolution, starts
  | agingSweep
  | resolveOpening
  | startWalk
  -- segments
  | turnaroundEnd (segment : Segment)
  | nodeFrameSent (segment : Segment)
  | nodeReply (segment : Segment) (reply : NodeReply)
  | nodeReplyBusy (segment : Segment) (address : NodeAddress)
  | invalidNodeFrame (segment : Segment) (bytes : List Byte) (gap : Bool)
  | replyWindowExpiry (segment : Segment)
  -- drive supervision
  | runLimitExpiry (slot : SlotId)
  | orphanHoldEnd (slot : SlotId)
  | restTimerExpiry (opening : OpeningId)
  | dwellTimerExpiry (opening : OpeningId)
  -- polls and probes
  | progressPollTimerExpiry (slot : SlotId)
  | idlePollRound (segment : Segment)
  | followPollTimerExpiry (opening : OpeningId)
  | reProbeTimerExpiry (opening : OpeningId)
  | enrollmentRetry (opening : OpeningId)
  -- holds
  | holdreqChange (segment : Segment) (asserted : Bool)
  | holdreqFilterExpiry (segment : Segment)
  | reclaimTimerExpiry (segment : Segment)
  | returningTimerExpiry (segment : Segment)
  -- supply
  | motorVoltageChange (tenthsOfVolt : Nat)
  | rideThroughExpiry
  | mainsLineChange (raw : MainsState)
  | mainsFilterExpiry
  | measuredCurrentChange (tenthsOfAmpere : Nat)
  | pauseLimitExpiry
  | tripTimerExpiry
  -- store
  | saveCompletion (readsBackIntact : Bool)
  -- one byte of a master port
  | byteReceived (port : Role) (byte : RxByte)
deriving DecidableEq, Repr

end Sys2Proof
end

