-- ==== Sys2Proof/WellFormed.lean ====
section
/-! DEFINITION. Which commands the outside can send: every operand fits the field or the measurement that carries
it. Payload bytes are bytes by their type, and every one of them is well formed: values out of a field's range
are answered OUT_OF_RANGE by the machine (R200), not excluded here. -/

namespace Sys2Proof

/-- A settings record that fits its 44-byte frame: fields 1, 3, 5 to 13, 16, 19, 20 and 23 to 26 take two bytes,
the other eight take one (R200). -/
def Settings.fits (r : Settings) : Bool :=
  [r.agingPeriod, r.dryOutTime, r.watchGustSet, r.watchGustRelease, r.closeMeanSet, r.closeMeanRelease,
    r.drivingRainSet, r.drivingRainRelease, r.stormGustSet, r.stormGustRelease, r.standDownTime, r.restInterval,
    r.mainsBudget, r.batteryBudget, r.sagSet, r.sagRelease, r.outSet, r.outRelease].all (· < 65536) &&
  [r.rainFilterTime, r.anemometerConstant, r.leadThreshold, r.watchCeiling, r.obstructionDwell,
    r.reclaimTimeout, r.highMark, r.lowMark].all (· < 256)

/-- A frame as the assembly of R171 can build one: the sync byte, then a length from 5 to 49 that counts all its
bytes. -/
def frameAssembles (frame : List RxByte) : Bool :=
  match frame with
  | sync :: len :: _ =>
    sync.value == 0x5A#8 && len.value.toNat == frame.length && decide (5 ≤ frame.length) &&
      decide (frame.length ≤ 49)
  | _ => false

/-- The check of a command's operands: the frame of REQUEST_FRAME_ARRIVAL, the settings record of SETTINGS_WRITE,
and the two measurements (0.0..60.0 V and 0.0..99.9 A, R154). -/
def Instr.wellFormed : Instr → Bool
  | .requestFrameArrival _ frame => frameAssembles frame
  | .settingsWrite _ record => record.fits
  | .motorVoltageChange v => decide (v ≤ 600)
  | .measuredCurrentChange c => decide (c ≤ 999)
  | .frameGapTimeout _ => true
  | .replySent _ => true
  | .readOpening _ _ => true
  | .readBlock _ _ => true
  | .readWeather _ _ => true
  | .readStatus _ => true
  | .readEvents _ => true
  | .setMask _ _ => true
  | .forceEvent _ _ => true
  | .claim _ _ _ _ => true
  | .release _ _ _ => true
  | .advisory _ _ _ _ => true
  | .staticSet _ _ _ _ _ => true
  | .staticClear _ _ _ => true
  | .readStatic _ _ => true
  | .readClaim _ _ => true
  | .zoneRead _ _ => true
  | .readCounters _ _ => true
  | .clearFault _ _ => true
  | .resync _ _ => true
  | .openingWrite _ _ _ _ _ _ _ _ _ _ => true
  | .zoneWrite _ _ _ _ _ _ _ => true
  | .settingsRead _ => true
  | .save _ => true
  | .mode _ _ => true
  | .reset _ => true
  | .powerOnReset => true
  | .logicSupplyFall _ => true
  | .resetPinAssert => true
  | .loadEvent => true
  | .noticeEvent => true
  | .rainContactChange _ _ => true
  | .rainFilterExpiry _ => true
  | .dryOutExpiry => true
  | .anemometerPulse _ => true
  | .gustWindowEnd => true
  | .vaneChange _ => true
  | .stabilityTimerExpiry => true
  | .advisoryMinuteMark => true
  | .standDownExpiry => true
  | .warmUpExpiry => true
  | .agingSweep => true
  | .resolveOpening => true
  | .startWalk => true
  | .turnaroundEnd _ => true
  | .nodeFrameSent _ => true
  | .nodeReply _ _ => true
  | .nodeReplyBusy _ _ => true
  | .invalidNodeFrame _ _ _ => true
  | .replyWindowExpiry _ => true
  | .runLimitExpiry _ => true
  | .orphanHoldEnd _ => true
  | .restTimerExpiry _ => true
  | .dwellTimerExpiry _ => true
  | .progressPollTimerExpiry _ => true
  | .idlePollRound _ => true
  | .followPollTimerExpiry _ => true
  | .reProbeTimerExpiry _ => true
  | .enrollmentRetry _ => true
  | .holdreqChange _ _ => true
  | .holdreqFilterExpiry _ => true
  | .reclaimTimerExpiry _ => true
  | .returningTimerExpiry _ => true
  | .rideThroughExpiry => true
  | .mainsLineChange _ => true
  | .mainsFilterExpiry => true
  | .pauseLimitExpiry => true
  | .tripTimerExpiry => true
  | .saveCompletion _ => true
  | .byteReceived _ _ => true

end Sys2Proof
end

