-- ==== Sys2Proof/Decode.lean ====
section
/-! DEFINITION. The commands of this block are not spelled by words: no row of spec/opcode_table.json gives bits,
so no word decodes to a command. The frames that carry requests on a master port have their own decoder
(Machine/Operands.lean, R199, R200), as have the node frames (Machine/NodeFrames.lean, R203). -/

namespace Sys2Proof

/-- The command a table word spells: none, because the table gives no row any bits. -/
def decodeTableWord (_nbits _w : Nat) : Option Instr := none

end Sys2Proof
end

