-- ==== Sys2Proof/Machine/Checksum.lean ====
section
/-! DEFINITION. The checksums of the two links: CRC-16 on the master ports (R199) and CRC-8 on the segments (R203). -/

namespace Sys2Proof.Machine

/-- One bit step of a CRC register: shifted left, the generator taken in where the top bit left. -/
def crcShift {w : Nat} (generator register : BitVec w) : BitVec w :=
  if register.msb then (register <<< 1) ^^^ generator else register <<< 1

/-- Eight bit steps. -/
def crcByteSteps {w : Nat} (generator register : BitVec w) : Nat → BitVec w
  | 0 => register
  | n + 1 => crcByteSteps generator (crcShift generator register) n

/-- The CRC-16 of R199: generator x^16 + x^12 + x^5 + 1, preset to all ones, most significant bit first. -/
def crc16 (bytes : List Byte) : Word16 :=
  bytes.foldl (fun r b => crcByteSteps 0x1021#16 (r ^^^ (b ++ 0#8)) 8) 0xFFFF#16

/-- The CRC-8 of R203: generator x^8 + x^2 + x + 1, preset to zero, most significant bit first. -/
def crc8 (bytes : List Byte) : Byte := bytes.foldl (fun r b => crcByteSteps 0x07#8 (r ^^^ b) 8) 0x00#8

/-- The high byte of a two-byte field, which is sent first. -/
def highByte (w : Word16) : Byte := w.extractLsb' 8 8

/-- The low byte of a two-byte field. -/
def lowByte (w : Word16) : Byte := w.extractLsb' 0 8

/-- A two-byte field from its bytes. -/
def joinBytes (high low : Byte) : Word16 := high ++ low

/-- A number as one byte. -/
def byteOf (n : Nat) : Byte := BitVec.ofNat 8 n

/-- A number as two bytes, high byte first. -/
def twoBytes (n : Nat) : List Byte := [highByte (BitVec.ofNat 16 n), lowByte (BitVec.ofNat 16 n)]

end Sys2Proof.Machine
end

