-- ==== Sys2Proof/Machine/Blocks.lean ====
section
/-! DEFINITION. The state of each block of the CL128 (00_scope.md, 0.2) as plain data. A field marked absent in the
spec is an Option; a timer that is stopped or ended is none. -/

namespace Sys2Proof.Machine

/-! ### Small containers -/

/-- One item for each master port (R170). -/
structure PerPort (α : Type) where
  ventilation : α
  security : α
  service : α
deriving DecidableEq, Repr

/-- One item for each segment. -/
structure PerSegment (α : Type) where
  seg0 : α
  seg1 : α
deriving DecidableEq, Repr

/-- A running timer: the moment it started and its length, both in milliseconds (log entry 1). -/
structure Timer where
  start : Nat
  length : Nat
deriving DecidableEq, Repr

/-! ### Commissioned content: what the nonvolatile image holds (11.2) -/

/-- The facade an opening faces (R2): one of the eight sectors, or the roof. -/
inductive Facade
  | side (s : Sector)
  | roof
deriving DecidableEq, Repr

/-- The commissioned fields of an opening record (R2). -/
structure Commissioned where
  present : Bool
  segment : Segment
  node : NodeAddress
  kind : Kind
  zone : ZoneId
  facade : Facade
  rank : Fin 8
  sheltered : Bool
deriving DecidableEq, Repr

/-- What an opening of a zone does when no dynamic claim covers it (R25). -/
inductive Fallback
  | stay
  | close
deriving DecidableEq, Repr

/-- A zone record (R25). -/
structure Zone where
  valid : Bool
  admitVentilation : Bool
  admitSecurity : Bool
  ceiling : Nat
  fallback : Fallback
deriving DecidableEq, Repr

/-- The key of a static entry: its scope with its subject (R38). -/
inductive StaticKey
  | opening (o : OpeningId)
  | zone (z : ZoneId)
deriving DecidableEq, Repr

/-- The kind of a static entry; a PIN carries its position (R38). -/
inductive StaticKind
  | lockout
  | pin (position : Nat)
deriving DecidableEq, Repr

/-- An occupied slot of the Static Claim Table (R38). -/
structure StaticEntry where
  key : StaticKey
  kind : StaticKind
deriving DecidableEq, Repr

/-- The content the image keeps: the settings record, the commissioned fields of the 128 records, the 16 zone records
and the 32 static claim slots. The same type is the working copies' (11.2). -/
structure Content where
  settings : Settings
  openings : Vector Commissioned 128
  zones : Vector Zone 16
  statics : Vector (Option StaticEntry) 32
deriving DecidableEq, Repr

/-! ### Claim Manager -/

/-- The master that placed a dynamic claim (R29). -/
inductive Claimant
  | ventilation
  | security
deriving DecidableEq, Repr

/-- The scope of a dynamic claim with its subject, absent for ALL (R29). -/
inductive ClaimScope
  | opening (o : OpeningId)
  | zone (z : ZoneId)
  | all
deriving DecidableEq, Repr

/-- An entry of the Dynamic Claim Table (R29). -/
structure Claim where
  claimant : Claimant
  scope : ClaimScope
  position : Nat
  age : Nat
deriving DecidableEq, Repr

/-- The volatile state of the Claim Manager: the 192 slots (R29) and the moment from which the running aging period
counts, the last sweep or start-up (R33). -/
structure Claims where
  slots : Vector (Option Claim) 192
  sweepFrom : Nat
deriving DecidableEq, Repr

/-! ### Opening Table: enrollment-derived and live fields -/

/-- The enrollment-derived fields (R5): stroke time in s, rated current in 0.1 A. -/
structure Ability where
  stroke : Nat
  rated : Nat
  sense : Sense
  lockContact : Bool
  quiet : Bool
deriving DecidableEq, Repr

/-- Opening states, in the order of 1.3. -/
inductive OpeningState
  | absent
  | unenrolled
  | idle
  | queued
  | driving
  | stopping
  | dwell
  | resting
  | lost
  | faulted
  | lockedOut
deriving DecidableEq, Repr

/-- Dwell reasons (R6). -/
inductive DwellReason
  | reversal
  | obstruction
deriving DecidableEq, Repr

/-- A position: a whole number of percent, or UNKNOWN, which is no number (00_scope.md, 0.7). -/
inductive Position
  | percent (p : Nat)
  | unknown
deriving DecidableEq, Repr

/-- Job classes, most urgent first (R43). -/
inductive JobClass
  | weather
  | security
  | service
  | ventilation
  | fallback
deriving DecidableEq, Repr

/-- Stop causes, in the order R6 lists them. -/
inductive StopCause
  | retarget
  | cutoff
  | lockout
  | shed
  | hold
deriving DecidableEq, Repr

/-- Fault reasons (R6). -/
inductive FaultReason
  | failures
  | kindMismatch
  | rating
deriving DecidableEq, Repr

/-- A per-opening counter, 0..65535, with its saturated flag (R23). -/
structure Counter where
  value : Nat
  saturated : Bool
deriving DecidableEq, Repr

/-- The enrollment-derived and live fields of one record (R5, R6), its counters (R23), and the timers the Drive
Supervisor (R103) and the Segment Controllers (R119) keep for it. -/
structure Live where
  ability : Option Ability
  state : OpeningState
  dwellReason : Option DwellReason
  position : Position
  locked : Option Bool
  target : Option Nat
  jobClass : Option JobClass
  failureCount : Nat
  stopCause : Option StopCause
  faultReason : Option FaultReason
  linkDropped : Bool
  drivesCompleted : Counter
  cutOffs : Counter
  obstructions : Counter
  linkLosses : Counter
  restTimer : Option Timer
  dwellTimer : Option Timer
  followPoll : Option Timer
  reProbe : Option Timer
  /-- A re-probe that fell due during an orphan hold and waits for its end (R117, R129). -/
  reProbeHeld : Bool
deriving DecidableEq, Repr

/-! ### Closure Scheduler and Drive Supervisor -/

/-- Wait reasons, in the order of R87. -/
inductive WaitReason
  | noSlot
  | supply
  | pause
  | segment
  | battery
  | withheld
  | budget
  | behindBudget
deriving DecidableEq, Repr

/-- A job of the Closure Queue (R73); its wait reason is absent until a walk has left it in the queue. -/
structure Job where
  opening : OpeningId
  target : Nat
  cls : JobClass
  rank : Fin 8
  segment : Segment
  mark : Int
  wait : Option WaitReason
deriving DecidableEq, Repr

/-- Phases of a drive slot (R80). -/
inductive Phase
  | starting
  | running
  | stopping
  | orphan
deriving DecidableEq, Repr

/-- Speeds of a drive (R82). -/
inductive Speed
  | full
  | quiet
deriving DecidableEq, Repr

/-- An occupied drive slot (R79) with the timers held for it: the run-limit timer runs to runDeadline while runTimer
(R104), the orphan hold timer to orphanEnd (R116), and the progress-poll timer (R130). startWalk is the ordinal of
the start walk that started the drive: drives of one walk share it (R167, log entry 32). -/
structure Slot where
  opening : OpeningId
  phase : Phase
  direction : Direction
  target : Nat
  cls : JobClass
  speed : Speed
  reserved : Nat
  runDeadline : Nat
  startTime : Nat
  startWalk : Nat
  stopNaks : Nat
  runTimer : Bool
  orphanEnd : Option Nat
  progressPoll : Option Timer
deriving DecidableEq, Repr

/-! ### Segment Controllers -/

/-- The five kinds of request with their contents (R123). A DRIVE knows whether it is the start DRIVE of its drive
(R88, R93); an ENROLL knows the purposes it serves: a pass, a single enrollment, a re-probe (R133). -/
inductive RequestBody
  | stop
  | drive (target : Nat) (speed : Speed) (start : Bool)
  | progressPoll
  | enroll (pass single probe : Bool)
  | idlePoll
deriving DecidableEq, Repr

/-- A request of the pending transaction set, stamped with the moment it entered (R123). -/
structure Request where
  opening : OpeningId
  body : RequestBody
  stamp : Nat
deriving DecidableEq, Repr

/-- The transaction in flight: its request, the node address its frame went to, the BUSY replies taken, and its reply
window, which begins when the frame's last byte has left (R124, R125). A leftover is one whose opening was
written meanwhile (R123). -/
structure Transaction where
  opening : OpeningId
  body : RequestBody
  address : NodeAddress
  busyCount : Nat
  window : Option Timer
  leftover : Bool
deriving DecidableEq, Repr

/-- Pass states (R119). -/
inductive PassState
  | none
  | due
  | running
deriving DecidableEq, Repr

/-- The state of a Segment Controller (R119). The pending set is kept in the order its requests were asked for; the
resync list is ascending. -/
structure SegmentCtl where
  requests : List Request
  inFlight : Option Transaction
  turnaround : Option Timer
  counts : Vector Nat 64
  roundTimer : Option Timer
  resync : List OpeningId
  pass : PassState
deriving DecidableEq, Repr

/-! ### Hold Controllers -/

/-- Hold states (R142). -/
inductive HoldState
  | owned
  | releasing
  | granted
  | returning
deriving DecidableEq, Repr

/-- The state of a Hold Controller (R142); lines and levels are true when asserted. driversOff: the segment's line
drivers are at high impedance (R148). -/
structure Hold where
  filtered : Bool
  filterTimer : Option Timer
  rearm : Bool
  state : HoldState
  grantLine : Bool
  reclaimLine : Bool
  reclaimTimer : Option Timer
  returningTimer : Option Timer
  driversOff : Bool
deriving DecidableEq, Repr

/-! ### Notice Unit -/

/-- The event kinds, in the order of R183. -/
inductive EventKind
  | startUp
  | levelChanged
  | buildingClosedChanged
  | openingFaulted
  | nodeLost
  | claimExpired
  | holdChanged
  | supplyChanged
  | pauseTimeout
  | storeDone
  | advisoryEnded
deriving DecidableEq, Repr

/-- Detail of BUILDING_CLOSED_CHANGED (R183), with FORCED last (R201). -/
inductive BuildingDetail
  | closed
  | notClosed
  | forced
deriving DecidableEq, Repr

/-- Detail of CLAIM_EXPIRED (R183), with FORCED last. -/
inductive ExpiryReason
  | aged
  | zoneChanged
  | openingRemoved
  | forced
deriving DecidableEq, Repr

/-- Reasons of HOLD_CHANGED (R201). -/
inductive HoldReason
  | granted
  | released
  | revoked
  | forced
deriving DecidableEq, Repr

/-- Result of STORE_DONE (R183), with FORCED last. -/
inductive StoreResult
  | ok
  | writeFailed
  | forced
deriving DecidableEq, Repr

/-- The details kept with the latched kinds that carry one (R183). -/
structure Details where
  building : Option BuildingDetail
  claim : Option ExpiryReason
  hold : PerSegment (Option HoldReason)
  store : Option StoreResult
deriving DecidableEq, Repr

/-- A set of event kinds, bit n for the nth kind of R183 (R200). -/
abbrev KindSet := BitVec 11

/-- The Notice Unit's state for one port (R182). -/
structure NoticePort where
  latch : KindSet
  details : Details
  mask : KindSet
  attn : Bool
deriving DecidableEq, Repr

/-- The Notice Unit: its three ports and the building-closed status (R182, R189). -/
structure Notices where
  ports : PerPort NoticePort
  buildingClosed : Bool
deriving DecidableEq, Repr

/-! ### The drive core: what the Opening Table, Resolver set, Scheduler, Supervisor, Segment and Hold Controllers and
the Notice Unit hold between them -/

/-- The blocks that act together on a drive. walkTriggered: a start-walk trigger not yet satisfied (R83); walkCount:
start walks taken. -/
structure Core where
  openings : Vector Live 128
  resolveSet : List OpeningId
  queue : List Job
  slots : Vector (Option Slot) 8
  walkTriggered : Bool
  walkCount : Nat
  segments : PerSegment SegmentCtl
  holds : PerSegment Hold
  notices : Notices
deriving DecidableEq, Repr

/-! ### Weather Assessor -/

/-- The noise filter of a rain contact (R50). -/
structure RainFilter where
  level : Wetness
  timer : Option Timer
deriving DecidableEq, Repr

/-- The reported sector (R55). -/
inductive ReportedSector
  | stable (s : Sector)
  | unstable
  | none
deriving DecidableEq, Repr

/-- The stability timer with its candidate (R55). -/
structure Stability where
  timer : Timer
  candidate : Sector
deriving DecidableEq, Repr

/-- Kinds of advisory (R56). -/
inductive AdvisoryKind
  | rain
  | wind
deriving DecidableEq, Repr

/-- A present advisory, with the remaining times in minutes and the moment of its placing or last minute mark (R57). -/
structure Advisory where
  kind : AdvisoryKind
  lead : Nat
  time : Nat
  markFrom : Nat
deriving DecidableEq, Repr

/-- Weather Levels, in rising order (3). -/
inductive Level
  | calm
  | watch
  | closeExposed
  | closeAll
deriving DecidableEq, Repr

/-- The state of the Weather Assessor (R49): speeds in 0.1 m/s, the pulse count and beginning of the gust window in
progress (R52), the arc as bit n for sector n (R200), and the weather latches of the openings (R68). -/
structure Weather where
  roof : RainFilter
  facade : RainFilter
  rain : Wetness
  dryOut : Option Timer
  gust : Nat
  history : List Nat
  mean : Nat
  pulses : Nat
  windowFrom : Nat
  vane : Sector
  stable : Option Sector
  reported : ReportedSector
  stability : Option Stability
  advisory : Option Advisory
  level : Level
  standDown : Option Timer
  warmUp : Option Timer
  arc : BitVec 8
  latches : Vector Bool 128
deriving DecidableEq, Repr

/-! ### Supply Monitor -/

/-- Supply states (R154). -/
inductive SupplyState
  | normal
  | sag
  | outPending
  | out
deriving DecidableEq, Repr

/-- Pause states (R154). -/
inductive PauseState
  | none
  | paused
  | barred
deriving DecidableEq, Repr

/-- The Supply Monitor's judgements and timers (R154); the measurements stand in Inputs. -/
structure Supply where
  state : SupplyState
  rideThrough : Option Timer
  mains : MainsState
  mainsFilter : Option Timer
  pause : PauseState
  pauseLimit : Option Timer
  trip : Option Timer
deriving DecidableEq, Repr

/-! ### Master Ports -/

/-- Status codes of replies, in the order of R175. -/
inductive Status
  | ok
  | badLength
  | unknownRequest
  | notPermitted
  | outOfRange
  | noSuchOpening
  | zoneInvalid
  | notAdmitted
  | tableFull
  | notFound
  | conflict
  | wrongMode
  | busy
deriving DecidableEq, Repr

/-- A reply frame by its fields: request code as received, status, field index with OUT_OF_RANGE, reply fields with OK
(R199). Its bytes on the line are Reply.bytes. -/
structure Reply where
  code : Byte
  status : Status
  index : Option Byte
  fields : List Byte
deriving DecidableEq, Repr

/-- Assembly states of a port (R170). -/
inductive Assembly
  | hunting
  | assembling (bytes : List RxByte)
deriving DecidableEq, Repr

/-- The state of a master port (R170). -/
structure Port where
  assembly : Assembly
  buffer : Option (List RxByte)
  answering : Bool
  reply : Option Reply
deriving DecidableEq, Repr

/-! ### Settings Store -/

/-- Operating modes (R195). -/
inductive Mode
  | operate
  | commission
deriving DecidableEq, Repr

/-- Store states (R192). -/
inductive StoreState
  | idle
  | saving
deriving DecidableEq, Repr

/-- The Settings Store: mode, store state, image-valid, and the nonvolatile image with whether its CRC-32 matches
its contents (R192, log entry 8). -/
structure Store where
  mode : Mode
  state : StoreState
  imageValid : Bool
  image : Content
  crcMatches : Bool
deriving DecidableEq, Repr

/-! ### Inputs and reset -/

/-- The raw levels on the inputs and the two measurements, in 0.1 V and 0.1 A (R50, R54, R143, R154, R161). -/
structure Inputs where
  rainRoof : Wetness
  rainFacade : Wetness
  vane : BitVec 3
  holdreq : PerSegment Bool
  mainsLine : MainsState
  voltage : Nat
  current : Nat
deriving DecidableEq, Repr

/-- The three kinds of reset (R196). -/
inductive ResetKind
  | powerOn
  | pin
  | soft
deriving DecidableEq, Repr

/-- Where the part stands between reset and running: held in reset, loaded with START_UP still to be latched (R197,
R198), or running. -/
inductive RunPhase
  | held (kind : ResetKind)
  | loaded
  | running
deriving DecidableEq, Repr

/-- What the drive core reads of the other blocks while an event is taken: the moment, the working copies, the level
and the latches, and the supply judgements. -/
structure Env where
  now : Nat
  work : Content
  level : Level
  latches : Vector Bool 128
  supply : SupplyState
  mains : MainsState
  paused : Bool

end Sys2Proof.Machine
end

