-- ==== Sys2Proof/Machine/Access.lean ====
section
/-! DEFINITION. Reading and writing numbered state: rows of a table, the items of a port or a segment, timers and
counters. -/

namespace Sys2Proof.Machine

/-! ### Tables -/

/-- The row with number i. -/
def look {α : Type} {n : Nat} (v : Vector α n) (i : Fin n) : α := v[i.val]'i.isLt

/-- The table with row i replaced. -/
def put {α : Type} {n : Nat} (v : Vector α n) (i : Fin n) (x : α) : Vector α n := v.set i.val x i.isLt

/-- The table whose row i is f i. -/
def tabulate {α : Type} {n : Nat} (f : Fin n → α) : Vector α n :=
  ⟨⟨(List.finRange n).map f⟩, by simp⟩

/-- The 128 opening numbers in ascending order. -/
def allOpenings : List OpeningId := List.finRange 128

/-- The 8 slot numbers in ascending order. -/
def allSlots : List SlotId := List.finRange 8

/-- Both segments, 0 first. -/
def allSegments : List Segment := [.seg0, .seg1]

/-- The lowest number of a table whose row passes a test. -/
def lowest {α : Type} {n : Nat} (v : Vector α n) (test : α → Bool) : Option (Fin n) :=
  (List.finRange n).find? fun i => test (look v i)

/-- A byte as a number below n, if it is one. -/
def finOf? (n : Nat) (v : Nat) : Option (Fin n) := if h : v < n then some ⟨v, h⟩ else none

/-! ### Ports and segments -/

/-- The item of a port. -/
def PerPort.get {α : Type} (t : PerPort α) : Role → α
  | .ventilation => t.ventilation
  | .security => t.security
  | .service => t.service

/-- The items with one port's replaced. -/
def PerPort.set {α : Type} (t : PerPort α) (p : Role) (x : α) : PerPort α :=
  match p with
  | .ventilation => { t with ventilation := x }
  | .security => { t with security := x }
  | .service => { t with service := x }

/-- The same item on each port. -/
def PerPort.all {α : Type} (x : α) : PerPort α := ⟨x, x, x⟩

/-- Each port's item changed by f. -/
def PerPort.mapWith {α β : Type} (t : PerPort α) (f : Role → α → β) : PerPort β :=
  ⟨f .ventilation t.ventilation, f .security t.security, f .service t.service⟩

/-- The item of a segment. -/
def PerSegment.get {α : Type} (t : PerSegment α) : Segment → α
  | .seg0 => t.seg0
  | .seg1 => t.seg1

/-- The items with one segment's replaced. -/
def PerSegment.set {α : Type} (t : PerSegment α) (g : Segment) (x : α) : PerSegment α :=
  match g with
  | .seg0 => { t with seg0 := x }
  | .seg1 => { t with seg1 := x }

/-- The same item on each segment. -/
def PerSegment.all {α : Type} (x : α) : PerSegment α := ⟨x, x⟩

/-! ### Timers (log entry 1) -/

/-- The moment a timer expires. -/
def Timer.deadline (t : Timer) : Nat := t.start + t.length

/-- The time remaining of a timer, 0 when stopped (R63, R153, R169). -/
def remaining (now : Nat) : Option Timer → Nat
  | none => 0
  | some t => t.deadline - now

/-- Milliseconds as whole seconds rounded up (R7, R71, R103). -/
def secondsUp (ms : Nat) : Nat := (ms + 999) / 1000

/-- A timer begun now. -/
def startTimer (now length : Nat) : Option Timer := some { start := now, length := length }

/-- A filter's timer when its raw level changes (R50, R143, R161): it runs while the raw level is opposite the
filtered one; a change toward the same level does not restart it. -/
def debounce (now length : Nat) (opposite : Bool) (running : Option Timer) : Option Timer :=
  if opposite then
    match running with
    | some t => some t
    | none => startTimer now length
  else none

/-- A running timer whose setting has changed: the new length is measured from its start (R50, R51, R63, R150). -/
def retime (length : Nat) (t : Option Timer) : Option Timer := t.map fun r => { r with length := length }

/-- Whether a running timer's moment has passed. -/
def overdue (now : Nat) : Option Timer → Bool
  | none => false
  | some t => decide (t.deadline ≤ now)

/-! ### Counters (R23) -/

/-- An increment: at 65535 the value stays and the saturated flag is set. -/
def Counter.bump (c : Counter) : Counter :=
  if c.value < 65535 then { c with value := c.value + 1 } else { c with saturated := true }

/-- A counter at 0 with its flag clear. -/
def Counter.zero : Counter := ⟨0, false⟩

/-! ### Ascending sets of opening numbers (R42, R119) -/

/-- The set with an opening number in it; a member stays a single member. -/
def insertAscending (o : OpeningId) : List OpeningId → List OpeningId
  | [] => [o]
  | x :: rest => if o < x then o :: x :: rest else if o = x then x :: rest else x :: insertAscending o rest

end Sys2Proof.Machine
end

