-- ==== Sys2Proof/Machine/Timing.lean ====
section
/-! DEFINITION. The durations that are no settings, in milliseconds, and the bounds on pulses and falls in
microseconds. -/

namespace Sys2Proof.Machine

/-- A gust window (R52). -/
def gustWindowMs : Nat := 3000
/-- The stability time of the vane (R55). -/
def stabilityMs : Nat := 5000
/-- One minute of an advisory (R57). -/
def minuteMs : Nat := 60000
/-- Warm-up (R64). -/
def warmUpMs : Nat := 60000
/-- The reversal dwell (R17, R95). -/
def reversalDwellMs : Nat := 2000
/-- From a run-limit deadline to the hold end of an orphan slot (R116). -/
def orphanMarginMs : Nat := 5000
/-- The reply window (R125). -/
def replyWindowMs : Nat := 20
/-- The ordinary turnaround (R125). -/
def turnaroundMs : Nat := 2
/-- The turnaround from a hold, and the returning timer (R125, R152). -/
def returningMs : Nat := 50
/-- The progress-poll timer (R130). -/
def progressPollMs : Nat := 1000
/-- The idle-poll round (R131). -/
def idleRoundMs : Nat := 30000
/-- The follow-poll timer (R132). -/
def followPollMs : Nat := 1000
/-- The re-probe and the enrollment retry (R129, R133). -/
def reProbeMs : Nat := 10000
/-- The HOLDREQ filter (R143). -/
def holdreqFilterMs : Nat := 10
/-- Ride-through (R156). -/
def rideThroughMs : Nat := 300
/-- The mains filter (R161). -/
def mainsFilterMs : Nat := 1000
/-- The pause limit (R165). -/
def pauseLimitMs : Nat := 10000
/-- The trip timer (R166). -/
def tripMs : Nat := 1000
/-- A pulse is counted from this length, in microseconds (R52). -/
def pulseMinMicros : Nat := 2000
/-- A logic-supply fall longer than this resets, in microseconds (R168). -/
def logicFallMicros : Nat := 50

/-- A duration in whole seconds, in milliseconds. -/
def seconds (s : Nat) : Nat := s * 1000

end Sys2Proof.Machine
end

