-- ==== Sys2Proof/Machine/Flags.lean ====
section
/-! DEFINITION. The Notice Unit: event latches, details, masks and ATTN (R182 to R187). -/

namespace Sys2Proof.Machine

/-- A kind's number in R183: its bit in a set of kinds (R200). -/
def EventKind.index : EventKind → Nat
  | .startUp => 0
  | .levelChanged => 1
  | .buildingClosedChanged => 2
  | .openingFaulted => 3
  | .nodeLost => 4
  | .claimExpired => 5
  | .holdChanged => 6
  | .supplyChanged => 7
  | .pauseTimeout => 8
  | .storeDone => 9
  | .advisoryEnded => 10

/-- The set of one kind. -/
def EventKind.bit (k : EventKind) : KindSet := 1#11 <<< k.index

/-- Whether a kind is in a set. -/
def hasKind (s : KindSet) (k : EventKind) : Bool := s.getLsbD k.index

/-- Every kind (R182). -/
def everyKind : KindSet := BitVec.allOnes 11

/-- No details (R182). -/
def Details.absent : Details := ⟨none, none, ⟨none, none⟩, none⟩

/-- The port whose claimant this is (R29). -/
def Claimant.port : Claimant → Role
  | .ventilation => .ventilation
  | .security => .security

/-- An event handed to the Notice Unit with its detail (R183). -/
inductive Happening
  | startUp
  | levelChanged
  | buildingClosedChanged (closed : Bool)
  | openingFaulted
  | nodeLost
  | claimExpired (claimant : Claimant) (reason : ExpiryReason)
  | holdChanged (segment : Segment) (reason : HoldReason)
  | supplyChanged
  | pauseTimeout
  | storeDone (result : StoreResult)
  | advisoryEnded
deriving DecidableEq, Repr

/-- The kind of a happening. -/
def Happening.kind : Happening → EventKind
  | .startUp => .startUp
  | .levelChanged => .levelChanged
  | .buildingClosedChanged _ => .buildingClosedChanged
  | .openingFaulted => .openingFaulted
  | .nodeLost => .nodeLost
  | .claimExpired _ _ => .claimExpired
  | .holdChanged _ _ => .holdChanged
  | .supplyChanged => .supplyChanged
  | .pauseTimeout => .pauseTimeout
  | .storeDone _ => .storeDone
  | .advisoryEnded => .advisoryEnded

/-- The ports a happening is latched on (R183): all ports, but the claimant's port for CLAIM_EXPIRED, the Service port
for STORE_DONE and the Ventilation port for ADVISORY_ENDED. -/
def Happening.latchedOn : Happening → Role → Bool
  | .claimExpired c _, p => p == c.port
  | .storeDone _, p => p == .service
  | .advisoryEnded, p => p == .ventilation
  | _, _ => true

/-- The details after a happening (R184): its own is set or replaced; a HOLD_CHANGED leaves the other segment's reason. -/
def Happening.detail (h : Happening) (d : Details) : Details :=
  match h with
  | .buildingClosedChanged closed => { d with building := some (if closed then .closed else .notClosed) }
  | .claimExpired _ reason => { d with claim := some reason }
  | .holdChanged segment reason => { d with hold := d.hold.set segment (some reason) }
  | .storeDone result => { d with store := some result }
  | .startUp => d
  | .levelChanged => d
  | .openingFaulted => d
  | .nodeLost => d
  | .supplyChanged => d
  | .pauseTimeout => d
  | .advisoryEnded => d

/-- ATTN derived again: asserted while some kind is in both the latch and the mask (R185). -/
def NoticePort.deriveAttn (p : NoticePort) : NoticePort := { p with attn := (p.latch &&& p.mask) != 0#11 }

/-- A happening latched on one port (R184). -/
def NoticePort.latchEvent (p : NoticePort) (h : Happening) : NoticePort :=
  { p with latch := p.latch ||| h.kind.bit, details := h.detail p.details }.deriveAttn

/-- A happening handed to the Notice Unit: latched on each port R183 names, in one event (R184). -/
def Notices.hand (n : Notices) (h : Happening) : Notices :=
  { n with ports := n.ports.mapWith fun role p => if h.latchedOn role then p.latchEvent h else p }

/-- The details with every forced kind's set to FORCED (R187). -/
def forcedDetails (kinds : KindSet) (d : Details) : Details :=
  { building := if hasKind kinds .buildingClosedChanged then some .forced else d.building
    claim := if hasKind kinds .claimExpired then some .forced else d.claim
    hold := if hasKind kinds .holdChanged then ⟨some .forced, some .forced⟩ else d.hold
    store := if hasKind kinds .storeDone then some .forced else d.store }

/-- FORCE_EVENT on one port (R187). -/
def NoticePort.force (p : NoticePort) (kinds : KindSet) : NoticePort :=
  { p with latch := p.latch ||| kinds, details := forcedDetails kinds p.details }.deriveAttn

/-- SET_MASK on one port (R185). -/
def NoticePort.setMask (p : NoticePort) (kinds : KindSet) : NoticePort := { p with mask := kinds }.deriveAttn

/-- READ_EVENTS on one port: the kinds returned leave the latch, their details become absent (R186). -/
def NoticePort.clearRead (p : NoticePort) : NoticePort :=
  { p with latch := 0#11, details := Details.absent }.deriveAttn

/-- A port's notices after reset: empty latch, no details, every kind in the mask, ATTN as derived (R182). -/
def NoticePort.fresh : NoticePort := { latch := 0#11, details := Details.absent, mask := everyKind, attn := false }

/-- A two-byte set of kinds, if it names nothing but the kinds of R183 (R185, R187, R200). -/
def kindSetOf? (w : Word16) : Option KindSet := if w.toNat < 2048 then some (BitVec.ofNat 11 w.toNat) else none

end Sys2Proof.Machine
end

