-- ==== Sys2Proof/Machine/Defaults.lean ====
section
/-! DEFINITION. The default content of 11.2 and the values the blocks take when start-up clears the volatile state. -/

namespace Sys2Proof.Machine

/-- The default settings, in the units of R200 (R191). -/
def Settings.default : Settings :=
  { agingPeriod := 60, rainFilterTime := 2, dryOutTime := 600, anemometerConstant := 70
    watchGustSet := 100, watchGustRelease := 80, closeMeanSet := 80, closeMeanRelease := 60
    drivingRainSet := 50, drivingRainRelease := 35, stormGustSet := 170, stormGustRelease := 140
    standDownTime := 900, leadThreshold := 20, watchCeiling := 25, restInterval := 120
    obstructionDwell := 30, reclaimTimeout := 20, mainsBudget := 200, batteryBudget := 80
    highMark := 95, lowMark := 80, sagSet := 210, sagRelease := 225, outSet := 180, outRelease := 200 }

/-- The default commissioned fields (R2). -/
def Commissioned.default : Commissioned :=
  { present := false, segment := .seg0, node := 0, kind := .window, zone := 0, facade := .side 0, rank := 0
    sheltered := false }

/-- The default zone record (R25). -/
def Zone.default : Zone :=
  { valid := false, admitVentilation := false, admitSecurity := false, ceiling := 100, fallback := .stay }

/-- The content that takes the place of an image that fails (R192). -/
def Content.default : Content :=
  { settings := Settings.default
    openings := Vector.replicate 128 Commissioned.default
    zones := Vector.replicate 16 Zone.default
    statics := Vector.replicate 32 none }

/-- The live fields of a record after reset, its counters and link-drop latch as given (R5, R6, R11, R23). -/
def Live.afterReset (present linkDropped : Bool) (completed cutOffs obstructions losses : Counter) : Live :=
  { ability := none, state := if present then .unenrolled else .absent, dwellReason := none
    position := .unknown, locked := none, target := none, jobClass := none, failureCount := 0
    stopCause := none, faultReason := none, linkDropped := linkDropped, drivesCompleted := completed
    cutOffs := cutOffs, obstructions := obstructions, linkLosses := losses, restTimer := none
    dwellTimer := none, followPoll := none, reProbe := none, reProbeHeld := false }

/-- A record as start-up leaves it, keeping what the earlier record kept (R6, R22, R23). -/
def Live.restart (present : Bool) (l : Live) : Live :=
  Live.afterReset present l.linkDropped l.drivesCompleted l.cutOffs l.obstructions l.linkLosses

/-- An absent record with its counters at 0 and its link-drop latch intact. -/
def Live.blank : Live := Live.afterReset false false Counter.zero Counter.zero Counter.zero Counter.zero

/-- A Segment Controller as start-up clears it, before its pass (R119). -/
def SegmentCtl.fresh (now : Nat) : SegmentCtl :=
  { requests := [], inFlight := none, turnaround := none, counts := Vector.replicate 64 0
    roundTimer := startTimer now idleRoundMs, resync := [], pass := .none }

/-- A Hold Controller after reset, from the raw level of HOLDREQ (R142). -/
def Hold.fresh (raw : Bool) : Hold :=
  { filtered := raw, filterTimer := none, rearm := raw, state := .owned, grantLine := false
    reclaimLine := false, reclaimTimer := none, returningTimer := none, driversOff := false }

/-- A master port that hunts (R170). -/
def Port.hunting : Port := { assembly := .hunting, buffer := none, answering := false, reply := none }

/-- An empty Dynamic Claim Table, its aging period counted from now (R29, R33). -/
def Claims.fresh (now : Nat) : Claims := { slots := Vector.replicate 192 none, sweepFrom := now }

/-- A rain filter after reset, from the raw reading (R49, R50). -/
def RainFilter.fresh (now length : Nat) (raw : Wetness) : RainFilter :=
  { level := .dry, timer := debounce now length (decide (raw = .wet)) none }

/-- The sector of the vane's three lines, the first line the most significant bit (R54). -/
def sectorOf (lines : BitVec 3) : Sector :=
  match lines.toNat with
  | 0 => 0
  | 1 => 1
  | 3 => 2
  | 2 => 3
  | 6 => 4
  | 7 => 5
  | 5 => 6
  | _ => 7

/-- The Weather Assessor after reset (R49, R64). -/
def Weather.fresh (now rainFilterTime : Nat) (roof facade : Wetness) (vane : BitVec 3) : Weather :=
  { roof := RainFilter.fresh now (seconds rainFilterTime) roof
    facade := RainFilter.fresh now (seconds rainFilterTime) facade
    rain := .dry, dryOut := none, gust := 0, history := [], mean := 0, pulses := 0, windowFrom := now
    vane := sectorOf vane, stable := none, reported := .none
    stability := some { timer := { start := now, length := stabilityMs }, candidate := sectorOf vane }
    advisory := none, level := .watch, standDown := none, warmUp := startTimer now warmUpMs
    arc := BitVec.allOnes 8, latches := Vector.replicate 128 false }

/-- The Notice Unit as the load event leaves it, with the building-closed status evaluated (R182, R197). -/
def Notices.fresh (closed : Bool) : Notices := { ports := PerPort.all NoticePort.fresh, buildingClosed := closed }

end Sys2Proof.Machine
end

