-- ==== Sys2Proof/Machine/Operands.lean ====
section
/-! DEFINITION. The requests of the master ports and their operand forms: codes, payloads, roles, the codes of
enumerations, and the ranges of the settings (R174 to R176, R179, R191, R199, R200). -/

namespace Sys2Proof.Machine

/-! ### Requests -/

/-- The requests of R200 with their payload fields in field-index order. -/
inductive MasterRequest
  | readOpening (opening : Byte)
  | readBlock (first : Byte)
  | readWeather (page : Byte)
  | readStatus
  | readEvents
  | setMask (kinds : Word16)
  | forceEvent (kinds : Word16)
  | claim (scope subject position : Byte)
  | release (scope subject : Byte)
  | advisory (kind lead : Byte) (duration : Word16)
  | staticSet (scope subject kind position : Byte)
  | staticClear (scope subject : Byte)
  | readStatic (slot : Byte)
  | readClaim (slot : Byte)
  | zoneRead (zone : Byte)
  | readCounters (opening : Byte)
  | clearFault (opening : Byte)
  | resync (segments : Byte)
  | openingWrite (opening present segment node kind zone facade rank sheltered : Byte)
  | zoneWrite (zone valid admitVentilation admitSecurity ceiling fallback : Byte)
  | settingsWrite (record : Settings)
  | settingsRead
  | save
  | mode (wanted : Byte)
  | reset
deriving DecidableEq, Repr

/-- A request's code (R200). -/
def MasterRequest.code : MasterRequest → Byte
  | .readOpening _ => 1
  | .readBlock _ => 2
  | .readWeather _ => 3
  | .readStatus => 4
  | .readEvents => 5
  | .setMask _ => 6
  | .forceEvent _ => 7
  | .claim _ _ _ => 8
  | .release _ _ => 9
  | .advisory _ _ _ => 10
  | .staticSet _ _ _ _ => 11
  | .staticClear _ _ => 12
  | .readStatic _ => 13
  | .readClaim _ => 14
  | .zoneRead _ => 15
  | .readCounters _ => 16
  | .clearFault _ => 17
  | .resync _ => 18
  | .openingWrite _ _ _ _ _ _ _ _ _ => 19
  | .zoneWrite _ _ _ _ _ _ => 20
  | .settingsWrite _ => 21
  | .settingsRead => 22
  | .save => 23
  | .mode _ => 24
  | .reset => 25

/-- The roles permitted a request (R176). -/
def MasterRequest.permits (r : MasterRequest) (p : Role) : Bool :=
  match r with
  | .readOpening _ => true
  | .readBlock _ => true
  | .readWeather _ => true
  | .readStatus => true
  | .readEvents => true
  | .setMask _ => true
  | .forceEvent _ => true
  | .claim _ _ _ => decide (p ≠ .service)
  | .release _ _ => decide (p ≠ .service)
  | .advisory _ _ _ => decide (p = .ventilation)
  | _ => decide (p = .service)

/-! ### The settings record (R191, R200) -/

/-- The 26 settings in field order. -/
def settingsToList (s : Settings) : List Nat :=
  [s.agingPeriod, s.rainFilterTime, s.dryOutTime, s.anemometerConstant, s.watchGustSet, s.watchGustRelease,
    s.closeMeanSet, s.closeMeanRelease, s.drivingRainSet, s.drivingRainRelease, s.stormGustSet, s.stormGustRelease,
    s.standDownTime] ++
  [s.leadThreshold, s.watchCeiling, s.restInterval, s.obstructionDwell, s.reclaimTimeout, s.mainsBudget,
    s.batteryBudget, s.highMark, s.lowMark, s.sagSet, s.sagRelease, s.outSet, s.outRelease]

/-- The record with 26 settings in field order. -/
def settingsOfList : List Nat → Option Settings
  | [f1, f2, f3, f4, f5, f6, f7, f8, f9, f10, f11, f12, f13, f14, f15, f16, f17, f18, f19, f20, f21, f22, f23, f24,
      f25, f26] =>
    some ⟨f1, f2, f3, f4, f5, f6, f7, f8, f9, f10, f11, f12, f13, f14, f15, f16, f17, f18, f19, f20, f21, f22, f23,
      f24, f25, f26⟩
  | _ => none

/-- Whether each field takes two bytes (R200). -/
def settingIsWide : List Bool :=
  [true, false, true, false, true, true, true, true, true, true, true, true, true] ++
  [false, false, true, false, false, true, true, false, false, true, true, true, true]

/-- Fields laid out in their sizes. -/
def layFields : List Bool → List Nat → List Byte
  | true :: ws, n :: ns => twoBytes n ++ layFields ws ns
  | false :: ws, n :: ns => byteOf n :: layFields ws ns
  | _, _ => []

/-- Bytes read as fields of given sizes, if they are exactly as many. -/
def splitFields : List Bool → List Byte → Option (List Nat)
  | [], [] => some []
  | true :: ws, high :: low :: rest => (splitFields ws rest).map fun ns => (joinBytes high low).toNat :: ns
  | false :: ws, b :: rest => (splitFields ws rest).map fun ns => b.toNat :: ns
  | _, _ => none

/-- The settings record's bytes. -/
def settingsBytes (s : Settings) : List Byte := layFields settingIsWide (settingsToList s)

/-- A value from low to high, both included. -/
def between (low high v : Nat) : Bool := decide (low ≤ v) && decide (v ≤ high)

/-- Whether each field lies in its range, in field order (R191). -/
def settingsInRange (s : Settings) : List Bool :=
  [between 10 600 s.agingPeriod, decide (s.rainFilterTime = 2) || decide (s.rainFilterTime = 8),
    between 60 3600 s.dryOutTime, between 1 255 s.anemometerConstant, between 0 600 s.watchGustSet,
    between 0 600 s.watchGustRelease, between 0 600 s.closeMeanSet, between 0 600 s.closeMeanRelease,
    between 0 600 s.drivingRainSet, between 0 600 s.drivingRainRelease, between 0 600 s.stormGustSet,
    between 0 600 s.stormGustRelease, between 60 3600 s.standDownTime] ++
  [between 0 240 s.leadThreshold, between 0 100 s.watchCeiling, between 0 600 s.restInterval,
    between 5 120 s.obstructionDwell, between 5 120 s.reclaimTimeout, between 5 600 s.mainsBudget,
    between 5 600 s.batteryBudget, between 50 100 s.highMark, between 10 95 s.lowMark, between 100 400 s.sagSet,
    between 100 400 s.sagRelease, between 100 400 s.outSet, between 100 400 s.outRelease]

/-- The field index of the first broken relation, in the order of R179; a supply-level break names the first field
that takes part in a false comparison (R155). -/
def brokenRelation (s : Settings) : Option Nat :=
  if ¬s.stormGustRelease < s.stormGustSet then some 12
  else if ¬s.drivingRainRelease < s.drivingRainSet then some 10
  else if ¬s.closeMeanRelease < s.closeMeanSet then some 8
  else if ¬s.watchGustRelease < s.watchGustSet then some 6
  else if ¬s.sagSet < s.sagRelease ∨ ¬s.outSet < s.sagSet then some 23
  else if ¬s.outRelease < s.sagRelease then some 24
  else if ¬s.outSet < s.outRelease then some 25
  else if ¬s.batteryBudget ≤ s.mainsBudget then some 20
  else if ¬s.lowMark < s.highMark then some 22
  else none

/-- The number, counted from 1, of the first check that fails. -/
def firstFault (checks : List Bool) : Option Nat := (checks.findIdx? fun b => !b).map (· + 1)

/-- The field index with which a settings record is refused OUT_OF_RANGE, if it is (R179 rows 3 and 4). -/
def settingsFault (s : Settings) : Option Nat := (firstFault (settingsInRange s)).or (brokenRelation s)

/-! ### Payloads (R200) -/

/-- A request's payload bytes. -/
def MasterRequest.payload : MasterRequest → List Byte
  | .readOpening a => [a]
  | .readBlock a => [a]
  | .readWeather a => [a]
  | .readStatus => []
  | .readEvents => []
  | .setMask w => [highByte w, lowByte w]
  | .forceEvent w => [highByte w, lowByte w]
  | .claim a b c => [a, b, c]
  | .release a b => [a, b]
  | .advisory a b w => [a, b, highByte w, lowByte w]
  | .staticSet a b c d => [a, b, c, d]
  | .staticClear a b => [a, b]
  | .readStatic a => [a]
  | .readClaim a => [a]
  | .zoneRead a => [a]
  | .readCounters a => [a]
  | .clearFault a => [a]
  | .resync a => [a]
  | .openingWrite a b c d e f g h i => [a, b, c, d, e, f, g, h, i]
  | .zoneWrite a b c d e f => [a, b, c, d, e, f]
  | .settingsWrite s => settingsBytes s
  | .settingsRead => []
  | .save => []
  | .mode a => [a]
  | .reset => []

/-- Whether a code is one of R176's (R174 row 1). -/
def knownCode (code : Byte) : Bool := decide (1 ≤ code.toNat) && decide (code.toNat ≤ 25)

/-- A known code's request with a payload, if the length is the one R200 gives (R174 row 2). -/
def requestOf (code : Byte) (payload : List Byte) : Option MasterRequest :=
  match code.toNat, payload with
  | 1, [a] => some (.readOpening a)
  | 2, [a] => some (.readBlock a)
  | 3, [a] => some (.readWeather a)
  | 4, [] => some .readStatus
  | 5, [] => some .readEvents
  | 6, [a, b] => some (.setMask (joinBytes a b))
  | 7, [a, b] => some (.forceEvent (joinBytes a b))
  | 8, [a, b, c] => some (.claim a b c)
  | 9, [a, b] => some (.release a b)
  | 10, [a, b, c, d] => some (.advisory a b (joinBytes c d))
  | 11, [a, b, c, d] => some (.staticSet a b c d)
  | 12, [a, b] => some (.staticClear a b)
  | 13, [a] => some (.readStatic a)
  | 14, [a] => some (.readClaim a)
  | 15, [a] => some (.zoneRead a)
  | 16, [a] => some (.readCounters a)
  | 17, [a] => some (.clearFault a)
  | 18, [a] => some (.resync a)
  | 19, [a, b, c, d, e, f, g, h, i] => some (.openingWrite a b c d e f g h i)
  | 20, [a, b, c, d, e, f] => some (.zoneWrite a b c d e f)
  | 21, bytes => ((splitFields settingIsWide bytes).bind settingsOfList).map .settingsWrite
  | 22, [] => some .settingsRead
  | 23, [] => some .save
  | 24, [a] => some (.mode a)
  | 25, [] => some .reset
  | _, _ => none

/-- A request's frame on the line (R199). -/
def MasterRequest.frame (r : MasterRequest) : List Byte :=
  let body := byteOf (r.payload.length + 5) :: r.code :: r.payload
  (0x5A#8 :: body) ++ [highByte (crc16 body), lowByte (crc16 body)]

/-! ### Verdicts and replies (R174, R175, R199) -/

/-- The answer to a request (R174, R175). -/
inductive Verdict
  | ok (fields : List Byte)
  | refused (status : Status)
  | outOfRange (index : Nat)
deriving DecidableEq, Repr

/-- The reply frame of a verdict (R199). -/
def Verdict.reply (code : Byte) : Verdict → Reply
  | .ok fields => { code := code, status := .ok, index := none, fields := fields }
  | .refused s => { code := code, status := s, index := none, fields := [] }
  | .outOfRange i => { code := code, status := .outOfRange, index := some (byteOf i), fields := [] }

/-- A status code on the line, in the order of R175 (R199). -/
def Status.code : Status → Byte
  | .ok => 0
  | .badLength => 1
  | .unknownRequest => 2
  | .notPermitted => 3
  | .outOfRange => 4
  | .noSuchOpening => 5
  | .zoneInvalid => 6
  | .notAdmitted => 7
  | .tableFull => 8
  | .notFound => 9
  | .conflict => 10
  | .wrongMode => 11
  | .busy => 12

/-- A reply's bytes on the line (R199). -/
def Reply.bytes (r : Reply) : List Byte :=
  let content := r.code :: r.status.code :: (r.index.toList ++ r.fields)
  let body := byteOf (content.length + 4) :: content
  (0x5B#8 :: body) ++ [highByte (crc16 body), lowByte (crc16 body)]

/-! ### Codes of enumerations (R200) -/

/-- yes or no. -/
def boolOf? (b : Byte) : Option Bool :=
  match b.toNat with
  | 0 => some false
  | 1 => some true
  | _ => none

/-- A position 0..100. -/
def positionOf? (b : Byte) : Option Nat := if b.toNat ≤ 100 then some b.toNat else none

/-- A segment. -/
def segmentOf? (b : Byte) : Option Segment :=
  match b.toNat with
  | 0 => some .seg0
  | 1 => some .seg1
  | _ => none

/-- A kind of opening. -/
def kindOf? (b : Byte) : Option Kind :=
  match b.toNat with
  | 0 => some .window
  | 1 => some .skylight
  | _ => none

/-- A facade, ROOF being 8. -/
def facadeOf? (b : Byte) : Option Facade :=
  if b.toNat = 8 then some .roof else (finOf? 8 b.toNat).map .side

/-- A fallback. -/
def fallbackOf? (b : Byte) : Option Fallback :=
  match b.toNat with
  | 0 => some .stay
  | 1 => some .close
  | _ => none

/-- A mode. -/
def modeOf? (b : Byte) : Option Mode :=
  match b.toNat with
  | 0 => some .operate
  | 1 => some .commission
  | _ => none

/-- A kind of advisory. -/
def advisoryKindOf? (b : Byte) : Option AdvisoryKind :=
  match b.toNat with
  | 0 => some .rain
  | 1 => some .wind
  | _ => none

/-- The segments RESYNC names (R138, R200). -/
def resyncOf? (b : Byte) : Option (List Segment) :=
  match b.toNat with
  | 0 => some [.seg0]
  | 1 => some [.seg1]
  | 2 => some [.seg0, .seg1]
  | _ => none

/-- A dynamic claim's scope with its subject, or the index of the field at fault (R30, R32). -/
def claimScopeOf (scope subject : Byte) : Except Nat ClaimScope :=
  match scope.toNat with
  | 0 =>
    match finOf? 128 subject.toNat with
    | some o => .ok (.opening o)
    | none => .error 2
  | 1 =>
    match finOf? 16 subject.toNat with
    | some z => .ok (.zone z)
    | none => .error 2
  | 2 => .ok .all
  | _ => .error 1

/-- A static claim's key, or the index of the field at fault (R39, R40). -/
def staticKeyOf (scope subject : Byte) : Except Nat StaticKey :=
  match scope.toNat with
  | 0 =>
    match finOf? 128 subject.toNat with
    | some o => .ok (.opening o)
    | none => .error 2
  | 1 =>
    match finOf? 16 subject.toNat with
    | some z => .ok (.zone z)
    | none => .error 2
  | _ => .error 1

/-- A static claim's kind, or the index of the field at fault; the position of a LOCKOUT is ignored (R39, R200). -/
def staticKindOf (kind position : Byte) : Except Nat StaticKind :=
  match kind.toNat with
  | 0 => .ok .lockout
  | 1 =>
    match positionOf? position with
    | some p => .ok (.pin p)
    | none => .error 4
  | _ => .error 3

end Sys2Proof.Machine
end

