-- ==== Sys2Proof/Machine/State.lean ====
section
/-! DEFINITION. The machine's state as plain data, the two closed reasons for which a step could stop, and the machine
right after reset. -/

namespace Sys2Proof.Machine

/-- The whole of the CL128, with the queue of commands that wait. -/
structure State where
  /-- The commands waiting, first in first out. -/
  pending : List Instr
  /-- The moment, in milliseconds (log entry 1). -/
  clock : Nat
  /-- Held in reset, loaded or running (R196 to R198). -/
  phase : RunPhase
  /-- The raw inputs and the two measurements. -/
  inputs : Inputs
  /-- The master ports (R170). -/
  ports : PerPort Port
  /-- Mode, store state, image-valid and the image (R192 to R195). -/
  store : Store
  /-- The working copies (R191, R2, R25, R38). -/
  work : Content
  /-- The Dynamic Claim Table and its sweep timer (R29, R33). -/
  claims : Claims
  /-- The Weather Assessor (R49). -/
  weather : Weather
  /-- The Supply Monitor (R154). -/
  supply : Supply
  /-- The blocks that act together on a drive, and the Notice Unit. -/
  core : Core
deriving DecidableEq, Repr

/-- Why a step stops with a fault: nothing in the spec stops the part, so there is no reason and no command raises
one. Safe. -/
inductive Fault
deriving DecidableEq, Repr

/-- Why a step has no meaning for its command. -/
inductive Refusal
  /-- The command has no meaning yet: raised by no arm of exec. Safe. -/
  | notModelled (mnemonic : String)
deriving DecidableEq, Repr

/-- What the drive core reads of the other blocks. -/
def State.env (s : State) : Env :=
  { now := s.clock, work := s.work, level := s.weather.level, latches := s.weather.latches
    supply := s.supply.state, mains := s.supply.mains, paused := decide (s.supply.pause = .paused) }

/-- The inputs at reset (log entry 6). -/
def Inputs.atReset : Inputs :=
  { rainRoof := .dry, rainFacade := .dry, vane := 0#3, holdreq := PerSegment.all false, mainsLine := .mains
    voltage := 241, current := 0 }

/-- The machine right after the load event of a power-on reset whose image fails its check: the values R197 gives for
the inputs of log entry 6, before the notice event (log entries 5 and 7). -/
def State.reset : State :=
  { pending := []
    clock := 0
    phase := .loaded
    inputs := Inputs.atReset
    ports := PerPort.all Port.hunting
    store := { mode := .commission, state := .idle, imageValid := false, image := Content.default,
               crcMatches := false }
    work := Content.default
    claims := Claims.fresh 0
    weather := Weather.fresh 0 2 .dry .dry 0#3
    supply := { state := .normal, rideThrough := none, mains := .mains, mainsFilter := none, pause := .none,
                pauseLimit := none, trip := none }
    core := { openings := Vector.replicate 128 Live.blank, resolveSet := [], queue := [],
              slots := Vector.replicate 8 none, walkTriggered := true, walkCount := 0,
              segments := PerSegment.all (SegmentCtl.fresh 0), holds := PerSegment.all (Hold.fresh false),
              notices := Notices.fresh true } }

end Sys2Proof.Machine
end

