-- ==== Sys2Proof/Machine/Ops.lean ====
section
/-! DEFINITION. The named operations over the drive core: its records, its pending transaction sets, its queue marks and
the small judgements every block shares. -/

namespace Sys2Proof.Machine

/-! ### Reading and writing the core -/

/-- The commissioned fields of an opening. -/
def Env.com (e : Env) (o : OpeningId) : Commissioned := look e.work.openings o

/-- The segment of an opening. -/
def Env.segment (e : Env) (o : OpeningId) : Segment := (e.com o).segment

/-- The enrollment-derived and live fields of an opening. -/
def Core.live (c : Core) (o : OpeningId) : Live := look c.openings o

/-- A change of one record. -/
def Core.setLive (c : Core) (o : OpeningId) (f : Live → Live) : Core :=
  { c with openings := put c.openings o (f (c.live o)) }

/-- A change of one Segment Controller. -/
def Core.setSegment (c : Core) (g : Segment) (f : SegmentCtl → SegmentCtl) : Core :=
  { c with segments := c.segments.set g (f (c.segments.get g)) }

/-- A change of one Hold Controller. -/
def Core.setHold (c : Core) (g : Segment) (f : Hold → Hold) : Core :=
  { c with holds := c.holds.set g (f (c.holds.get g)) }

/-- An event handed to the Notice Unit. -/
def Core.hand (c : Core) (h : Happening) : Core := { c with notices := c.notices.hand h }

/-- An opening placed in the pending-resolution set (R42). -/
def Core.join (c : Core) (o : OpeningId) : Core := { c with resolveSet := insertAscending o c.resolveSet }

/-- A start-walk trigger taken (R83). -/
def Core.trigger (c : Core) : Core := { c with walkTriggered := true }

/-- The slot an opening occupies. -/
def Core.slotOf (c : Core) (o : OpeningId) : Option SlotId :=
  lowest c.slots fun s => s.any fun x => decide (x.opening = o)

/-- A change of an occupied slot. -/
def Core.setSlot (c : Core) (i : SlotId) (f : Slot → Slot) : Core :=
  { c with slots := put c.slots i ((look c.slots i).map f) }

/-- The total of the reserved currents, orphans included (R80). -/
def Core.reservationSum (c : Core) : Nat :=
  (c.slots.toList.map fun s => match s with | some x => x.reserved | none => 0).sum

/-- The number of queued jobs of a segment (R78). -/
def Core.jobsOn (c : Core) (g : Segment) : Nat := (c.queue.filter fun j => decide (j.segment = g)).length

/-- Present openings of a segment in ascending order. -/
def Env.presentOn (e : Env) (g : Segment) : List OpeningId :=
  allOpenings.filter fun o => (e.com o).present && decide ((e.com o).segment = g)

/-- Every present opening, in ascending order. -/
def Env.present (e : Env) : List OpeningId := allOpenings.filter fun o => (e.com o).present

/-- The budget in force, in 0.1 A (R162). -/
def budgetOf (work : Content) (state : MainsState) : Nat :=
  match state with
  | .mains => work.settings.mainsBudget
  | .battery => work.settings.batteryBudget

/-! ### Judgements -/

/-- Two targets apart by 2 or less (R9). -/
def withinTolerance (p t : Nat) : Bool := decide (p ≤ t + 2) && decide (t ≤ p + 2)

/-- A position has reached a target (R9). -/
def Position.reached (p : Position) (t : Nat) : Bool :=
  match p with
  | .percent x => withinTolerance x t
  | .unknown => false

/-- A reported position as the record stores it (R8). -/
def storedPosition (ability : Option Ability) (reported : Byte) : Position :=
  if 100 < reported.toNat then .unknown
  else
    match ability with
    | none => .percent reported.toNat
    | some a =>
      if a.sense = .coarse ∧ reported.toNat ≠ 0 ∧ reported.toNat ≠ 100 then .unknown
      else .percent reported.toNat

/-- The locked field after a reply's locked value (R10). -/
def storedLock (l : Live) (reported : Option Bool) : Option Bool :=
  match l.ability with
  | some a =>
    if a.lockContact then
      match reported with
      | some v => some v
      | none => l.locked
    else l.locked
  | none => l.locked

/-- A target as a COARSE opening takes it (R9). -/
def roundFor (ability : Option Ability) (t : Nat) : Nat :=
  match ability with
  | some a =>
    match a.sense with
    | .coarse => if t ≤ 50 then 0 else 100
    | .fine => t
  | none => t

/-- The direction of a job or drive (R81); equality of target and position is log entry 13. -/
def directionOf (p : Position) (t : Nat) : Direction :=
  match p with
  | .unknown => if t = 0 then .toClose else .toOpen
  | .percent x => if t < x then .toClose else if x < t then .toOpen else Config.directionAtTarget x

/-- Whether a target lies above the stored position, any target above 0 counting as above UNKNOWN (R90). -/
def aboveStored (p : Position) (t : Nat) : Bool :=
  match p with
  | .unknown => decide (0 < t)
  | .percent x => decide (x < t)

/-- The speed of a drive (R82). -/
def speedOf (ability : Option Ability) (cls : JobClass) : Speed :=
  match cls, ability with
  | .ventilation, some a => if a.quiet then .quiet else .full
  | .fallback, some a => if a.quiet then .quiet else .full
  | _, _ => .full

/-- The run limit, in milliseconds: 3/2 of the effective stroke time plus 5 s (R82). -/
def runLimit (stroke : Nat) (speed : Speed) : Nat :=
  (match speed with
    | .full => stroke
    | .quiet => 2 * stroke) * 1500 + 5000

/-- Whether a static entry covers an opening (R41). -/
def StaticEntry.covers (e : Env) (x : StaticEntry) (o : OpeningId) : Bool :=
  match x.key with
  | .opening p => decide (p = o)
  | .zone z => decide (z = (e.com o).zone)

/-- Whether a LOCKOUT covers an opening (R41). -/
def Env.lockedOut (e : Env) (o : OpeningId) : Bool :=
  e.work.statics.toList.any fun s => s.any fun x => decide (x.kind = .lockout) && x.covers e o

/-- Whether an opening's weather latch is set. -/
def Env.latched (e : Env) (o : OpeningId) : Bool := look e.latches o

/-- A class's urgency (R43). -/
def JobClass.urgency : JobClass → Nat
  | .weather => 0
  | .security => 1
  | .service => 2
  | .ventilation => 3
  | .fallback => 4

/-- The pending stop cause after a further request: rows held, columns requested (R15). -/
def StopCause.overtake (held requested : StopCause) : StopCause :=
  match held, requested with
  | .lockout, _ => .lockout
  | .cutoff, .lockout => .lockout
  | .cutoff, _ => .cutoff
  | _, r => r

/-- Whether a level is below CLOSE_ALL. -/
def Level.belowCloseAll (l : Level) : Bool := decide (l ≠ .closeAll)

/-- A level's place on the scale (3). -/
def Level.height : Level → Nat
  | .calm => 0
  | .watch => 1
  | .closeExposed => 2
  | .closeAll => 3

/-! ### The pending transaction sets (R123) -/

/-- The five kinds, in the arbiter's order (R124). -/
def RequestBody.kind : RequestBody → Nat
  | .stop => 0
  | .drive _ _ _ => 1
  | .progressPoll => 2
  | .enroll _ _ _ => 3
  | .idlePoll => 4

/-- A second request of one kind for one opening (R123): a DRIVE takes the new contents and stays a start DRIVE if it
was one (R93); an ENROLL serves every purpose asked for; the others are merged. -/
def RequestBody.merge (old new : RequestBody) : RequestBody :=
  match old, new with
  | .drive _ _ start, .drive target speed start' => .drive target speed (start || start')
  | .enroll p s r, .enroll p' s' r' => .enroll (p || p') (s || s') (r || r')
  | kept, _ => kept

/-- A list of requests with one more asked for. -/
def addRequest (r : Request) : List Request → List Request
  | [] => [r]
  | x :: rest =>
    if x.opening = r.opening ∧ x.body.kind = r.body.kind then { x with body := x.body.merge r.body } :: rest
    else x :: addRequest r rest

/-- A transaction asked for (R123). -/
def Core.ask (e : Env) (o : OpeningId) (body : RequestBody) (c : Core) : Core :=
  c.setSegment (e.segment o) fun g =>
    { g with requests := addRequest { opening := o, body := body, stamp := e.now } g.requests }

/-- The requests of an opening that a test names withdrawn. -/
def Core.withdraw (e : Env) (o : OpeningId) (which : RequestBody → Bool) (c : Core) : Core :=
  c.setSegment (e.segment o) fun g =>
    { g with requests := g.requests.filter fun r => !(decide (r.opening = o) && which r.body) }

/-- The request of a kind pending for an opening. -/
def Core.pendingOf (e : Env) (c : Core) (o : OpeningId) (kind : Nat) : Option Request :=
  (c.segments.get (e.segment o)).requests.find? fun r => decide (r.opening = o) && r.body.kind == kind

/-- STOP, DRIVE and progress POLL: what a freed or orphaned slot withdraws (R123). -/
def RequestBody.ofDrive (b : RequestBody) : Bool := decide (b.kind ≤ 2)

/-- DRIVE and progress POLL: what a stop request withdraws (R96, R130). -/
def RequestBody.ofRunning (b : RequestBody) : Bool := b.kind == 1 || b.kind == 2

/-- Any request. -/
def RequestBody.any (_ : RequestBody) : Bool := true

/-- Whether the opening's start DRIVE is unsent (R88). -/
def Core.startUnsent (e : Env) (c : Core) (o : OpeningId) : Bool :=
  match c.pendingOf e o 1 with
  | some r =>
    match r.body with
    | .drive _ _ start => start
    | _ => false
  | none => false

/-! ### States an opening enters -/

/-- Entry to IDLE (R12). -/
def Core.enterIdle (o : OpeningId) (c : Core) : Core :=
  (c.setLive o fun l =>
    { l with state := .idle, dwellReason := none, jobClass := none, stopCause := none, faultReason := none,
             restTimer := none, dwellTimer := none }).join o

/-- Entry to LOCKED_OUT (R20). -/
def Core.enterLockedOut (o : OpeningId) (c : Core) : Core :=
  c.setLive o fun l =>
    { l with state := .lockedOut, dwellReason := none, jobClass := none, stopCause := none, target := none,
             restTimer := none, dwellTimer := none }

/-- Entry to RESTING; a rest interval of 0 ends the rest as it begins (R17, R111). -/
def Core.enterResting (e : Env) (o : OpeningId) (c : Core) : Core :=
  if e.work.settings.restInterval = 0 then c.enterIdle o
  else
    c.setLive o fun l =>
      { l with state := .resting, dwellReason := none, jobClass := none, stopCause := none,
               restTimer := startTimer e.now (seconds e.work.settings.restInterval), dwellTimer := none }

/-- The length of a dwell, by its reason (R17). -/
def dwellLength (e : Env) : DwellReason → Nat
  | .reversal => reversalDwellMs
  | .obstruction => seconds e.work.settings.obstructionDwell

/-- Entry to DWELL (R17, R112). -/
def Core.enterDwell (e : Env) (o : OpeningId) (reason : DwellReason) (c : Core) : Core :=
  c.setLive o fun l =>
    { l with state := .dwell, dwellReason := some reason, jobClass := none, stopCause := none, restTimer := none,
             dwellTimer := startTimer e.now (dwellLength e reason) }

/-- A set of opening numbers without one of them. -/
def dropOpening (o : OpeningId) (l : List OpeningId) : List OpeningId := l.filter fun x => decide (x ≠ o)

/-- Entry to FAULTED (R19, R114): its requests are withdrawn, its timers stop, and it leaves the resync list (R136). -/
def Core.enterFaulted (e : Env) (o : OpeningId) (reason : FaultReason) (c : Core) : Core :=
  (((c.withdraw e o RequestBody.any).setSegment (e.segment o) fun g =>
      { g with resync := dropOpening o g.resync }).setLive o fun l =>
    { l with state := .faulted, faultReason := some reason, target := none, jobClass := none, stopCause := none,
             dwellReason := none, restTimer := none, dwellTimer := none, followPoll := none, reProbe := none,
             reProbeHeld := false }).hand .openingFaulted

end Sys2Proof.Machine
end

