-- ==== Sys2Proof/Machine/Drives.lean ====
section
/-! DEFINITION. The Closure Scheduler and the Drive Supervisor: the queue, the drive slots, starts, retargets, stops,
completions and failures (R73 to R101, R107 to R114). -/

namespace Sys2Proof.Machine

/-! ### The Closure Queue -/

/-- A job's place in band order, class first and rank second (R74). -/
def Job.band (j : Job) : Nat := j.cls.urgency * 8 + j.rank.val

/-- Whether one job stands before another (R74). -/
def Job.before (a b : Job) : Bool := decide (a.band < b.band) || (a.band == b.band && decide (a.mark < b.mark))

/-- The queue with a job at its place. -/
def insertJob (j : Job) : List Job → List Job
  | [] => [j]
  | x :: rest => if j.before x then j :: x :: rest else x :: insertJob j rest

/-- The end of its band at which a job enters (R74). -/
inductive BandEnd
  | head
  | tail
deriving DecidableEq, Repr

/-- A mark above, or below, every mark of a band (R74). -/
def markFor (queue : List Job) (band : Nat) (at_ : BandEnd) : Int :=
  let marks := (queue.filter fun j => j.band == band).map Job.mark
  match marks with
  | [] => 0
  | m :: rest =>
    match at_ with
    | .tail => rest.foldl max m + 1
    | .head => rest.foldl min m - 1

/-- The queue without an opening's job. -/
def dropJob (o : OpeningId) (queue : List Job) : List Job := queue.filter fun j => decide (j.opening ≠ o)

/-- The job of an opening. -/
def Core.jobOf (c : Core) (o : OpeningId) : Option Job := c.queue.find? fun j => decide (j.opening = o)

/-- A job enters the queue (R73, R75): the opening becomes QUEUED, and a start walk is triggered. -/
def Core.enqueue (e : Env) (o : OpeningId) (target : Nat) (cls : JobClass) (place : BandEnd) (c : Core) : Core :=
  let com := e.com o
  let mark := markFor c.queue (cls.urgency * 8 + com.rank.val) place
  let job : Job :=
    { opening := o, target := target, cls := cls, rank := com.rank, segment := com.segment, mark := mark, wait := none }
  ({ c with queue := insertJob job c.queue }.setLive o fun l =>
    { l with state := .queued, target := some target, jobClass := some cls, dwellReason := none, stopCause := none,
             restTimer := none, dwellTimer := none }).trigger

/-- A job leaves the queue (R77). -/
def Core.removeJob (o : OpeningId) (c : Core) : Core := { c with queue := dropJob o c.queue }

/-- A job with the wait reason it held before a move: a move replaces target, class and mark alone, and the reason is
the latest walk's (R73, R76, R87). -/
def Job.keepWait (o : OpeningId) (w : Option WaitReason) (j : Job) : Job :=
  if j.opening = o then { j with wait := w } else j

/-- A job aimed at a new target in its place (R76). -/
def Job.aim (o : OpeningId) (target : Nat) (j : Job) : Job := if j.opening = o then { j with target := target } else j

/-- A submission for an opening already QUEUED (R76). -/
def Core.resubmit (e : Env) (o : OpeningId) (target : Nat) (cls : JobClass) (c : Core) : Core :=
  match c.jobOf o with
  | none => c
  | some j =>
    if j.cls = cls then
      { c with queue := c.queue.map (Job.aim o target) }.setLive o
        fun l => { l with target := some target, jobClass := some cls }
    else
      let moved := (c.removeJob o).enqueue e o target cls .tail
      { moved with queue := moved.queue.map (Job.keepWait o j.wait) }

/-! ### Slots -/

/-- A slot is freed (R98): its requests are withdrawn and a start walk is triggered. -/
def Core.freeSlot (e : Env) (i : SlotId) (c : Core) : Core :=
  match look c.slots i with
  | none => c
  | some s => ({ c with slots := put c.slots i none }.withdraw e s.opening RequestBody.ofDrive).trigger

/-! ### Failures (R107) -/

/-- The outcomes that are failures, by what they cost (R107). -/
inductive Failure
  | failedStart
  | cutOff
  | obstruction
deriving DecidableEq, Repr

/-- The counter a failure increments (R107). -/
def Live.countFailure (f : Failure) (l : Live) : Live :=
  match f with
  | .failedStart => l
  | .cutOff => { l with cutOffs := l.cutOffs.bump }
  | .obstruction => { l with obstructions := l.obstructions.bump }

/-- A failure taken by the Drive Supervisor (R107, R114). -/
def Core.takeFailure (e : Env) (o : OpeningId) (f : Failure) (c : Core) : Core :=
  let c := c.setLive o fun l => { l.countFailure f with failureCount := l.failureCount + 1 }
  if 3 ≤ (c.live o).failureCount then
    (c.setLive o fun l => { l with failureCount := 3 }).enterFaulted e o .failures
  else
    match f with
    | .obstruction => c.enterDwell e o .obstruction
    | .cutOff => c.enterResting e o
    | .failedStart => c.enterResting e o

/-- What a completion writes (R99, R16 note 3). -/
def Live.complete (l : Live) : Live :=
  { l with failureCount := 0, drivesCompleted := l.drivesCompleted.bump }

/-! ### Outcomes and confirmed stops -/

/-- An outcome as the slot takes it: a REACHED that fails the position test of R99 or the lock test of R100 is NONE,
and an OBSTRUCTED on a drive in direction OPEN is STALLED (R110). -/
def judgedOutcome (l : Live) (s : Slot) (locked : Option Bool) (out : DriveOutcome) : DriveOutcome :=
  match out with
  | .reached =>
    let needsLock := decide (s.direction = .toClose) && s.target == 0 && l.ability.any fun a => a.lockContact
    if l.position.reached s.target && (!needsLock || locked == some true) then .reached else .none
  | .obstructed => if s.direction = .toOpen then .stalled else .obstructed
  | .stalled => .stalled
  | .none => .none

/-- A completion that confirms a stop, before the state its cause gives: the record's, and the opening joins the
pending-resolution set (R16 note 3, R99). -/
def Core.completeStop (o : OpeningId) (c : Core) : Core := (c.setLive o Live.complete).join o

/-- R16 note 1: IDLE where the target is reached, else DWELL with reason REVERSAL. -/
def Core.afterRetarget (e : Env) (o : OpeningId) (c : Core) : Core :=
  match (c.live o).target with
  | some t => if (c.live o).position.reached t then c.enterIdle o else c.enterDwell e o .reversal
  | none => c.enterDwell e o .reversal

/-- R16 note 2: QUEUED at the head of its band where the target is not reached, else IDLE. -/
def Core.afterShedOrHold (e : Env) (o : OpeningId) (cls : JobClass) (c : Core) : Core :=
  match (c.live o).target with
  | some t => if (c.live o).position.reached t then c.enterIdle o else c.enqueue e o t cls .head
  | none => c.enterIdle o

/-- The state a confirmed stop leads to, the slot already freed (R16). -/
def Core.settleStop (e : Env) (o : OpeningId) (cause : StopCause) (cls : JobClass) (out : DriveOutcome)
    (c : Core) : Core :=
  match out, cause with
  | .none, .retarget => c.afterRetarget e o
  | .none, .cutoff => c.takeFailure e o .cutOff
  | .none, .lockout => c.enterLockedOut o
  | .none, .shed => c.afterShedOrHold e o cls
  | .none, .hold => c.afterShedOrHold e o cls
  | .reached, .retarget => (c.completeStop o).afterRetarget e o
  | .reached, .lockout => (c.completeStop o).enterLockedOut o
  | .reached, _ => (c.completeStop o).enterIdle o
  | .stalled, .lockout => (c.setLive o (Live.countFailure .cutOff)).enterLockedOut o
  | .stalled, _ => c.takeFailure e o .cutOff
  | .obstructed, .lockout => (c.setLive o (Live.countFailure .obstruction)).enterLockedOut o
  | .obstructed, _ => c.takeFailure e o .obstruction

/-- The stop of a STOPPING opening is confirmed by a reply with this outcome and locked value (R16). -/
def Core.confirmStop (e : Env) (o : OpeningId) (locked : Option Bool) (out : DriveOutcome) (c : Core) : Core :=
  match c.slotOf o with
  | none => c
  | some i =>
    match look c.slots i with
    | none => c
    | some s =>
      let l := c.live o
      (c.freeSlot e i).settleStop e o (l.stopCause.getD .retarget) (l.jobClass.getD s.cls)
        (judgedOutcome l s locked out)

/-- A stop request (R15, R91, R96). -/
def Core.requestStop (e : Env) (o : OpeningId) (cause : StopCause) (c : Core) : Core :=
  match (c.live o).state with
  | .driving =>
    match c.slotOf o with
    | none => c
    | some i =>
      let stopping := c.setLive o fun l => { l with state := .stopping, stopCause := some cause }
      if c.startUnsent e o then stopping.confirmStop e o none .none
      else
        ((stopping.setSlot i fun s => { s with phase := .stopping, stopNaks := 0, progressPoll := none }).withdraw
          e o RequestBody.ofRunning).ask e o .stop
  | .stopping => c.setLive o fun l => { l with stopCause := l.stopCause.map fun held => held.overtake cause }
  | _ => c

/-- The outcome of a progress poll, or of an ACK to a DRIVE, of a DRIVING opening (R99, R101). -/
def Core.takeOutcome (e : Env) (o : OpeningId) (locked : Option Bool) (out : DriveOutcome) (c : Core) : Core :=
  match c.slotOf o with
  | none => c
  | some i =>
    match look c.slots i with
    | none => c
    | some s =>
      match judgedOutcome (c.live o) s locked out with
      | .none => c
      | .reached => ((c.freeSlot e i).setLive o Live.complete).enterIdle o
      | .stalled => (c.freeSlot e i).takeFailure e o .cutOff
      | .obstructed => (c.freeSlot e i).takeFailure e o .obstruction

/-! ### The unsent DRIVE (R90) -/

/-- The stop an unsent DRIVE gives way to: LOCKOUT under a lockout, RETARGET under a latch (R90). -/
def Env.bars (e : Env) (o : OpeningId) (p : Position) (target : Nat) : Option StopCause :=
  if e.lockedOut o then some .lockout
  else if e.latched o && aboveStored p target then some .retarget
  else none

/-- The withdrawal test of R90, for one opening. -/
def Core.recheckDrive (e : Env) (o : OpeningId) (c : Core) : Core :=
  match c.pendingOf e o 1 with
  | none => c
  | some r =>
    match r.body with
    | .drive target _ start =>
      match e.bars o (c.live o).position target with
      | none => c
      | some cause =>
        if start then
          match c.slotOf o with
          | none => c
          | some i =>
            match look c.slots i with
            | none => c
            | some s => (c.freeSlot e i).enqueue e o s.target s.cls .head
        else c.requestStop e o cause
    | _ => c

/-- A position stored; a change of it brings the test of R90 (R8). -/
def Core.storePosition (e : Env) (o : OpeningId) (p : Position) (c : Core) : Core :=
  if (c.live o).position = p then c else (c.setLive o fun l => { l with position := p }).recheckDrive e o

/-- The position and lock of a good reply (R8, R10). -/
def Core.storeReport (e : Env) (o : OpeningId) (position : Byte) (locked : Option Bool) (c : Core) : Core :=
  (c.setLive o fun l => { l with locked := storedLock l locked }).storePosition e o
    (storedPosition (c.live o).ability position)

/-! ### Retargets (R92, R93) -/

/-- A re-drive (R93): the slot's direction is judged again by R81. -/
def Core.reDrive (e : Env) (o : OpeningId) (i : SlotId) (target : Nat) (cls : JobClass) (speed : Speed)
    (c : Core) : Core :=
  let stroke := ((c.live o).ability.map Ability.stroke).getD 0
  let direction := directionOf (c.live o).position target
  ((c.setSlot i fun s =>
      { s with target := target, cls := cls, speed := speed, direction := direction
               runDeadline := e.now + runLimit stroke speed }).setLive
    o fun l => { l with target := some target, jobClass := some cls }).ask e o (.drive target speed false)

/-- A target result for a DRIVING opening, judged by the rows of R92 after those for a lockout and no target. -/
def Core.retarget (e : Env) (o : OpeningId) (target : Nat) (cls : JobClass) (c : Core) : Core :=
  match c.slotOf o with
  | none => c
  | some i =>
    match look c.slots i with
    | none => c
    | some s =>
      let l := c.live o
      let speed := speedOf l.ability cls
      let written := c.setLive o fun x => { x with target := some target, jobClass := some cls }
      if l.position.reached target then written.requestStop e o .retarget
      else if target = s.target ∧ cls = s.cls ∧ speed = s.speed then written
      else if target = s.target ∧ speed = s.speed then written.setSlot i fun x => { x with cls := cls }
      else if l.position ≠ .unknown ∧ directionOf l.position target = s.direction then
        c.reDrive e o i target cls speed
      else if l.position = .unknown ∧ target = s.target then c.reDrive e o i target cls speed
      else written.requestStop e o .retarget

/-! ### Starts (R83 to R88) -/

/-- The halting conditions of R84, in order. -/
def Core.halted (e : Env) (c : Core) : Option WaitReason :=
  if c.slots.toList.all Option.isSome then some .noSlot
  else if e.supply ≠ .normal then some .supply
  else if e.paused then some .pause
  else none

/-- The skip conditions of R85, in the order of its table. -/
def Core.skipped (e : Env) (c : Core) (j : Job) : Option WaitReason :=
  let dir := directionOf (c.live j.opening).position j.target
  if (c.holds.get j.segment).state ≠ .owned then some .segment
  else if (c.segments.get j.segment).pass = .running then some .segment
  else if e.mains = .battery ∧ dir = .toOpen then some .battery
  else if e.lockedOut j.opening then some .withheld
  else if e.latched j.opening ∧ dir = .toOpen then some .withheld
  else none

/-- The rated current of an opening, in 0.1 A. -/
def Core.rated (c : Core) (o : OpeningId) : Nat := ((c.live o).ability.map Ability.rated).getD 0

/-- A job that a walk starts (R88). The walk's ordinal is walkCount. -/
def Core.startDrive (e : Env) (j : Job) (c : Core) : Core :=
  match lowest c.slots Option.isNone with
  | none => c
  | some i =>
    let l := c.live j.opening
    let speed := speedOf l.ability j.cls
    let stroke := (l.ability.map Ability.stroke).getD 0
    let slot : Slot :=
      { opening := j.opening, phase := .starting, direction := directionOf l.position j.target, target := j.target
        cls := j.cls, speed := speed, reserved := c.rated j.opening
        runDeadline := e.now + runLimit stroke speed, startTime := e.now, startWalk := c.walkCount, stopNaks := 0
        runTimer := true, orphanEnd := none, progressPoll := none }
    (({ c with slots := put c.slots i (some slot) }.removeJob j.opening).setLive j.opening fun x =>
      { x with state := .driving, target := some j.target, jobClass := some j.cls }).ask e j.opening
        (.drive j.target speed true)

/-- An opening's job with its wait reason recorded (R87). -/
def Job.await (o : OpeningId) (w : WaitReason) (j : Job) : Job := if j.opening = o then { j with wait := some w } else j

/-- A wait reason recorded in a queued job (R87). -/
def Core.recordWait (o : OpeningId) (w : WaitReason) (c : Core) : Core :=
  { c with queue := c.queue.map (Job.await o w) }

/-- A wait reason recorded in every job of a list. -/
def Core.recordAll (w : WaitReason) (jobs : List Job) (c : Core) : Core :=
  jobs.foldl (fun c j => c.recordWait j.opening w) c

/-- A job tested against the budget and started, or left with a reason and the walk's fence (R86). -/
def Core.walkOne (e : Env) (fence : Option JobClass) (j : Job) (c : Core) : Option JobClass × Core :=
  match c.skipped e j with
  | some w => (fence, c.recordWait j.opening w)
  | none =>
    if c.reservationSum + c.rated j.opening ≤ budgetOf e.work e.mains then (fence, c.startDrive e j)
    else (some (fence.getD j.cls), c.recordWait j.opening .budget)

/-- Whether a job stands behind the fence (R86). -/
def behindFence (fence : Option JobClass) (j : Job) : Bool := fence.any fun f => decide (f.urgency < j.cls.urgency)

/-- The walk over the jobs as they stood when it was taken (R84 to R87). -/
def Core.walk (e : Env) (fence : Option JobClass) : List Job → Core → Core
  | [], c => c
  | j :: rest, c =>
    match c.halted e with
    | some w => c.recordAll w (j :: rest)
    | none =>
      if behindFence fence j then c.recordAll .behindBudget (j :: rest)
      else
        let r := c.walkOne e fence j
        r.2.walk e r.1 rest

/-- A start walk, if one is triggered (R83, log entry 10). -/
def Core.startWalk (e : Env) (c : Core) : Core :=
  if c.walkTriggered then
    let c := { c with walkTriggered := false, walkCount := c.walkCount + 1 }
    c.walk e none c.queue
  else c

end Sys2Proof.Machine
end

