-- ==== Sys2Proof/Machine/Resolver.lean ====
section
/-! DEFINITION. The Target Resolver: the effective target of an opening and the handing on of it (R42 to R47). -/

namespace Sys2Proof.Machine

/-- A result of full resolution (R43). -/
inductive Resolution
  | lockout
  | target (t : Nat) (cls : JobClass)
  | noTarget
deriving DecidableEq, Repr

/-- Whether a zone admits a claimant (R25). -/
def Zone.admits (z : Zone) (who : Claimant) : Bool :=
  z.valid &&
    match who with
    | .ventilation => z.admitVentilation
    | .security => z.admitSecurity

/-- The entry with a key (R29). -/
def Claims.find (t : Claims) (who : Claimant) (scope : ClaimScope) : Option Claim :=
  match lowest t.slots fun s => s.any fun x => decide (x.claimant = who) && decide (x.scope = scope) with
  | some i => look t.slots i
  | none => none

/-- A claimant's entry that wins for an opening: OPENING over ZONE over ALL (R44). -/
def Claims.best (t : Claims) (who : Claimant) (o : OpeningId) (zone : ZoneId) : Option Claim :=
  (t.find who (.opening o)).or ((t.find who (.zone zone)).or (t.find who .all))

/-- The winning dynamic claim that applies to an opening, SECURITY before VENTILATION (R44). -/
def winningClaim (e : Env) (t : Claims) (o : OpeningId) : Option Claim :=
  let zone := (e.com o).zone
  let z := look e.work.zones zone
  let of (who : Claimant) := if z.admits who then t.best who o zone else none
  (of .security).or (of .ventilation)

/-- The class of a claimant's job (R44). -/
def Claimant.jobClass : Claimant → JobClass
  | .ventilation => .ventilation
  | .security => .security

/-- The PIN that holds an opening, OPENING scope before ZONE (R43). -/
def pinOf (e : Env) (o : OpeningId) : Option Nat :=
  let pinAt (key : StaticKey) : Option Nat :=
    e.work.statics.toList.findSome? fun s =>
      match s with
      | some x =>
        if x.key = key then
          match x.kind with
          | .pin p => some p
          | .lockout => none
        else none
      | none => none
  (pinAt (.opening o)).or (pinAt (.zone (e.com o).zone))

/-- The watch cap (R45). -/
def watchCap (e : Env) (o : OpeningId) (t : Nat) : Nat :=
  if e.level = .watch then
    match (e.com o).kind with
    | .skylight => 0
    | .window => min t e.work.settings.watchCeiling
  else t

/-- Full resolution of an opening (R43 to R45). -/
def resolve (e : Env) (claims : Claims) (ability : Option Ability) (o : OpeningId) : Resolution :=
  let z := look e.work.zones (e.com o).zone
  let capped (t : Nat) := roundFor ability (watchCap e o t)
  if e.lockedOut o then .lockout
  else if e.latched o then .target 0 .weather
  else
    match pinOf e o with
    | some p => .target (capped p) .service
    | none =>
      match winningClaim e claims o with
      | some x => .target (capped (min x.position z.ceiling)) x.claimant.jobClass
      | none => if z.valid ∧ z.fallback = .close then .target (capped 0) .fallback else .noTarget

/-- A target field written, or made absent (R46). -/
def Core.writeTarget (o : OpeningId) (t : Option Nat) (c : Core) : Core := c.setLive o fun l => { l with target := t }

/-- A full result handed on by the opening's state (R47). -/
def Core.handOn (e : Env) (o : OpeningId) (r : Resolution) (c : Core) : Core :=
  let l := c.live o
  match l.state, r with
  | .idle, .lockout => c.enterLockedOut o
  | .idle, .target t cls => if l.position.reached t then c.writeTarget o (some t) else c.enqueue e o t cls .tail
  | .idle, .noTarget => c.writeTarget o none
  | .queued, .lockout => (c.removeJob o).enterLockedOut o
  | .queued, .target t cls =>
    if l.position.reached t then ((c.removeJob o).writeTarget o (some t)).enterIdle o else c.resubmit e o t cls
  | .queued, .noTarget => ((c.removeJob o).writeTarget o none).enterIdle o
  | .driving, .lockout => (c.writeTarget o none).requestStop e o .lockout
  | .driving, .target t cls => c.retarget e o t cls
  | .driving, .noTarget => (c.writeTarget o none).requestStop e o .retarget
  | .stopping, .lockout => (c.writeTarget o none).requestStop e o .lockout
  | .stopping, .target t cls => c.setLive o fun l => { l with target := some t, jobClass := some cls }
  | .stopping, .noTarget => c.writeTarget o none
  | .lockedOut, .lockout => c
  | .lockedOut, _ => c.enterIdle o
  | .resting, .lockout => c.enterLockedOut o
  | .dwell, .lockout => c.enterLockedOut o
  | _, _ => c

/-- The lowest member of the pending-resolution set taken and resolved (R42). -/
def Core.resolveNext (e : Env) (claims : Claims) (c : Core) : Core :=
  match c.resolveSet with
  | [] => c
  | o :: rest => { c with resolveSet := rest }.handOn e o (resolve e claims (c.live o).ability o)

end Sys2Proof.Machine
end

