-- ==== Sys2Proof/Machine/Segments.lean ====
section
/-! DEFINITION. The Segment Controllers: passes, the arbiter, replies, timeouts, polls, enrollment, and nodes declared
LOST (R119 to R140). -/

namespace Sys2Proof.Machine

/-! ### Judgements -/

/-- Whether a segment's hold state and the supply let it carry traffic (R137). -/
def Core.carries (e : Env) (c : Core) (g : Segment) : Bool :=
  decide ((c.holds.get g).state = .owned) && decide (e.supply ≠ .out)

/-- Whether an opening's slot is an orphan. -/
def Core.orphaned (c : Core) (o : OpeningId) : Bool :=
  c.slots.toList.any fun s => s.any fun x => decide (x.opening = o) && decide (x.phase = .orphan)

/-- The states polled idle (R131). -/
def OpeningState.idlePolled : OpeningState → Bool
  | .idle => true
  | .resting => true
  | .dwell => true
  | .lockedOut => true
  | _ => false

/-- Whether an opening is polled idle (R131). -/
def Core.polledIdle (e : Env) (c : Core) (o : OpeningId) : Bool :=
  (c.live o).ability.isSome && (c.live o).state.idlePolled &&
    !((c.segments.get (e.segment o)).resync.contains o)

/-- Whether a pass may ask for an opening's ENROLL (R136). -/
def Core.ready (c : Core) (o : OpeningId) : Bool :=
  decide ((c.live o).state ≠ .driving) && decide ((c.live o).state ≠ .stopping) && !c.orphaned o

/-- Whether a slot runs (R80). -/
def Core.running (c : Core) (o : OpeningId) : Bool :=
  c.slots.toList.any fun s => s.any fun x => decide (x.opening = o) && decide (x.phase = .running)

/-! ### Passes (R136, R137) -/

/-- A request's pass purpose dropped: what remains of it, if anything (R137). -/
def RequestBody.dropPass : RequestBody → Option RequestBody
  | .enroll _ single probe => if single || probe then some (.enroll false single probe) else none
  | b => some b

/-- Requests without their pass purposes. -/
def dropPassRequests (rs : List Request) : List Request :=
  rs.filterMap fun r => r.body.dropPass.map fun b => { r with body := b }

/-- A transaction that no longer serves a pass. -/
def Transaction.dropPass (t : Transaction) : Transaction :=
  match t.body with
  | .enroll _ single probe => { t with body := .enroll false single probe }
  | _ => t

/-- A Segment Controller whose pass is given up, with the pass state it takes. -/
def SegmentCtl.dropPass (p : PassState) (s : SegmentCtl) : SegmentCtl :=
  { s with requests := dropPassRequests s.requests, inFlight := s.inFlight.map Transaction.dropPass, resync := [],
           pass := p }

/-- A pass starts, or is restarted (R136). -/
def Core.startPass (e : Env) (g : Segment) (c : Core) : Core :=
  let members := e.presentOn g
  let list := members.filter fun o => decide ((c.live o).state ≠ .faulted)
  let c := c.setSegment g fun s => { s.dropPass .running with resync := list }
  members.foldl (fun c o => c.storePosition e o .unknown) c

/-- A pass made DUE (R137). -/
def Core.makeDue (g : Segment) (c : Core) : Core := c.setSegment g fun s => s.dropPass .due

/-- A pass trigger (R137). -/
def Core.triggerPass (e : Env) (g : Segment) (c : Core) : Core :=
  if c.carries e g then c.startPass e g else c.makeDue g

/-- A RUNNING pass made DUE where the segment stops carrying traffic (R139, R140). -/
def Core.suspendPass (g : Segment) (c : Core) : Core :=
  if (c.segments.get g).pass = .running then c.makeDue g else c

/-- A DUE pass starts where the segment can carry traffic (R137). -/
def Core.startDuePass (e : Env) (g : Segment) (c : Core) : Core :=
  if (c.segments.get g).pass = .due ∧ c.carries e g = true then c.startPass e g else c

/-- An ENROLL that serves a pass. -/
def RequestBody.isPass : RequestBody → Bool
  | .enroll pass _ _ => pass
  | _ => false

/-- Whether a pass ENROLL is in flight; a leftover is none (log entry 44). -/
def SegmentCtl.passInFlight (s : SegmentCtl) : Bool := s.inFlight.any fun t => t.body.isPass && !t.leftover

/-- The upkeep of a RUNNING pass (R136): complete when nothing is left, else one pass ENROLL asked for. -/
def Core.passUpkeep (e : Env) (g : Segment) (c : Core) : Core :=
  let s := c.segments.get g
  if s.pass = .running then
    if s.passInFlight then c
    else
      match s.resync with
      | [] => (c.setSegment g fun s => { s with pass := .none }).trigger
      | _ :: _ =>
        if s.requests.any fun r => r.body.isPass then c
        else
          match s.resync.find? fun o => c.ready o with
          | some o => c.ask e o (.enroll true false false)
          | none => c
  else c

/-- An opening leaves its segment's resync list. -/
def Core.leaveList (e : Env) (o : OpeningId) (c : Core) : Core :=
  c.setSegment (e.segment o) fun s => { s with resync := dropOpening o s.resync }

/-! ### Timers of a segment's openings -/

/-- The follow-poll and re-probe timers of a record stopped (R139, R140). -/
def Live.stopPolls (l : Live) : Live := { l with followPoll := none, reProbe := none, reProbeHeld := false }

/-- The poll and re-probe timers of a segment's openings and its round timer stopped. -/
def Core.stopTimers (e : Env) (g : Segment) (c : Core) : Core :=
  { c with openings := tabulate fun o =>
      if e.segment o = g then (c.live o).stopPolls else c.live o }.setSegment g
    fun s => { s with roundTimer := none }

/-- Traffic suspended on entry to OUT (R139), on a lent segment too, whose kept requests are then emptied with the rest
(DEDUCED, log entry 51). -/
def Core.suspend (e : Env) (g : Segment) (c : Core) : Core :=
  ((c.setSegment g fun s => { s with inFlight := none, requests := [] }).stopTimers e g).suspendPass g

/-- Traffic resumed on the return to NORMAL (R139, R160). -/
def Core.resume (e : Env) (g : Segment) (c : Core) : Core :=
  if (c.holds.get g).state = .owned then
    (c.setSegment g fun s =>
      { s with turnaround := startTimer e.now turnaroundMs, roundTimer := startTimer e.now idleRoundMs }).triggerPass
      e g
  else c.triggerPass e g

/-! ### Nodes declared LOST (R18, R116, R127, R128) -/

/-- The orphan hold ends (R117): the slot is freed and a held re-probe is asked for. -/
def Core.endOrphan (e : Env) (i : SlotId) (c : Core) : Core :=
  match look c.slots i with
  | none => c
  | some s =>
    let c := c.freeSlot e i
    if (c.live s.opening).reProbeHeld then
      (c.setLive s.opening fun l => { l with reProbeHeld := false }).ask e s.opening (.enroll false false true)
    else c

/-- The consecutive-timeout count of a node written (R127). -/
def Core.setCount (g : Segment) (a : NodeAddress) (n : Nat) (c : Core) : Core :=
  c.setSegment g fun s => { s with counts := put s.counts a n }

/-- What entry to LOST writes in the record (R18, R128). -/
def Live.lose (now : Nat) (l : Live) : Live :=
  { l with state := .lost, position := .unknown, target := none, jobClass := none, stopCause := none,
           dwellReason := none, restTimer := none, dwellTimer := none, followPoll := none, linkDropped := true,
           linkLosses := l.linkLosses.bump, reProbe := startTimer now reProbeMs, reProbeHeld := false }

/-- A slot orphaned (R116). -/
def Slot.orphan (s : Slot) : Slot :=
  { s with phase := .orphan, runTimer := false, progressPoll := none, orphanEnd := some (s.runDeadline + orphanMarginMs) }

/-- The slot of an opening just lost is orphaned; a hold end already passed frees it at once (R116). -/
def Core.orphanSlot (e : Env) (i : SlotId) (c : Core) : Core :=
  let c := c.setSlot i Slot.orphan
  match look c.slots i with
  | none => c
  | some s => if s.runDeadline + orphanMarginMs ≤ e.now then c.endOrphan e i else c

/-- A node declared LOST (R18, R127, R128). -/
def Core.declareLost (e : Env) (o : OpeningId) (c : Core) : Core :=
  let c := (((c.removeJob o).withdraw e o RequestBody.any).leaveList e o).setLive o (Live.lose e.now)
  let c := (c.setCount (e.segment o) (e.com o).node 3).hand .nodeLost
  match c.slotOf o with
  | none => c
  | some i => c.orphanSlot e i

/-! ### The arbiter (R124, R140) -/

/-- Whether an ENROLL may be sent to an opening (R135). -/
def Core.mayEnroll (c : Core) (o : OpeningId) : Bool :=
  c.ready o && decide ((c.live o).state ≠ .absent) && decide ((c.live o).state ≠ .faulted)

/-- The requests the arbiter chooses among: an ENROLL waits while its opening may not be sent one (R135). -/
def Core.sendable (c : Core) (requests : List Request) : List Request :=
  requests.filter fun r => r.body.kind != 3 || c.mayEnroll r.opening

/-- The request the arbiter takes: by kind, then the earliest (R124). -/
def pick (requests : List Request) (stopsOnly : Bool) : Option Request :=
  (if stopsOnly then [0] else [0, 1, 2, 3, 4]).findSome? fun k => requests.find? fun r => r.body.kind == k

/-- A list of requests without one. -/
def dropRequest (r : Request) (rs : List Request) : List Request :=
  rs.filter fun x => !(decide (x.opening = r.opening) && x.body.kind == r.body.kind)

/-- A request becomes the transaction in flight (R124). A re-probe timer stops when the ENROLL that serves it goes out
(log entry 34). -/
def Core.send (e : Env) (g : Segment) (r : Request) (c : Core) : Core :=
  let c := c.setSegment g fun s =>
    { s with requests := dropRequest r s.requests
             inFlight := some { opening := r.opening, body := r.body, address := (e.com r.opening).node,
                                busyCount := 0, window := none, leftover := false } }
  if r.body.kind == 3 && decide ((c.live r.opening).state = .lost) then
    c.setLive r.opening fun l => { l with reProbe := none }
  else c

/-- Whether a segment's line is free (R124). -/
def Core.lineFree (e : Env) (c : Core) (g : Segment) : Bool :=
  let s := c.segments.get g
  s.inFlight.isNone && s.turnaround.isNone && decide (e.supply ≠ .out)

/-- The arbiter's choice on a free segment (R124, R140). -/
def Core.arbitrate (e : Env) (g : Segment) (c : Core) : Core :=
  if c.lineFree e g then
    match (c.holds.get g).state with
    | .owned =>
      match pick (c.sendable (c.segments.get g).requests) false with
      | some r => c.send e g r
      | none => c
    | .releasing =>
      match pick (c.segments.get g).requests true with
      | some r => c.send e g r
      | none => c
    | .granted => c
    | .returning => c
  else c

/-! ### Ends of transactions (R125) -/

/-- The transaction ends and the turnaround starts (R125). -/
def Core.endTransaction (e : Env) (g : Segment) (c : Core) : Core :=
  c.setSegment g fun s => { s with inFlight := none, turnaround := startTimer e.now turnaroundMs }

/-- The progress-poll timer of a running slot restarted (R130). -/
def Core.restartProgress (e : Env) (o : OpeningId) (c : Core) : Core :=
  match c.slotOf o with
  | none => c
  | some i =>
    c.setSlot i fun s =>
      if s.phase = .running then { s with progressPoll := startTimer e.now progressPollMs } else s

/-- A failed start (R89). -/
def Core.failStart (e : Env) (o : OpeningId) (c : Core) : Core :=
  match c.slotOf o with
  | none => c
  | some i => (c.freeSlot e i).takeFailure e o .failedStart

/-- The re-probe timer of a record started (R128, R129, R133). -/
def Core.startReProbe (e : Env) (o : OpeningId) (c : Core) : Core :=
  c.setLive o fun l => { l with reProbe := startTimer e.now reProbeMs }

/-- A timeout that is not the third, by kind (R126). An ENROLL left with neither purpose, as a restarted or due pass
leaves the one in flight, is not asked for again (DESIGN CHOICE, log entry 46). -/
def Core.missedOnce (e : Env) (o : OpeningId) (body : RequestBody) (c : Core) : Core :=
  match body, (c.live o).state with
  | .drive _ _ true, .driving => c.failStart e o
  | .drive _ _ true, _ => c
  | .drive _ _ false, _ => (c.requestStop e o .retarget).restartProgress e o
  | .stop, .stopping => c.ask e o .stop
  | .stop, _ => c
  | .progressPoll, _ => c.restartProgress e o
  | .enroll pass single _, _ => if pass || single then c.ask e o (.enroll pass single false) else c
  | .idlePoll, _ => c

/-- A transaction that ended in a timeout (R126, R127, R129); a leftover counts nothing (R123). -/
def Core.takeTimeout (e : Env) (g : Segment) (t : Transaction) (c : Core) : Core :=
  let c := c.endTransaction e g
  let o := t.opening
  if t.leftover then c
  else if (c.live o).state = .lost then
    (if t.body.isPass then c.leaveList e o else c).startReProbe e o
  else
    let n := look (c.segments.get g).counts t.address + 1
    if 3 ≤ n then c.declareLost e o
    else (c.setCount g t.address n).missedOnce e o t.body

/-! ### Good replies (R121) -/

/-- The reply to a start DRIVE, stored (R89). A NAK of a DRIVING opening is a failed start whatever outcome it carries
(DEDUCED, log entry 21). -/
def Core.startReply (e : Env) (o : OpeningId) (r : NodeReply) (c : Core) : Core :=
  match c.slotOf o with
  | none => c
  | some i =>
    match look c.slots i with
    | none => c
    | some s =>
      match (c.live o).state, r.answer with
      | .driving, .ack =>
        (c.setSlot i fun s =>
          { s with phase := .running, progressPoll := startTimer e.now progressPollMs }).takeOutcome e o r.locked
            r.outcome
      | .driving, .nak => c.failStart e o
      | .stopping, .ack =>
        if judgedOutcome (c.live o) s r.locked r.outcome = .none then c else c.confirmStop e o r.locked r.outcome
      | .stopping, .nak => c.confirmStop e o none .none
      | _, _ => c

/-- A stop confirmed by a reply that reports an outcome (R16), if it does. -/
def Core.confirmIfOutcome (e : Env) (o : OpeningId) (r : NodeReply) (otherwise : Core → Core) (c : Core) : Core :=
  match (c.slotOf o).bind fun i => look c.slots i with
  | none => c
  | some s =>
    if judgedOutcome (c.live o) s r.locked r.outcome = .none then otherwise c
    else c.confirmStop e o r.locked r.outcome

/-- The reply to a re-drive, stored (R94). A NAK of a DRIVING opening is a stop request whatever outcome it carries
(DEDUCED, log entry 21). -/
def Core.reDriveReply (e : Env) (o : OpeningId) (r : NodeReply) (c : Core) : Core :=
  match (c.live o).state, r.answer with
  | .driving, .ack => (c.takeOutcome e o r.locked r.outcome).restartProgress e o
  | .driving, .nak => c.requestStop e o .retarget
  | .stopping, .ack => c.confirmIfOutcome e o r id
  | .stopping, .nak => c.confirmIfOutcome e o r fun c => c.requestStop e o .retarget
  | _, _ => c

/-- A NAK to a STOP (R97): asked for again, or the node declared LOST on the third. -/
def Core.stopRefused (e : Env) (o : OpeningId) (c : Core) : Core :=
  match c.slotOf o with
  | none => c
  | some i =>
    let c := c.setSlot i fun s => { s with stopNaks := s.stopNaks + 1 }
    if (look c.slots i).any fun s => decide (3 ≤ s.stopNaks) then c.declareLost e o else c.ask e o .stop

/-- The reply to a STOP, stored (R97). -/
def Core.stopReply (e : Env) (o : OpeningId) (r : NodeReply) (c : Core) : Core :=
  match (c.live o).state, r.answer with
  | .stopping, .ack => c.confirmStop e o r.locked r.outcome
  | .stopping, .nak => c.confirmIfOutcome e o r fun c => c.stopRefused e o
  | _, _ => c

/-- The reply to a progress POLL, stored (R130). -/
def Core.progressReply (e : Env) (o : OpeningId) (r : NodeReply) (c : Core) : Core :=
  match (c.live o).state with
  | .driving => (c.takeOutcome e o r.locked r.outcome).restartProgress e o
  | .stopping => c.confirmIfOutcome e o r id
  | _ => c

/-- Whether an idle poll's stored position has left the one stored before it (R132, log entry 25). -/
def movedFrom (before after : Position) : Bool :=
  match before with
  | .unknown => true
  | .percent p => !after.reached p

/-- The reply to an idle POLL, stored, given the position held before it (R132). -/
def Core.idleReply (e : Env) (o : OpeningId) (before : Position) (r : NodeReply) (c : Core) : Core :=
  let c := c.setLive o fun l =>
    { l with followPoll := if r.moving then startTimer e.now followPollMs else none }
  if (c.live o).state = .idle ∧ movedFrom before (c.live o).position = true then c.join o else c

/-- The refusal of a reported ability, if it is refused (R134). -/
def refusalOf (kind : Kind) (a : AbilityReport) : Option FaultReason :=
  if a.kind ≠ kind then some .kindMismatch
  else if a.rated.toNat = 0 ∨ 60 < a.rated.toNat then some .rating
  else if a.stroke.toNat < 5 then some .rating
  else none

/-- The enrollment-derived fields of an accepted ability (R5, R134). -/
def acceptedAbility (a : AbilityReport) : Ability :=
  { stroke := a.stroke.toNat, rated := a.rated.toNat, sense := a.sense, lockContact := a.lockContact, quiet := a.quiet }

/-- An accepted ENROLL (R134, R135). It stops the re-probe timer: of a LOST opening by R129, of an UNENROLLED one, where
the timer is the enrollment retry of R133, by log entry 48 (DEDUCED). -/
def Core.acceptEnroll (e : Env) (o : OpeningId) (a : AbilityReport) (r : NodeReply) (c : Core) : Core :=
  let c := (c.setLive o fun l =>
    { l with ability := some (acceptedAbility a), locked := if a.lockContact then l.locked else none, reProbe := none,
             reProbeHeld := false }).storeReport e o r.position r.locked
  match (c.live o).state with
  | .unenrolled => c.enterIdle o
  | .lost => c.enterIdle o
  | .idle => c.join o
  | .queued => c.join o
  | _ => c

/-- A refused ENROLL (R134, R135, R19). -/
def Core.refuseEnroll (e : Env) (o : OpeningId) (reason : FaultReason) (r : NodeReply) (c : Core) : Core :=
  (((c.setLive o fun l => { l with ability := none, locked := none }).storeReport e o r.position r.locked).removeJob
    o).enterFaulted e o reason

/-- A NAK to an ENROLL (R129, R133). -/
def Core.enrollRefusedNow (e : Env) (o : OpeningId) (r : NodeReply) (c : Core) : Core :=
  let c := c.storeReport e o r.position r.locked
  match (c.live o).state with
  | .unenrolled => c.startReProbe e o
  | .lost => c.startReProbe e o
  | _ => c

/-- Whether the reply to an ENROLL stores position and lock and nothing else (R135). -/
def Core.enrollTooLate (c : Core) (o : OpeningId) : Bool :=
  match (c.live o).state with
  | .driving => true
  | .stopping => true
  | .absent => true
  | .faulted => true
  | .lost => c.orphaned o
  | _ => false

/-- The reply to an ENROLL (R129, R133 to R135): its opening leaves the resync list at the end of a pass ENROLL, and at
a NAK to one asked for on its own (log entry 18). -/
def Core.enrollReply (e : Env) (o : OpeningId) (pass alone : Bool) (r : NodeReply) (c : Core) : Core :=
  if c.enrollTooLate o then c.storeReport e o r.position r.locked
  else
    let c := if pass || (alone && decide (r.answer = .nak)) then c.leaveList e o else c
    match r.answer, r.ability with
    | .ack, some a =>
      match refusalOf (e.com o).kind a with
      | some reason => c.refuseEnroll e o reason r
      | none => c.acceptEnroll e o a r
    | _, _ => c.enrollRefusedNow e o r

/-- A good reply taken (R121): the count becomes 0, position and lock are stored, the requester takes the rest. -/
def Core.takeReply (e : Env) (g : Segment) (t : Transaction) (r : NodeReply) (c : Core) : Core :=
  let o := t.opening
  let c := (c.endTransaction e g).setCount g t.address 0
  let before := (c.live o).position
  match t.body with
  | .enroll pass single probe => c.enrollReply e o pass (single || probe) r
  | .drive _ _ true => (c.storeReport e o r.position r.locked).startReply e o r
  | .drive _ _ false => (c.storeReport e o r.position r.locked).reDriveReply e o r
  | .stop => (c.storeReport e o r.position r.locked).stopReply e o r
  | .progressPoll => (c.storeReport e o r.position r.locked).progressReply e o r
  | .idlePoll => (c.storeReport e o r.position r.locked).idleReply e o before r

/-- Whether a reply's fields are those of a reply to this transaction (R121): an ability in the ACK to an ENROLL, and
nowhere else. -/
def replyFits (r : NodeReply) (body : RequestBody) : Bool :=
  r.ability.isSome == (decide (r.answer = .ack) && body.kind == 3)

/-- A frame that is a good reply by its fields, taken if it answers the transaction in flight (R121, R122). -/
def Core.replyArrives (e : Env) (g : Segment) (r : NodeReply) (c : Core) : Core :=
  match (c.segments.get g).inFlight with
  | none => c
  | some t => if t.address = r.address ∧ replyFits r t.body = true ∧ t.leftover = false then c.takeReply e g t r else c

/-- A BUSY, taken if it answers the transaction in flight (R125). -/
def Core.busyArrives (e : Env) (g : Segment) (a : NodeAddress) (c : Core) : Core :=
  match (c.segments.get g).inFlight with
  | none => c
  | some t =>
    if t.address = a ∧ t.leftover = false then
      if t.busyCount < 8 then
        c.setSegment g fun s =>
          { s with inFlight := some { t with busyCount := t.busyCount + 1, window := startTimer e.now replyWindowMs } }
      else c.takeTimeout e g t
    else c

/-- The last byte of the frame in flight leaves the line (R124). -/
def Core.frameSent (e : Env) (g : Segment) (c : Core) : Core :=
  match (c.segments.get g).inFlight with
  | none => c
  | some t =>
    match t.window with
    | some _ => c
    | none => c.setSegment g fun s => { s with inFlight := some { t with window := startTimer e.now replyWindowMs } }

/-- A round of idle polls (R131). -/
def Core.pollRound (e : Env) (g : Segment) (c : Core) : Core :=
  let c := c.setSegment g fun s => { s with roundTimer := startTimer e.now idleRoundMs }
  (e.presentOn g).foldl (fun c o => if c.polledIdle e o then c.ask e o .idlePoll else c) c

end Sys2Proof.Machine
end

