-- ==== Sys2Proof/Machine/Holds.lean ====
section
/-! DEFINITION. The Hold Controllers (R142 to R152), and the checks the spec places at the end of an event, which make
the drive core ready for the next one (log entries 11 and 12). -/

namespace Sys2Proof.Machine

/-! ### Holds -/

/-- Whether a hold request is present (R143). -/
def Hold.requested (h : Hold) : Bool := h.filtered && !h.rearm

/-- Whether a slot holds an opening of a segment other than as an orphan (R145, R146). -/
def Slot.liveOn (e : Env) (g : Segment) (s : Slot) : Bool :=
  decide (e.segment s.opening = g) && decide (s.phase ≠ .orphan)

/-- Entry to RELEASING (R145): HOLD stop requests in ascending slot number. -/
def Core.enterReleasing (e : Env) (g : Segment) (c : Core) : Core :=
  let c := c.setHold g fun h => { h with state := .releasing }
  allSlots.foldl
    (fun c i =>
      match look c.slots i with
      | some s => if s.liveOn e g then c.requestStop e s.opening .hold else c
      | none => c) c

/-- The test of R144. -/
def Core.tryRelease (e : Env) (g : Segment) (c : Core) : Core :=
  let h := c.holds.get g
  if h.state = .owned ∧ h.requested = true ∧ e.level.belowCloseAll = true then c.enterReleasing e g else c

/-- Whether the release is complete (R146). -/
def Core.releaseComplete (e : Env) (c : Core) (g : Segment) : Bool :=
  (c.segments.get g).inFlight.isNone &&
    !((c.segments.get g).requests.any fun r => r.body.kind == 0) &&
    !(c.slots.toList.any fun s => s.any fun x => x.liveOn e g)

/-- The grant (R140, R148). -/
def Core.grant (e : Env) (g : Segment) (c : Core) : Core :=
  ((((c.setSegment g fun s => { s with requests := [] }).stopTimers e g).suspendPass g).setHold g fun h =>
    { h with state := .granted, grantLine := true, driversOff := true }).hand (.holdChanged g .granted)

/-- Entry to OWNED from RELEASING (R140, R146, R147): a start walk is triggered, a DUE pass starts, and the condition
of R144 is tested. -/
def Core.reclaimOwned (e : Env) (g : Segment) (c : Core) : Core :=
  (((c.setHold g fun h => { h with state := .owned }).trigger).startDuePass e g).tryRelease e g

/-- The completion test of a release (R146). -/
def Core.finishRelease (e : Env) (g : Segment) (c : Core) : Core :=
  let h := c.holds.get g
  if h.state = .releasing ∧ c.releaseComplete e g = true then
    if h.filtered then
      if h.requested = true ∧ e.level.belowCloseAll = true then c.grant e g else c
    else c.reclaimOwned e g
  else c

/-- Entry to RETURNING, by release or by revocation (R151, R152). The pass state stays as it is; the pass of the return is
triggered at OWNED (DEDUCED, log entry 49). -/
def Core.enterReturning (e : Env) (g : Segment) (reason : HoldReason) (c : Core) : Core :=
  (((c.setHold g fun h =>
      { h with state := .returning, grantLine := false, reclaimLine := false, reclaimTimer := none,
               driversOff := false, returningTimer := startTimer e.now returningMs }).setSegment g fun s =>
    { s with turnaround := startTimer e.now returningMs })).hand (.holdChanged g reason)

/-- The grant revoked (R151). -/
def Core.revoke (e : Env) (g : Segment) (c : Core) : Core :=
  (c.setHold g fun h => { h with rearm := true }).enterReturning e g .revoked

/-- A filtered assertion (R143, R144). -/
def Core.holdAsserted (e : Env) (g : Segment) (c : Core) : Core :=
  (c.setHold g fun h => { h with filtered := true, filterTimer := none }).tryRelease e g

/-- A filtered deassertion (R143, R152). -/
def Core.holdDeasserted (e : Env) (g : Segment) (c : Core) : Core :=
  let c := c.setHold g fun h => { h with filtered := false, filterTimer := none, rearm := false }
  match (c.holds.get g).state with
  | .granted => c.enterReturning e g .released
  | _ => c

/-- The returning timer expires (R152). The return from the hold is the trigger of R137 here, at the entry to OWNED,
whether the pass was left DUE or stood at NONE (DEDUCED, log entry 49). -/
def Core.returned (e : Env) (g : Segment) (c : Core) : Core :=
  let c := c.setHold g fun h => { h with state := .owned, returningTimer := none }
  let c := c.setSegment g fun s =>
    { s with turnaround := none, roundTimer := if e.supply = .out then none else startTimer e.now idleRoundMs }
  ((c.triggerPass e g).trigger).tryRelease e g

/-- The level enters CLOSE_ALL (R65, R147, R150). -/
def Core.holdAtCloseAll (e : Env) (g : Segment) (c : Core) : Core :=
  match (c.holds.get g).state with
  | .owned => c
  | .releasing => ((c.setHold g fun h => { h with state := .owned }).trigger).startDuePass e g
  | .granted =>
    c.setHold g fun h => { h with reclaimTimer := startTimer e.now (seconds e.work.settings.reclaimTimeout) }
  | .returning => c

/-- The level leaves CLOSE_ALL (R65, R144, R150). -/
def Core.holdBelowCloseAll (e : Env) (g : Segment) (c : Core) : Core :=
  match (c.holds.get g).state with
  | .granted => c.setHold g fun h => { h with reclaimTimer := none }
  | _ => c.tryRelease e g

/-! ### The building-closed status (R189, R190) -/

/-- Whether an opening's record counts as closed (R189). -/
def Live.closed (l : Live) : Bool :=
  decide (l.state ≠ .lost) && decide (l.state ≠ .unenrolled) && decide (l.position = .percent 0) &&
    match l.ability with
    | some a => !a.lockContact || l.locked == some true
    | none => false

/-- The building-closed status (R189). -/
def buildingClosed (e : Env) (c : Core) : Bool :=
  e.present.all fun o => decide ((c.live o).state = .lockedOut) || (c.live o).closed

/-- The status re-evaluated, and latched when it changed (R190). -/
def Core.noteBuilding (e : Env) (c : Core) : Core :=
  let now := buildingClosed e c
  if c.notices.buildingClosed = now then c
  else { c with notices := { c.notices with buildingClosed := now }.hand (.buildingClosedChanged now) }

/-! ### The end of an event (log entry 12) -/

/-- Requests whose opening is no longer polled idle, or whose slot no longer runs, are withdrawn (R123, R130, R131). -/
def Core.tidyRequests (e : Env) (g : Segment) (c : Core) : Core :=
  c.setSegment g fun s =>
    { s with requests := s.requests.filter fun r =>
        match r.body with
        | .idlePoll => c.polledIdle e r.opening
        | .progressPoll => c.running r.opening
        | _ => true }

/-- Follow-poll timers of openings no longer polled idle stop (R132). -/
def Core.tidyFollow (e : Env) (c : Core) : Core :=
  { c with openings := tabulate fun o =>
      if (c.live o).followPoll.isSome && !c.polledIdle e o then { c.live o with followPoll := none } else c.live o }

/-- RECLAIM follows the job count while GRANTED (R149). -/
def Core.driveReclaim (g : Segment) (c : Core) : Core :=
  c.setHold g fun h => { h with reclaimLine := decide (h.state = .granted) && decide (0 < c.jobsOn g) }

/-- What every block does at the end of an event: withdrawals, the completion of a release, the upkeep of a pass, the
arbiter's choice, RECLAIM, and the building-closed status (log entry 12). -/
def Core.settle (e : Env) (c : Core) : Core :=
  let each (f : Segment → Core → Core) (c : Core) := f .seg1 (f .seg0 c)
  let c := (each (fun g c => c.tidyRequests e g) c).tidyFollow e
  let c := each (fun g c => c.finishRelease e g) c
  let c := each (fun g c => c.passUpkeep e g) c
  let c := each (fun g c => c.arbitrate e g) c
  (each (fun g c => c.driveReclaim g) c).noteBuilding e

/-- An operation of the drive core inside an event of a state. -/
def State.within (s : State) (f : Env → Core → Core) : State := { s with core := f s.env s.core }

/-- The end of an event of a state (log entry 12). -/
def State.settled (s : State) : State := { s with core := s.core.settle s.env }

end Sys2Proof.Machine
end

