-- ==== Sys2Proof/Machine/Weather.lean ====
section
/-! DEFINITION. The Weather Assessor: rain, wind, sector, advisory, level, arc, exposure and weather latches
(R50 to R70). -/

namespace Sys2Proof.Machine

/-- The Weather Assessor together with the drive core it hands its changes to. -/
structure Sky where
  weather : Weather
  core : Core

/-- What the drive core reads under a Weather Assessor. -/
def Env.under (e : Env) (w : Weather) : Env := { e with level := w.level, latches := w.latches }

/-! ### Exposure and latches -/

/-- Whether a facade is in the windward arc (R66, R67). -/
def inArc (arc : BitVec 8) (f : Facade) : Bool :=
  match f with
  | .side s => arc.getLsbD s.val
  | .roof => false

/-- Whether an opening is exposed (R67). -/
def exposed (work : Content) (level : Level) (arc : BitVec 8) (o : OpeningId) : Bool :=
  let com := look work.openings o
  match level with
  | .calm => false
  | .watch => false
  | .closeAll => com.present
  | .closeExposed =>
    com.present &&
      match com.kind with
      | .skylight => true
      | .window => !com.sheltered && inArc arc com.facade

/-- A weather latch set (R68, R70): a clear latch becomes set, its opening joins the pending-resolution set, and any
unsent DRIVE meets the test of R90. -/
def Sky.setLatch (e : Env) (o : OpeningId) (k : Sky) : Sky :=
  if look k.weather.latches o then k
  else
    let w := { k.weather with latches := put k.weather.latches o true }
    { weather := w, core := (k.core.join o).recheckDrive (e.under w) o }

/-- The latches of every exposed opening set (R68), in ascending opening number (log entry 42). -/
def Sky.setLatches (e : Env) (k : Sky) : Sky :=
  (allOpenings.filter fun o => exposed e.work k.weather.level k.weather.arc o).foldl (fun k o => k.setLatch e o) k

/-- Every latch cleared (R69). -/
def Weather.clearLatches (w : Weather) : Weather := { w with latches := Vector.replicate 128 false }

/-! ### The level -/

/-- The four wind thresholds of a condition, in 0.1 m/s. -/
structure Thresholds where
  storm : Nat
  drivingRain : Nat
  close : Nat
  watch : Nat
deriving DecidableEq, Repr

/-- The set thresholds (R58). -/
def riseThresholds (s : Settings) : Thresholds :=
  { storm := s.stormGustSet, drivingRain := s.drivingRainSet, close := s.closeMeanSet, watch := s.watchGustSet }

/-- The release thresholds (R59). -/
def holdThresholds (s : Settings) : Thresholds :=
  { storm := s.stormGustRelease, drivingRain := s.drivingRainRelease, close := s.closeMeanRelease
    watch := s.watchGustRelease }

/-- The highest level whose condition holds under some thresholds, or CALM (R58, R59). -/
def targetLevel (t : Thresholds) (leadThreshold : Nat) (w : Weather) : Level :=
  let wet := decide (w.rain = .wet)
  let due := w.advisory.any fun a => decide (a.lead ≤ leadThreshold)
  if decide (t.storm ≤ w.gust) || (wet && decide (t.drivingRain ≤ w.mean)) then .closeAll
  else if wet || decide (t.close ≤ w.mean) || due then .closeExposed
  else if w.advisory.isSome || decide (t.watch ≤ w.gust) then .watch
  else .calm

/-- The rise target (R58). -/
def riseTarget (s : Settings) (w : Weather) : Level := targetLevel (riseThresholds s) s.leadThreshold w

/-- The hold target (R59). -/
def holdTarget (s : Settings) (w : Weather) : Level := targetLevel (holdThresholds s) s.leadThreshold w

/-- Every present opening joins the pending-resolution set. -/
def Core.joinAll (os : List OpeningId) (c : Core) : Core := os.foldl (fun c o => c.join o) c

/-- A change of the level handed on (R65), in the order of log entry 12. -/
def Sky.changeLevel (e : Env) (new : Level) (k : Sky) : Sky :=
  let old := k.weather.level
  let k := { weather := { k.weather with level := new }, core := k.core.hand .levelChanged : Sky }
  let k := if decide (old = .watch) != decide (new = .watch) then { k with core := k.core.joinAll e.present } else k
  let k :=
    if old.height < new.height ∧ 2 ≤ new.height then k.setLatches e
    else if old = .closeExposed ∧ new = .watch then { k with weather := k.weather.clearLatches }
    else k
  let e := e.under k.weather
  if new = .closeAll then { k with core := (k.core.holdAtCloseAll e .seg0).holdAtCloseAll e .seg1 }
  else if old = .closeAll then { k with core := (k.core.holdBelowCloseAll e .seg0).holdBelowCloseAll e .seg1 }
  else k

/-- The stand-down timer of a level that is not raised (R62). -/
def Weather.standDownJudged (now standDownTime : Nat) (hold : Level) (w : Weather) : Option Timer :=
  if w.level.height ≤ hold.height then none
  else
    match w.warmUp, w.standDown with
    | some _, _ => none
    | none, some t => some t
    | none, none => startTimer now (seconds standDownTime)

/-- An evaluation of the level (R60 to R62). -/
def Sky.evaluate (e : Env) (k : Sky) : Sky :=
  let s := e.work.settings
  let rise := riseTarget s k.weather
  if k.weather.level.height < rise.height then
    { k with weather := { k.weather with standDown := none } }.changeLevel e rise
  else
    { k with weather := { k.weather with
        standDown := k.weather.standDownJudged e.now s.standDownTime (holdTarget s k.weather) } }

/-- One step down the scale (R62). -/
def Level.lower : Level → Level
  | .calm => .calm
  | .watch => .calm
  | .closeExposed => .watch
  | .closeAll => .closeExposed

/-- The stand-down timer expires (R62). -/
def Sky.standDownEnds (e : Env) (k : Sky) : Sky :=
  ({ k with weather := { k.weather with standDown := none } }.changeLevel e k.weather.level.lower).evaluate e

/-- Warm-up ends (R64). -/
def Sky.warmUpEnds (e : Env) (k : Sky) : Sky := { k with weather := { k.weather with warmUp := none } }.evaluate e

/-! ### Rain -/

/-- The rain state re-judged from the two filtered levels (R51). -/
def Sky.judgeRain (e : Env) (k : Sky) : Sky :=
  let w := k.weather
  if w.roof.level = .wet ∨ w.facade.level = .wet then
    match w.rain with
    | .dry => { k with weather := { w with rain := .wet, dryOut := none } }.evaluate e
    | .wet => { k with weather := { w with dryOut := none } }
  else
    match w.rain, w.dryOut with
    | .wet, none => { k with weather := { w with dryOut := startTimer e.now (seconds e.work.settings.dryOutTime) } }
    | _, _ => k

/-- The filter of a contact (R50). -/
def Weather.filter (w : Weather) : RainContact → RainFilter
  | .roof => w.roof
  | .facade => w.facade

/-- The filter of a contact replaced. -/
def Weather.setFilter (w : Weather) (x : RainContact) (f : RainFilter) : Weather :=
  match x with
  | .roof => { w with roof := f }
  | .facade => { w with facade := f }

/-- A filter whose timer has expired (R50). -/
def RainFilter.expired (f : RainFilter) : RainFilter :=
  { level := match f.level with
      | .wet => .dry
      | .dry => .wet
    timer := none }

/-- A rain filter timer expires (R50). -/
def Sky.rainFilterEnds (e : Env) (x : RainContact) (k : Sky) : Sky :=
  { k with weather := k.weather.setFilter x (k.weather.filter x).expired }.judgeRain e

/-- The dry-out timer expires (R51). -/
def Sky.dryOutEnds (e : Env) (k : Sky) : Sky :=
  { k with weather := { k.weather with rain := .dry, dryOut := none } }.evaluate e

/-! ### Wind -/

/-- The gust of a window, in 0.1 m/s: pulses over 3 s times the constant in 0.01 m/s per Hz (R52). -/
def gustOf (pulses constant : Nat) : Nat := min 999 (pulses * constant / 30)

/-- The history with a window's gust appended, the oldest of 21 removed (R52). -/
def appendGust (history : List Nat) (gust : Nat) : List Nat :=
  let longer := history ++ [gust]
  if 20 < longer.length then longer.drop 1 else longer

/-- The average of a history, rounded down to 0.1 m/s (R53). -/
def meanOf (history : List Nat) : Nat := history.sum / history.length

/-- The end of a gust window (R52, R53); the next one is laid end to end with it, however late the end is taken. -/
def Weather.closeWindow (constant : Nat) (w : Weather) : Weather :=
  let gust := gustOf w.pulses constant
  let history := appendGust w.history gust
  { w with gust := gust, history := history, mean := meanOf history, pulses := 0,
           windowFrom := w.windowFrom + gustWindowMs }

/-- The end of a gust window, which is an evaluation (R53). -/
def Sky.gustEnds (e : Env) (k : Sky) : Sky :=
  { k with weather := k.weather.closeWindow e.work.settings.anemometerConstant }.evaluate e

/-! ### Sector and arc -/

/-- The reported sector (R55). -/
def reportedSector (stable : Option Sector) (vane : Sector) : ReportedSector :=
  match stable with
  | none => .none
  | some s => if vane = s then .stable s else .unstable

/-- One sector of a set. -/
def sectorBit (s : Nat) : BitVec 8 := 1#8 <<< (s % 8)

/-- The windward arc of a report (R66). -/
def arcOf (reported : ReportedSector) (stable : Option Sector) : BitVec 8 :=
  match reported, stable with
  | .stable s, _ => sectorBit s.val ||| sectorBit (s.val + 1) ||| sectorBit (s.val + 7)
  | .unstable, some s =>
    sectorBit s.val ||| sectorBit (s.val + 1) ||| sectorBit (s.val + 2) ||| sectorBit (s.val + 6) |||
      sectorBit (s.val + 7)
  | .unstable, none => BitVec.allOnes 8
  | .none, _ => BitVec.allOnes 8

/-- The report and the arc derived again; a widened or shifted arc sets latches at CLOSE_EXPOSED (R55, R66, R68). -/
def Sky.deriveArc (e : Env) (k : Sky) : Sky :=
  let reported := reportedSector k.weather.stable k.weather.vane
  let arc := arcOf reported k.weather.stable
  let widened := (arc &&& ~~~k.weather.arc) != 0#8
  let k := { k with weather := { k.weather with reported := reported, arc := arc } }
  if widened = true ∧ k.weather.level = .closeExposed then k.setLatches e else k

/-- A new vane reading (R55). -/
def Sky.vaneReads (e : Env) (s : Sector) (k : Sky) : Sky :=
  let stability : Option Stability :=
    if k.weather.stable = some s then none
    else some { timer := { start := e.now, length := stabilityMs }, candidate := s }
  { k with weather := { k.weather with vane := s, stability := stability } }.deriveArc e

/-- The stability timer expires (R55). -/
def Sky.sectorSettles (e : Env) (k : Sky) : Sky :=
  match k.weather.stability with
  | none => k
  | some x => { k with weather := { k.weather with stable := some x.candidate, stability := none } }.deriveArc e

/-! ### The advisory -/

/-- An advisory placed or replaced (R56). -/
def Sky.placeAdvisory (e : Env) (kind : AdvisoryKind) (lead duration : Nat) (k : Sky) : Sky :=
  { k with weather := { k.weather with
      advisory := some { kind := kind, lead := lead, time := lead + duration, markFrom := e.now } } }.evaluate e

/-- The advisory cancelled (R56). -/
def Sky.cancelAdvisory (e : Env) (k : Sky) : Sky :=
  { k with weather := { k.weather with advisory := none } }.evaluate e

/-- A minute mark of the advisory (R57); the marks are whole minutes from the placing, however late one is taken. -/
def Sky.minuteMark (e : Env) (k : Sky) : Sky :=
  match k.weather.advisory with
  | none => k
  | some a =>
    if a.time ≤ 1 then
      { weather := { k.weather with advisory := none }, core := k.core.hand .advisoryEnded : Sky }.evaluate e
    else
      { k with weather := { k.weather with
          advisory := some { a with lead := a.lead - 1, time := a.time - 1, markFrom := a.markFrom + minuteMs } } }.evaluate e

/-- An operation of the Weather Assessor inside an event of a state. -/
def State.onSky (s : State) (f : Env → Sky → Sky) : State :=
  let k := f s.env ⟨s.weather, s.core⟩
  { s with weather := k.weather, core := k.core }

end Sys2Proof.Machine
end

