-- ==== Sys2Proof/Machine/Claims.lean ====
section
/-! DEFINITION. The Claim Manager: dynamic claims, aging, removals, static claims (R29 to R41). -/

namespace Sys2Proof.Machine

/-! ### Dynamic claims -/

/-- The claimant of a port (R29); R176 lets no request that needs one through from the Service port. -/
def claimantOf : Role → Claimant
  | .ventilation => .ventilation
  | .security => .security
  | .service => .security

/-- The present openings a scope covers (R48). -/
def Env.coveredBy (e : Env) (scope : ClaimScope) : List OpeningId :=
  match scope with
  | .opening o => if (e.com o).present then [o] else []
  | .zone z => e.present.filter fun o => decide ((e.com o).zone = z)
  | .all => e.present

/-- Whether an occupied slot has a key (R29). -/
def hasKey (who : Claimant) (scope : ClaimScope) (s : Option Claim) : Bool :=
  s.any fun x => decide (x.claimant = who) && decide (x.scope = scope)

/-- The zone a scope names, if it names one: of its opening, or its own (R30). -/
def Env.zoneOf (e : Env) : ClaimScope → Option ZoneId
  | .opening o => some (e.com o).zone
  | .zone z => some z
  | .all => none

/-- Check 2 of R30 and R32: an OPENING claim on an absent record. -/
def Env.scopeAbsent (e : Env) : ClaimScope → Bool
  | .opening o => !(e.com o).present
  | _ => false

/-- Checks 3 and 4 of R30. -/
def Env.claimBarred (e : Env) (who : Claimant) (scope : ClaimScope) : Option Status :=
  match e.zoneOf scope with
  | none => none
  | some z =>
    if !(look e.work.zones z).valid then some .zoneInvalid
    else if !(look e.work.zones z).admits who then some .notAdmitted
    else none

/-- CLAIM past its range checks (R30 checks 2 to 5, R31). -/
def State.placeClaim (s : State) (who : Claimant) (scope : ClaimScope) (position : Nat) : State × Verdict :=
  let e := s.env
  if e.scopeAbsent scope then (s, .refused .noSuchOpening)
  else
    match e.claimBarred who scope with
    | some st => (s, .refused st)
    | none =>
      let entry : Claim := { claimant := who, scope := scope, position := position, age := 0 }
      match lowest s.claims.slots (hasKey who scope) with
      | some i =>
        let moved := (look s.claims.slots i).any fun x => decide (x.position ≠ position)
        ({ s with claims := { s.claims with slots := put s.claims.slots i (some entry) },
                  core := if moved then s.core.joinAll (e.coveredBy scope) else s.core },
          .ok [byteOf i.val, 1])
      | none =>
        match lowest s.claims.slots Option.isNone with
        | some i =>
          ({ s with claims := { s.claims with slots := put s.claims.slots i (some entry) },
                    core := s.core.joinAll (e.coveredBy scope) }, .ok [byteOf i.val, 0])
        | none => (s, .refused .tableFull)

/-- CLAIM (R30, R31). -/
def serveClaim (p : Role) (scope subject position : Byte) (s : State) : State × Verdict :=
  match claimScopeOf scope subject with
  | .error i => (s, .outOfRange i)
  | .ok k =>
    match positionOf? position with
    | none => (s, .outOfRange 3)
    | some x => s.placeClaim (claimantOf p) k x

/-- RELEASE (R32). -/
def serveRelease (p : Role) (scope subject : Byte) (s : State) : State × Verdict :=
  match claimScopeOf scope subject with
  | .error i => (s, .outOfRange i)
  | .ok k =>
    if s.env.scopeAbsent k then (s, .refused .noSuchOpening)
    else
      match lowest s.claims.slots (hasKey (claimantOf p) k) with
      | none => (s, .refused .notFound)
      | some i =>
        ({ s with claims := { s.claims with slots := put s.claims.slots i none },
                  core := s.core.joinAll (s.env.coveredBy k) }, .ok [])

/-! ### Removals (R36) -/

/-- What one removal hands on: CLAIM_EXPIRED on the claimant's port, and the openings it covered. -/
def Core.claimRemoved (e : Env) (reason : ExpiryReason) (x : Claim) (c : Core) : Core :=
  (c.hand (.claimExpired x.claimant reason)).joinAll (e.coveredBy x.scope)

/-- Every entry a test names removed, with CLAIM_EXPIRED for each (R36). -/
def State.removeClaims (s : State) (reason : ExpiryReason) (which : Claim → Bool) : State :=
  let removed := s.claims.slots.toList.filterMap fun x => x.filter which
  { s with
    claims := { s.claims with slots := s.claims.slots.map fun x => x.filter fun y => !which y }
    core := removed.foldl (fun c x => c.claimRemoved s.env reason x) s.core }

/-- The aging sweep (R33, R34). -/
def State.agingSweep (s : State) : State :=
  let s := s.removeClaims .aged fun x => x.age == 3
  { s with claims := { slots := s.claims.slots.map fun x => x.map fun y => { y with age := y.age + 1 }
                       sweepFrom := s.clock } }

/-- The moment the next sweep is due (R33). -/
def State.sweepDue (s : State) : Nat := s.claims.sweepFrom + seconds s.work.settings.agingPeriod

/-! ### Static claims -/

/-- The working copies written, with their openings placed in the pending-resolution set. -/
def State.withStatics (s : State) (v : Vector (Option StaticEntry) 32) : State :=
  { s with work := { s.work with statics := v } }

/-- Whether an occupied static slot has a key (R38). -/
def hasStaticKey (key : StaticKey) (s : Option StaticEntry) : Bool := s.any fun x => decide (x.key = key)

/-- The present openings a static key covers (R41). -/
def Env.coveredByKey (e : Env) (key : StaticKey) : List OpeningId :=
  e.present.filter fun o =>
    match key with
    | .opening p => decide (p = o)
    | .zone z => decide (z = (e.com o).zone)

/-- Check 3 of R39 and R40. -/
def Env.keyAbsent (e : Env) : StaticKey → Bool
  | .opening o => !(e.com o).present
  | .zone _ => false

/-- The unsent DRIVEs of several openings met with the test of R90 (R41), in ascending opening number (log entry 42). -/
def Core.recheckAll (e : Env) (os : List OpeningId) (c : Core) : Core := os.foldl (fun c o => c.recheckDrive e o) c

/-- A static entry written in a slot, with the effects of R41. -/
def State.putStatic (s : State) (i : Fin 32) (x : StaticEntry) : State :=
  ((s.withStatics (put s.work.statics i (some x))).within fun e c =>
    let os := e.coveredByKey x.key
    match x.kind with
    | .lockout => (c.joinAll os).recheckAll e os
    | .pin _ => c.joinAll os).settled

/-- STATIC_SET past its range checks (R39, R41). -/
def State.setStatic (s : State) (x : StaticEntry) : State × Verdict :=
  if s.env.keyAbsent x.key then (s, .refused .noSuchOpening)
  else
    match lowest s.work.statics (hasStaticKey x.key) with
    | some i => (s.putStatic i x, .ok [byteOf i.val])
    | none =>
      match lowest s.work.statics Option.isNone with
      | some i => (s.putStatic i x, .ok [byteOf i.val])
      | none => (s, .refused .tableFull)

/-- STATIC_SET (R39). -/
def serveStaticSet (scope subject kind position : Byte) (s : State) : State × Verdict :=
  if s.store.state = .saving then (s, .refused .busy)
  else
    match staticKeyOf scope subject with
    | .error i => (s, .outOfRange i)
    | .ok key =>
      match staticKindOf kind position with
      | .error i => (s, .outOfRange i)
      | .ok k => s.setStatic { key := key, kind := k }

/-- STATIC_CLEAR (R40, R41). -/
def serveStaticClear (scope subject : Byte) (s : State) : State × Verdict :=
  if s.store.state = .saving then (s, .refused .busy)
  else
    match staticKeyOf scope subject with
    | .error i => (s, .outOfRange i)
    | .ok key =>
      if s.env.keyAbsent key then (s, .refused .noSuchOpening)
      else
        match lowest s.work.statics (hasStaticKey key) with
        | none => (s, .refused .notFound)
        | some i =>
          let s' := s.withStatics (put s.work.statics i none)
          ({ s' with core := s'.core.joinAll (s'.env.coveredByKey key) }, .ok [])

end Sys2Proof.Machine
end

