-- ==== Sys2Proof/Machine/Supply.lean ====
section
/-! DEFINITION. The Supply Monitor: the supply state, the mains state, the start pause, and the trip (R154 to R167). -/

namespace Sys2Proof.Machine

/-- The supply state a voltage gives (R156); a voltage between a set level and its release level changes nothing. -/
def judgeVoltage (s : Settings) (v : Nat) : SupplyState → SupplyState
  | .normal => if v < s.outSet then .outPending else if v < s.sagSet then .sag else .normal
  | .sag => if v < s.outSet then .outPending else if s.sagRelease < v then .normal else .sag
  | .outPending => if s.sagRelease < v then .normal else if s.outRelease < v then .sag else .outPending
  | .out => if s.sagRelease < v then .normal else .out

/-- The supply state judged at start-up (R157). -/
def startSupply (s : Settings) (v : Nat) : SupplyState :=
  if s.sagSet ≤ v then .normal else if s.outSet ≤ v then .sag else .out

/-- A supply state entered, with the ride-through timer it gives (R156). -/
def Supply.enter (now : Nat) (new : SupplyState) (u : Supply) : Supply :=
  { u with state := new, rideThrough := if new = .outPending then startTimer now rideThroughMs else none }

/-- The return from OUT (R160) or another return to NORMAL (R156). -/
def Core.supplyNormal (e : Env) (fromOut : Bool) (c : Core) : Core :=
  (if fromOut then (c.resume e .seg0).resume e .seg1 else c).trigger

/-- A slot's drive ended by the outage (R21): an orphan is only freed. -/
def Core.outageSlot (e : Env) (i : SlotId) (c : Core) : Core :=
  match look c.slots i with
  | none => c
  | some s =>
    let c := c.freeSlot e i
    if s.phase = .orphan then c
    else
      let l := c.live s.opening
      (c.setLive s.opening fun x => { x with position := .unknown }).enqueue e s.opening (l.target.getD s.target)
        (l.jobClass.getD s.cls) .tail

/-- The position of a QUEUED opening becomes UNKNOWN on the outage (R13, log entry 41). -/
def Core.forgetQueued (o : OpeningId) (c : Core) : Core :=
  if (c.live o).state = .queued then c.setLive o fun x => { x with position := .unknown } else c

/-- The Closure Scheduler's part of the entry to OUT (R21, R159 step 2). -/
def Core.outageDrives (e : Env) (c : Core) : Core :=
  allOpenings.foldl (fun c o => c.forgetQueued o) (allSlots.foldl (fun c i => c.outageSlot e i) c)

/-- Entry to OUT (R159), its steps 2 and 3. -/
def Core.outage (e : Env) (c : Core) : Core :=
  ((c.outageDrives e).suspend e .seg0).suspend e .seg1

/-- A change of the supply state, taken whole (R156, R159, R160). -/
def State.enterSupply (s : State) (new : SupplyState) : State :=
  let old := s.supply.state
  let s := { s with supply := s.supply.enter s.clock new }
  s.within fun e c =>
    let c := c.hand .supplyChanged
    match new with
    | .normal => c.supplyNormal e (decide (old = .out))
    | .out => c.outage e
    | .sag => c
    | .outPending => c

/-- The voltage judged (R155, R156). -/
def State.judgeSupply (s : State) : State :=
  let new := judgeVoltage s.work.settings s.inputs.voltage s.supply.state
  if new = s.supply.state then s else s.enterSupply new

/-- At or above the high mark of a budget (R164). -/
def atHighMark (current budget high : Nat) : Bool := decide (budget * high ≤ current * 100)

/-- At or below the low mark of a budget (R164). -/
def atLowMark (current budget low : Nat) : Bool := decide (current * 100 ≤ budget * low)

/-- Above the trip level of a budget (R166). -/
def aboveTrip (current budget : Nat) : Bool := decide (budget * 125 < current * 100)

/-- The budget in force (R162). -/
def State.budget (s : State) : Nat := budgetOf s.work s.supply.mains

/-- The pause state and its timer judged, and whether a pause has ended (R164). -/
def Supply.judgePause (now current budget high low : Nat) (u : Supply) : Supply × Bool :=
  match u.pause with
  | .none =>
    if atHighMark current budget high then
      ({ u with pause := .paused, pauseLimit := startTimer now pauseLimitMs }, false)
    else (u, false)
  | .paused =>
    if atLowMark current budget low then ({ u with pause := .none, pauseLimit := none }, true) else (u, false)
  | .barred => if atLowMark current budget low then ({ u with pause := .none }, false) else (u, false)

/-- The start pause judged (R164). -/
def State.judgePause (s : State) : State :=
  let r := s.supply.judgePause s.clock s.inputs.current s.budget s.work.settings.highMark s.work.settings.lowMark
  { s with supply := r.1, core := if r.2 then s.core.trigger else s.core }

/-- The trip timer judged (R166). -/
def Supply.judgeTrip (now current budget : Nat) (u : Supply) : Supply :=
  { u with trip :=
      if aboveTrip current budget then
        match u.trip with
        | some t => some t
        | none => startTimer now tripMs
      else none }

/-- The trip timer judged (R166). -/
def State.judgeTrip (s : State) : State :=
  { s with supply := s.supply.judgeTrip s.clock s.inputs.current s.budget }

/-- A change of the budget in force (R161, R162): the pause and the trip are judged, and a walk is triggered. -/
def State.budgetChanged (s : State) : State :=
  let s := s.judgePause.judgeTrip
  { s with core := s.core.trigger }

/-- The other mains state. -/
def flipMains : MainsState → MainsState
  | .mains => .battery
  | .battery => .mains

/-- A change of the mains state (R161). -/
def State.mainsChanges (s : State) : State :=
  let s := { s with supply := { s.supply with mains := flipMains s.supply.mains, mainsFilter := none } }
  { s with core := s.core.hand .supplyChanged }.budgetChanged

/-- The pause limit expires (R165). -/
def State.pauseLimitEnds (s : State) : State :=
  { s with supply := { s.supply with pause := .barred, pauseLimit := none },
           core := (s.core.hand .pauseTimeout).trigger }

/-- The younger of two drives: the later start walk, then the higher slot (R167). -/
def youngerOf (c : Core) (best : Option (SlotId × Slot)) (i : SlotId) : Option (SlotId × Slot) :=
  match look c.slots i with
  | none => best
  | some s =>
    if (c.live s.opening).state = .driving then
      match best with
      | none => some (i, s)
      | some b => if s.startWalk < b.2.startWalk then best else some (i, s)
    else best

/-- The youngest drive (R167). -/
def Core.youngest (c : Core) : Option (SlotId × Slot) := allSlots.foldl (youngerOf c) none

/-- The drive shed (R167). -/
def Core.shed (e : Env) (c : Core) : Core :=
  match c.youngest with
  | none => c
  | some b => c.requestStop e b.2.opening .shed

/-- The trip timer restarted while the current is above the trip level (R166). -/
def restartedTrip (now current budget : Nat) : Option Timer :=
  if aboveTrip current budget then startTimer now tripMs else none

/-- The trip timer expires (R166, R167): it restarts while the current is above the trip level. -/
def State.tripEnds (s : State) : State :=
  ({ s with supply := { s.supply with trip := restartedTrip s.clock s.inputs.current s.budget } }).within Core.shed

end Sys2Proof.Machine
end

