-- ==== Sys2Proof/Machine/Views.lean ====
section
/-! DEFINITION. What the reads return: the views of R202 and the other reply fields of R201, byte by byte, with the codes
of R200 (log entry 23). -/

namespace Sys2Proof.Machine

/-! ### Codes -/

/-- yes 1, no 0. -/
def yesNo (b : Bool) : Byte := if b then 1 else 0

/-- The first of two listed values 0, the second 1. -/
def firstOf (b : Bool) : Byte := if b then 0 else 1

/-- An absent one-byte field. -/
def absentByte : Byte := 0xFF#8

/-- A field that may be absent. -/
def orAbsent {α : Type} (code : α → Byte) : Option α → Byte
  | some x => code x
  | none => absentByte

/-- A two-byte field that may be absent. -/
def twoOrAbsent : Option Nat → List Byte
  | some n => twoBytes n
  | none => [absentByte, absentByte]

/-- Segment codes. -/
def segmentCode : Segment → Byte
  | .seg0 => 0
  | .seg1 => 1

/-- WINDOW 0, SKYLIGHT 1. -/
def kindCode : Kind → Byte
  | .window => 0
  | .skylight => 1

/-- N to NW 0..7, ROOF 8. -/
def facadeCode : Facade → Byte
  | .side s => byteOf s.val
  | .roof => 8

/-- FINE 0, COARSE 1. -/
def senseCode : Sense → Byte
  | .fine => 0
  | .coarse => 1

/-- ABSENT 0 to LOCKED_OUT 10. -/
def stateCode : OpeningState → Byte
  | .absent => 0
  | .unenrolled => 1
  | .idle => 2
  | .queued => 3
  | .driving => 4
  | .stopping => 5
  | .dwell => 6
  | .resting => 7
  | .lost => 8
  | .faulted => 9
  | .lockedOut => 10

/-- REVERSAL 0, OBSTRUCTION 1. -/
def dwellCode : DwellReason → Byte
  | .reversal => 0
  | .obstruction => 1

/-- 0..100, UNKNOWN FFh. -/
def positionCode : Position → Byte
  | .percent p => byteOf p
  | .unknown => 0xFF#8

/-- WEATHER 0 to FALLBACK 4. -/
def classCode (c : JobClass) : Byte := byteOf c.urgency

/-- Stop causes in the order of R6. -/
def causeCode : StopCause → Byte
  | .retarget => 0
  | .cutoff => 1
  | .lockout => 2
  | .shed => 3
  | .hold => 4

/-- Fault reasons in the order of R6. -/
def faultCode : FaultReason → Byte
  | .failures => 0
  | .kindMismatch => 1
  | .rating => 2

/-- wet 0, dry 1. -/
def wetCode : Wetness → Byte
  | .wet => 0
  | .dry => 1

/-- A stable sector 0..7, UNSTABLE 8, NONE 9. -/
def reportedCode : ReportedSector → Byte
  | .stable s => byteOf s.val
  | .unstable => 8
  | .none => 9

/-- RAIN 0, WIND 1. -/
def advisoryCode : AdvisoryKind → Byte
  | .rain => 0
  | .wind => 1

/-- CALM 0 to CLOSE_ALL 3. -/
def levelCode (l : Level) : Byte := byteOf l.height

/-- OPERATE 0, COMMISSION 1. -/
def modeCode : Mode → Byte
  | .operate => 0
  | .commission => 1

/-- IDLE 0, SAVING 1. -/
def storeCode : StoreState → Byte
  | .idle => 0
  | .saving => 1

/-- NORMAL 0 to OUT 3. -/
def supplyCode : SupplyState → Byte
  | .normal => 0
  | .sag => 1
  | .outPending => 2
  | .out => 3

/-- MAINS 0, BATTERY 1. -/
def mainsCode : MainsState → Byte
  | .mains => 0
  | .battery => 1

/-- NONE 0, PAUSED 1, BARRED 2. -/
def pauseCode : PauseState → Byte
  | .none => 0
  | .paused => 1
  | .barred => 2

/-- NONE 0, DUE 1, RUNNING 2. -/
def passCode : PassState → Byte
  | .none => 0
  | .due => 1
  | .running => 2

/-- OWNED 0 to RETURNING 3. -/
def holdCode : HoldState → Byte
  | .owned => 0
  | .releasing => 1
  | .granted => 2
  | .returning => 3

/-- OPENING 0, ZONE 1, ALL 2. -/
def scopeCode : ClaimScope → Byte
  | .opening _ => 0
  | .zone _ => 1
  | .all => 2

/-- A scope's subject, absent for ALL. -/
def subjectCode : ClaimScope → Byte
  | .opening o => byteOf o.val
  | .zone z => byteOf z.val
  | .all => absentByte

/-- VENTILATION 0, SECURITY 1. -/
def claimantCode : Claimant → Byte
  | .ventilation => 0
  | .security => 1

/-- STAY 0, CLOSE 1. -/
def fallbackCode : Fallback → Byte
  | .stay => 0
  | .close => 1

/-- closed 0, not closed 1, FORCED 2. -/
def buildingCode : BuildingDetail → Byte
  | .closed => 0
  | .notClosed => 1
  | .forced => 2

/-- AGED 0, ZONE_CHANGED 1, OPENING_REMOVED 2, FORCED 3. -/
def expiryCode : ExpiryReason → Byte
  | .aged => 0
  | .zoneChanged => 1
  | .openingRemoved => 2
  | .forced => 3

/-- GRANTED 0, RELEASED 1, REVOKED 2, FORCED 3 (R201). -/
def holdReasonCode : HoldReason → Byte
  | .granted => 0
  | .released => 1
  | .revoked => 2
  | .forced => 3

/-- OK 0, WRITE_FAILED 1, FORCED 2. -/
def storeResultCode : StoreResult → Byte
  | .ok => 0
  | .writeFailed => 1
  | .forced => 2

/-! ### The opening view (R7, R103, R202) -/

/-- The running timer of an opening, by its code, with the time remaining in ms (R7, R103). -/
def State.openingTimer (s : State) (o : OpeningId) : Option (Byte × Nat) :=
  let l := s.core.live o
  match l.state with
  | .resting => l.restTimer.map fun t => (2, t.deadline - s.clock)
  | .dwell => l.dwellTimer.map fun t => (3, t.deadline - s.clock)
  | _ =>
    match (s.core.slotOf o).bind fun i => look s.core.slots i with
    | none => none
    | some x =>
      match x.orphanEnd with
      | some t => some (4, t - s.clock)
      | none => if x.runTimer then some (1, x.runDeadline - s.clock) else none

/-- The opening view (R202). -/
def State.openingView (s : State) (o : OpeningId) : List Byte :=
  let m := look s.work.openings o
  let l := s.core.live o
  let timer := s.openingTimer o
  [byteOf o.val, yesNo m.present, segmentCode m.segment, byteOf m.node.val, kindCode m.kind, byteOf m.zone.val,
    facadeCode m.facade, byteOf m.rank.val, yesNo m.sheltered] ++
  [orAbsent (fun a => byteOf a.stroke) l.ability, orAbsent (fun a => byteOf a.rated) l.ability,
    orAbsent (fun a => senseCode a.sense) l.ability, orAbsent (fun a => yesNo a.lockContact) l.ability,
    orAbsent (fun a => yesNo a.quiet) l.ability] ++
  [stateCode l.state, orAbsent dwellCode l.dwellReason, positionCode l.position, orAbsent yesNo l.locked,
    orAbsent byteOf l.target, orAbsent classCode l.jobClass, firstOf (look s.weather.latches o),
    byteOf l.failureCount, orAbsent causeCode l.stopCause, orAbsent faultCode l.faultReason,
    yesNo l.linkDropped] ++
  [match timer with
    | some t => t.1
    | none => 0] ++
  twoOrAbsent (timer.map fun t => secondsUp t.2)

/-! ### The weather view (R71, R72, R202) -/

/-- The reasons of a DELAYED mark, in the order of R72. -/
inductive Delay
  | rest
  | dwellReversal
  | dwellObstruction
  | lost
  | faulted
  | unenrolled
deriving DecidableEq, Repr

/-- Weather marks (R72). -/
inductive Mark
  | clear
  | withheld
  | closed
  | closing
  | delayed (why : Delay)
deriving DecidableEq, Repr

/-- Whether a position is 0..2 (R72). -/
def Position.nearShut : Position → Bool
  | .percent p => decide (p ≤ 2)
  | .unknown => false

/-- The mark of a record with a latch (R72). -/
def markOf (latched : Bool) (l : Live) : Mark :=
  if !latched then .clear
  else if l.state = .lockedOut then .withheld
  else if l.position.nearShut then .closed
  else
    match l.state with
    | .resting => .delayed .rest
    | .dwell =>
      match l.dwellReason with
      | some .obstruction => .delayed .dwellObstruction
      | _ => .delayed .dwellReversal
    | .lost => .delayed .lost
    | .faulted => .delayed .faulted
    | .unenrolled => .delayed .unenrolled
    | _ => .closing

/-- A mark's code (R202). -/
def Mark.code : Mark → Byte
  | .clear => 0
  | .withheld => 1
  | .closed => 2
  | .closing => 3
  | .delayed .rest => 4
  | .delayed .dwellReversal => 5
  | .delayed .dwellObstruction => 6
  | .delayed .lost => 7
  | .delayed .faulted => 8
  | .delayed .unenrolled => 9

/-- The mark of an opening. -/
def State.mark (s : State) (o : OpeningId) : Mark := markOf (look s.weather.latches o) (s.core.live o)

/-- The number of openings whose mark passes a test. -/
def State.countMarks (s : State) (test : Mark → Bool) : Byte :=
  byteOf (allOpenings.filter fun o => test (s.mark o)).length

/-- Whether a mark is DELAYED. -/
def Mark.isDelayed : Mark → Bool
  | .delayed _ => true
  | _ => false

/-- The weather view of a page (R202). -/
def State.weatherView (s : State) (page : Fin 8) : List Byte :=
  let w := s.weather
  let now := s.clock
  [byteOf page.val, wetCode w.roof.level, wetCode w.facade.level, wetCode w.rain] ++
  twoBytes (secondsUp (remaining now w.dryOut)) ++ twoBytes w.gust ++ twoBytes w.mean ++
  [byteOf w.history.length, reportedCode w.reported, orAbsent (fun x => byteOf x.val) w.stable,
    yesNo w.advisory.isSome, orAbsent (fun a => advisoryCode a.kind) w.advisory,
    orAbsent (fun a => byteOf a.lead) w.advisory] ++
  twoOrAbsent (w.advisory.map Advisory.time) ++
  [levelCode w.level, levelCode (riseTarget s.work.settings w), levelCode (holdTarget s.work.settings w)] ++
  twoBytes (secondsUp (remaining now w.standDown)) ++
  [byteOf (secondsUp (remaining now w.warmUp)), w.arc, s.countMarks fun m => decide (m ≠ .clear),
    s.countMarks fun m => decide (m = .withheld), s.countMarks Mark.isDelayed] ++
  [Delay.rest, .dwellReversal, .dwellObstruction, .lost, .faulted, .unenrolled].map
    (fun d => s.countMarks fun m => decide (m = .delayed d)) ++
  (allOpenings.filter fun o => o.val / 16 == page.val).map fun o => (s.mark o).code

/-! ### The status view (R102, R141, R153, R169, R178, R202) -/

/-- The number of queued jobs under a wait reason. -/
def Core.countWait (c : Core) (w : WaitReason) : Byte :=
  byteOf (c.queue.filter fun j => decide (j.wait = some w)).length

/-- The number of occupied slots that pass a test. -/
def Core.countSlots (c : Core) (test : Slot → Bool) : Byte :=
  byteOf (c.slots.toList.filter fun s => s.any test).length

/-- The number of nodes with a count of 1 or 2 (R141). -/
def SegmentCtl.counting (g : SegmentCtl) : Nat := (g.counts.toList.filter fun n => n == 1 || n == 2).length

/-- A segment's items (R141, R153). -/
def State.segmentView (s : State) (g : Segment) : List Byte :=
  let c := s.core.segments.get g
  let h := s.core.holds.get g
  [passCode c.pass, byteOf c.resync.length, byteOf c.counting, holdCode h.state, firstOf h.grantLine,
    firstOf h.reclaimLine, firstOf h.filtered, firstOf h.rearm, byteOf (secondsUp (remaining s.clock h.reclaimTimer))]

/-- The status view (R202). -/
def State.statusView (s : State) : List Byte :=
  let c := s.core
  let u := s.supply
  [modeCode s.store.mode, storeCode s.store.state, yesNo s.store.imageValid, supplyCode u.state] ++
  twoBytes s.inputs.voltage ++ twoBytes (remaining s.clock u.rideThrough) ++ [mainsCode u.mains] ++
  twoBytes s.budget ++ twoBytes s.inputs.current ++
  [pauseCode u.pause, byteOf (secondsUp (remaining s.clock u.pauseLimit)), firstOf u.trip.isSome] ++
  [c.countSlots fun _ => true, c.countSlots fun x => decide (x.phase = .orphan)] ++
  twoBytes c.reservationSum ++
  [byteOf c.queue.length, orAbsent (fun j => byteOf j.opening.val) c.queue.head?,
    orAbsent (fun j => classCode j.cls) c.queue.head?, orAbsent (fun j => byteOf j.rank.val) c.queue.head?] ++
  [WaitReason.noSlot, .supply, .pause, .segment, .battery, .withheld, .budget, .behindBudget].map c.countWait ++
  [byteOf (c.jobsOn .seg0), byteOf (c.jobsOn .seg1)] ++ s.segmentView .seg0 ++ s.segmentView .seg1

/-! ### Events (R186, R188) -/

/-- The present state (R188): bit n for the nth condition. -/
def State.presentState (s : State) : Byte :=
  let bit (n : Nat) (b : Bool) : Byte := if b then byteOf (2 ^ n) else 0#8
  bit 0 (decide (2 ≤ s.weather.level.height)) ||| bit 1 s.core.notices.buildingClosed |||
    bit 2 (decide (s.supply.state ≠ .normal) || decide (s.supply.mains = .battery)) |||
    bit 3 (decide ((s.core.holds.get .seg0).state ≠ .owned) || decide ((s.core.holds.get .seg1).state ≠ .owned)) |||
    bit 4 (allOpenings.any fun o => decide ((s.core.live o).state = .faulted)) |||
    bit 5 (allOpenings.any fun o => decide ((s.core.live o).state = .lost))

/-- A set of kinds as two bytes. -/
def kindBytes (k : KindSet) : List Byte := twoBytes k.toNat

/-- The five detail bytes of READ_EVENTS (R201). -/
def Details.bytes (d : Details) : List Byte :=
  [orAbsent buildingCode d.building, orAbsent expiryCode d.claim, orAbsent holdReasonCode d.hold.seg0,
    orAbsent holdReasonCode d.hold.seg1, orAbsent storeResultCode d.store]

/-- The reply fields of READ_EVENTS (R186, R201). -/
def State.eventBytes (s : State) (p : Role) : List Byte :=
  let n := s.core.notices.ports.get p
  kindBytes n.latch ++ n.details.bytes ++ kindBytes n.mask ++ [s.presentState]

/-! ### Tables -/

/-- The fields of a static slot (R40, R201). -/
def staticBytes : Option StaticEntry → List Byte
  | none => [0, absentByte, absentByte, absentByte, absentByte]
  | some x =>
    [1] ++
    (match x.key with
      | .opening o => [0, byteOf o.val]
      | .zone z => [1, byteOf z.val]) ++
    (match x.kind with
      | .lockout => [0, absentByte]
      | .pin p => [1, byteOf p])

/-- The fields of a dynamic slot (R37, R201). -/
def claimBytes : Option Claim → List Byte
  | none => [0, absentByte, absentByte, absentByte, absentByte, absentByte]
  | some x =>
    [1, claimantCode x.claimant, scopeCode x.scope, subjectCode x.scope, byteOf x.position, byteOf x.age]

/-- The number of occupied slots of the Dynamic Claim Table (R37). -/
def Claims.occupied (t : Claims) : Nat := (t.slots.toList.filter Option.isSome).length

/-- The number of ZONE claims of a claimant on a zone (R28). -/
def Claims.zoneCount (t : Claims) (who : Claimant) (z : ZoneId) : Nat :=
  (t.slots.toList.filter (hasKey who (.zone z))).length

/-- The fields of a zone (R28, R201). -/
def State.zoneBytes (s : State) (z : ZoneId) : List Byte :=
  let r := look s.work.zones z
  [byteOf z.val, yesNo r.valid, yesNo r.admitVentilation, yesNo r.admitSecurity, byteOf r.ceiling,
    fallbackCode r.fallback, byteOf (s.claims.zoneCount .ventilation z), byteOf (s.claims.zoneCount .security z)]

/-- The fields of an opening's counters (R24, R201). -/
def Live.counterBytes (l : Live) : List Byte :=
  twoBytes l.drivesCompleted.value ++ twoBytes l.cutOffs.value ++ twoBytes l.obstructions.value ++
    twoBytes l.linkLosses.value ++
  [(if l.drivesCompleted.saturated then 1#8 else 0#8) ||| (if l.cutOffs.saturated then 2#8 else 0#8) |||
    (if l.obstructions.saturated then 4#8 else 0#8) ||| (if l.linkLosses.saturated then 8#8 else 0#8)]

/-- The fields of a block of 16 records (R7, R201). -/
def State.blockBytes (s : State) (first : OpeningId) : List Byte :=
  byteOf first.val ::
    ((allOpenings.filter fun o => o.val / 16 == first.val / 16).map fun o =>
      [stateCode (s.core.live o).state, positionCode (s.core.live o).position]).flatten

end Sys2Proof.Machine
end

