-- ==== Sys2Proof/Machine/Reads.lean ====
section
/-! DEFINITION. The read requests and the notice requests (R7, R22, R24, R28, R37, R40, R71, R178, R179, R185 to R187). -/

namespace Sys2Proof.Machine

/-- A change of the sender's port in the Notice Unit. -/
def State.setNotices (s : State) (p : Role) (f : NoticePort → NoticePort) : State :=
  { s with core := { s.core with notices := { s.core.notices with
      ports := s.core.notices.ports.set p (f (s.core.notices.ports.get p)) } } }

/-- READ_OPENING; from the Service port the link-drop latch of an opening not LOST returns to intact (R7, R22). -/
def serveReadOpening (p : Role) (opening : Byte) (s : State) : State × Verdict :=
  match finOf? 128 opening.toNat with
  | none => (s, .outOfRange 1)
  | some o =>
    let fields := s.openingView o
    if p = .service ∧ (s.core.live o).state ≠ .lost then
      ({ s with core := s.core.setLive o fun l => { l with linkDropped := false } }, .ok fields)
    else (s, .ok fields)

/-- READ_BLOCK (R7). -/
def serveReadBlock (first : Byte) (s : State) : State × Verdict :=
  match finOf? 128 first.toNat with
  | none => (s, .outOfRange 1)
  | some o => if o.val % 16 = 0 then (s, .ok (s.blockBytes o)) else (s, .outOfRange 1)

/-- READ_WEATHER (R71). -/
def serveReadWeather (page : Byte) (s : State) : State × Verdict :=
  match finOf? 8 page.toNat with
  | none => (s, .outOfRange 1)
  | some x => (s, .ok (s.weatherView x))

/-- READ_STATUS (R178). -/
def serveReadStatus (s : State) : State × Verdict := (s, .ok s.statusView)

/-- READ_EVENTS (R186). -/
def serveReadEvents (p : Role) (s : State) : State × Verdict :=
  (s.setNotices p NoticePort.clearRead, .ok (s.eventBytes p))

/-- SET_MASK (R185). -/
def serveSetMask (p : Role) (kinds : Word16) (s : State) : State × Verdict :=
  match kindSetOf? kinds with
  | none => (s, .outOfRange 1)
  | some k => (s.setNotices p fun n => n.setMask k, .ok (kindBytes k))

/-- FORCE_EVENT (R187). -/
def serveForceEvent (p : Role) (kinds : Word16) (s : State) : State × Verdict :=
  match kindSetOf? kinds with
  | none => (s, .outOfRange 1)
  | some k => (s.setNotices p fun n => n.force k, .ok [])

/-- READ_STATIC (R40). -/
def serveReadStatic (slot : Byte) (s : State) : State × Verdict :=
  match finOf? 32 slot.toNat with
  | none => (s, .outOfRange 1)
  | some i => (s, .ok (staticBytes (look s.work.statics i)))

/-- READ_CLAIM (R37). -/
def serveReadClaim (slot : Byte) (s : State) : State × Verdict :=
  match finOf? 192 slot.toNat with
  | none => (s, .outOfRange 1)
  | some i => (s, .ok (claimBytes (look s.claims.slots i) ++ [byteOf s.claims.occupied]))

/-- ZONE_READ (R28). -/
def serveZoneRead (zone : Byte) (s : State) : State × Verdict :=
  match finOf? 16 zone.toNat with
  | none => (s, .outOfRange 1)
  | some z => (s, .ok (s.zoneBytes z))

/-- The four counters at 0 with their flags clear (R24). -/
def Live.clearCounters (l : Live) : Live :=
  { l with drivesCompleted := Counter.zero, cutOffs := Counter.zero, obstructions := Counter.zero,
           linkLosses := Counter.zero }

/-- READ_COUNTERS (R24). -/
def serveReadCounters (opening : Byte) (s : State) : State × Verdict :=
  match finOf? 128 opening.toNat with
  | none => (s, .outOfRange 1)
  | some o => ({ s with core := s.core.setLive o Live.clearCounters }, .ok (s.core.live o).counterBytes)

/-- SETTINGS_READ (R179). -/
def serveSettingsRead (s : State) : State × Verdict := (s, .ok (settingsBytes s.work.settings))

end Sys2Proof.Machine
end

