-- ==== Sys2Proof/Machine/Edits.lean ====
section
/-! DEFINITION. The requests that edit, clear, save and restart (R3, R4, R26, R27, R56, R115, R138, R179 to R181, R193). -/

namespace Sys2Proof.Machine

/-- The mode test, then the SAVING test, of a commissioning request (R176). -/
def State.editBarred (s : State) : Option Status :=
  if s.store.mode = .operate then some .wrongMode
  else if s.store.state = .saving then some .busy
  else none

/-! ### OPENING_WRITE -/

/-- The fields of an OPENING_WRITE, or the index of the first at fault (R3 row 3). -/
def openingFields (opening present segment node kind zone facade rank sheltered : Byte) :
    Except Nat (OpeningId × Commissioned) :=
  match finOf? 128 opening.toNat, boolOf? present, segmentOf? segment, finOf? 64 node.toNat, kindOf? kind,
    finOf? 16 zone.toNat, facadeOf? facade, finOf? 8 rank.toNat, boolOf? sheltered with
  | none, _, _, _, _, _, _, _, _ => .error 1
  | _, none, _, _, _, _, _, _, _ => .error 2
  | _, _, none, _, _, _, _, _, _ => .error 3
  | _, _, _, none, _, _, _, _, _ => .error 4
  | _, _, _, _, none, _, _, _, _ => .error 5
  | _, _, _, _, _, none, _, _, _ => .error 6
  | _, _, _, _, _, _, none, _, _ => .error 7
  | _, _, _, _, _, _, _, none, _ => .error 8
  | _, _, _, _, _, _, _, _, none => .error 9
  | some o, some p, some g, some n, some k, some z, some f, some r, some h =>
    .ok (o, { present := p, segment := g, node := n, kind := k, zone := z, facade := f, rank := r, sheltered := h })

/-- Whether kind and facade go together (R2 note 1, R3 row 4). -/
def kindFitsFacade (m : Commissioned) : Bool :=
  match m.kind, m.facade with
  | .skylight, .roof => true
  | .skylight, .side _ => false
  | .window, .roof => false
  | .window, .side _ => true

/-- Whether a record obeys the pairings of R2 note 1. -/
def Commissioned.paired (m : Commissioned) : Bool :=
  kindFitsFacade m && !(decide (m.kind = .skylight) && m.sheltered)

/-- The states in which a write is refused BUSY (R3 row 6). -/
def OpeningState.bars : OpeningState → Bool
  | .queued => true
  | .driving => true
  | .stopping => true
  | .dwell => true
  | .resting => true
  | .lockedOut => true
  | _ => false

/-- Whether another present record has the segment and node address of a record (R1, R3 row 7). -/
def addressTaken (openings : Vector Commissioned 128) (o : OpeningId) (m : Commissioned) : Bool :=
  allOpenings.any fun p =>
    let x := look openings p
    decide (p ≠ o) && x.present && decide (x.segment = m.segment) && decide (x.node = m.node)

/-- A transaction in flight for a written opening becomes a leftover (R123). -/
def SegmentCtl.leaveOver (o : OpeningId) (g : SegmentCtl) : SegmentCtl :=
  { g with inFlight := g.inFlight.map fun t => if t.opening = o then { t with leftover := true } else t }

/-- What a write does before it changes the record (R117, R123, R127, R129): an orphan slot is freed, the requests are
withdrawn, the transaction in flight becomes a leftover, and the count of the address named before is 0. -/
def Core.forgetOpening (e : Env) (o : OpeningId) (c : Core) : Core :=
  let c :=
    match c.slotOf o with
    | some i => c.freeSlot e i
    | none => c
  ((c.withdraw e o RequestBody.any).setSegment (e.segment o) fun g => g.leaveOver o).setCount (e.segment o)
    (e.com o).node 0

/-- Whether the opening stays in its segment's resync list: present still, on the same segment (R136). -/
def Core.keepInList (e : Env) (o : OpeningId) (m : Commissioned) (c : Core) : Core :=
  if m.present = true ∧ m.segment = e.segment o then c else c.leaveList e o

/-- A weather latch cleared (R4, R48): one that was set places its opening in the pending-resolution set. -/
def Sky.clearLatch (o : OpeningId) (k : Sky) : Sky :=
  { weather := { k.weather with latches := put k.weather.latches o false }
    core := if look k.weather.latches o then k.core.join o else k.core }

/-- The weather latch of a written opening (R4): cleared when made ABSENT, set where it is exposed. -/
def Sky.writeLatch (e : Env) (o : OpeningId) (present : Bool) (k : Sky) : Sky :=
  if present then (if exposed e.work k.weather.level k.weather.arc o then k.setLatch e o else k) else k.clearLatch o

/-- The claims an accepted OPENING_WRITE removes (R4, R36). -/
def writeRemoves (o : OpeningId) (present : Bool) (zone : Zone) (x : Claim) : Bool :=
  decide (x.scope = .opening o) && (!present || !zone.admits x.claimant)

/-- An accepted OPENING_WRITE (R4); what a removed claim covered is judged by the record as written (log entry 43). -/
def State.writeOpening (s : State) (o : OpeningId) (m : Commissioned) : State :=
  let e := s.env
  let core := ((s.core.forgetOpening e o).keepInList e o m).setLive o (Live.restart m.present)
  let s := { s with work := { s.work with openings := put s.work.openings o m }
                    core := core.setCount m.segment m.node 0 }
  let zone := look s.work.zones m.zone
  let s := s.removeClaims (if m.present then .zoneChanged else .openingRemoved) (writeRemoves o m.present zone)
  let s := s.onSky fun e k => k.writeLatch e o m.present
  (s.within fun e c => if m.present then c.ask e o (.enroll false true false) else c).settled

/-- OPENING_WRITE (R3). -/
def serveOpeningWrite (opening present segment node kind zone facade rank sheltered : Byte) (s : State) :
    State × Verdict :=
  match s.editBarred with
  | some st => (s, .refused st)
  | none =>
    match openingFields opening present segment node kind zone facade rank sheltered with
    | .error i => (s, .outOfRange i)
    | .ok (o, m) =>
      if !kindFitsFacade m then (s, .outOfRange 7)
      else if !m.paired then (s, .outOfRange 9)
      else if (s.core.live o).state.bars then (s, .refused .busy)
      else if m.present && addressTaken s.work.openings o m then (s, .refused .conflict)
      else (s.writeOpening o m, .ok [])

/-! ### ZONE_WRITE -/

/-- The fields of a ZONE_WRITE, or the index of the first at fault (R26 row 3). -/
def zoneFields (zone valid admitVentilation admitSecurity ceiling fallback : Byte) : Except Nat (ZoneId × Zone) :=
  match finOf? 16 zone.toNat, boolOf? valid, boolOf? admitVentilation, boolOf? admitSecurity, positionOf? ceiling,
    fallbackOf? fallback with
  | none, _, _, _, _, _ => .error 1
  | _, none, _, _, _, _ => .error 2
  | _, _, none, _, _, _ => .error 3
  | _, _, _, none, _, _ => .error 4
  | _, _, _, _, none, _ => .error 5
  | _, _, _, _, _, none => .error 6
  | some z, some v, some av, some as, some c, some f =>
    .ok (z, { valid := v, admitVentilation := av, admitSecurity := as, ceiling := c, fallback := f })

/-- The claims of a claimant that a zone's end of admission removes (R27). -/
def zoneRemoves (openings : Vector Commissioned 128) (z : ZoneId) (who : Claimant) (x : Claim) : Bool :=
  decide (x.claimant = who) &&
    match x.scope with
    | .zone y => decide (y = z)
    | .opening o => decide ((look openings o).zone = z)
    | .all => false

/-- One claimant's claims removed where its admission ended (R27). -/
def State.endAdmission (s : State) (z : ZoneId) (before after : Zone) (who : Claimant) : State :=
  if before.admits who && !after.admits who then
    s.removeClaims .zoneChanged (zoneRemoves s.work.openings z who)
  else s

/-- An accepted ZONE_WRITE (R27). -/
def State.writeZone (s : State) (z : ZoneId) (new : Zone) : State :=
  let before := look s.work.zones z
  let s := { s with work := { s.work with zones := put s.work.zones z new } }
  let s := (s.endAdmission z before new .ventilation).endAdmission z before new .security
  { s with core := s.core.joinAll (s.env.coveredBy (.zone z)) }

/-- ZONE_WRITE (R26). -/
def serveZoneWrite (zone valid admitVentilation admitSecurity ceiling fallback : Byte) (s : State) :
    State × Verdict :=
  match s.editBarred with
  | some st => (s, .refused st)
  | none =>
    match zoneFields zone valid admitVentilation admitSecurity ceiling fallback with
    | .error i => (s, .outOfRange i)
    | .ok (z, new) => (s.writeZone z new, .ok [])

/-! ### SETTINGS_WRITE: what each changed setting does at once, in the order of log entry 22 -/

/-- A changed aging period (R33). -/
def State.agingChanged (old : Settings) (s : State) : State :=
  if old.agingPeriod ≠ s.work.settings.agingPeriod ∧ s.sweepDue ≤ s.clock then s.agingSweep else s

/-- A running rain filter under the new time (R50). -/
def State.filterChanged (x : RainContact) (s : State) : State :=
  let f := s.weather.filter x
  let t := retime (seconds s.work.settings.rainFilterTime) f.timer
  let s := { s with weather := s.weather.setFilter x { f with timer := t } }
  if overdue s.clock t then s.onSky fun e k => k.rainFilterEnds e x else s

/-- A changed rain filter time (R50). -/
def State.rainFilterChanged (old : Settings) (s : State) : State :=
  if old.rainFilterTime = s.work.settings.rainFilterTime then s
  else (s.filterChanged .roof).filterChanged .facade

/-- A changed dry-out time (R51). -/
def State.dryOutChanged (old : Settings) (s : State) : State :=
  if old.dryOutTime = s.work.settings.dryOutTime then s
  else
    let t := retime (seconds s.work.settings.dryOutTime) s.weather.dryOut
    let s := { s with weather := { s.weather with dryOut := t } }
    if overdue s.clock t then s.onSky Sky.dryOutEnds else s

/-- The thresholds and the lead threshold of a record (R58). -/
def levelSettings (s : Settings) : Thresholds × Thresholds × Nat :=
  (riseThresholds s, holdThresholds s, s.leadThreshold)

/-- A changed threshold or lead threshold (R58, R60). -/
def State.thresholdsChanged (old : Settings) (s : State) : State :=
  if levelSettings old = levelSettings s.work.settings then s else s.onSky Sky.evaluate

/-- A changed stand-down time (R63). -/
def State.standDownChanged (old : Settings) (s : State) : State :=
  if old.standDownTime = s.work.settings.standDownTime then s
  else
    let t := retime (seconds s.work.settings.standDownTime) s.weather.standDown
    let s := { s with weather := { s.weather with standDown := t } }
    if overdue s.clock t then s.onSky Sky.standDownEnds else s

/-- A changed watch ceiling (R48). -/
def State.ceilingChanged (old : Settings) (s : State) : State :=
  if old.watchCeiling ≠ s.work.settings.watchCeiling ∧ s.weather.level = .watch then
    let windows := s.env.present.filter fun o => decide ((look s.work.openings o).kind = .window)
    { s with core := s.core.joinAll windows }
  else s

/-- A running reclaim timer under the new timeout (R150). -/
def State.reclaimRetimed (g : Segment) (s : State) : State :=
  let t := retime (seconds s.work.settings.reclaimTimeout) (s.core.holds.get g).reclaimTimer
  s.within fun e c =>
    let c := c.setHold g fun h => { h with reclaimTimer := t }
    if overdue e.now t then c.revoke e g else c

/-- A changed reclaim timeout (R150). -/
def State.reclaimChanged (old : Settings) (s : State) : State :=
  if old.reclaimTimeout = s.work.settings.reclaimTimeout then s
  else (s.reclaimRetimed .seg0).reclaimRetimed .seg1

/-- A budget in force that changed (R162). -/
def State.budgetsChanged (old : Content) (s : State) : State :=
  if budgetOf old s.supply.mains = s.budget then s else s.budgetChanged

/-- A changed mark (R164). -/
def State.marksChanged (old : Settings) (s : State) : State :=
  if old.highMark = s.work.settings.highMark ∧ old.lowMark = s.work.settings.lowMark then s else s.judgePause

/-- A changed supply level (R155). -/
def State.levelsChanged (old : Settings) (s : State) : State :=
  let n := s.work.settings
  if old.sagSet = n.sagSet ∧ old.sagRelease = n.sagRelease ∧ old.outSet = n.outSet ∧ old.outRelease = n.outRelease
  then s
  else s.judgeSupply

/-- An accepted SETTINGS_WRITE (R179). -/
def State.writeSettings (s : State) (new : Settings) : State :=
  let old := s.work
  let o := old.settings
  let s := { s with work := { s.work with settings := new } }
  let s := (((s.agingChanged o).rainFilterChanged o).dryOutChanged o).thresholdsChanged o
  let s := ((s.standDownChanged o).ceilingChanged o).reclaimChanged o
  (((s.budgetsChanged old).marksChanged o).levelsChanged o).settled

/-- SETTINGS_WRITE (R179). -/
def serveSettingsWrite (record : Settings) (s : State) : State × Verdict :=
  match s.editBarred with
  | some st => (s, .refused st)
  | none =>
    match settingsFault record with
    | some i => (s, .outOfRange i)
    | none => (s.writeSettings record, .ok [])

/-! ### The other requests -/

/-- ADVISORY (R56). -/
def serveAdvisory (kind lead : Byte) (duration : Word16) (s : State) : State × Verdict :=
  match advisoryKindOf? kind with
  | none => (s, .outOfRange 1)
  | some k =>
    if 240 < lead.toNat then (s, .outOfRange 2)
    else if 720 < duration.toNat then (s, .outOfRange 3)
    else if duration.toNat = 0 then
      if s.weather.advisory.isNone then (s, .refused .notFound)
      else ((s.onSky Sky.cancelAdvisory).settled, .ok [])
    else ((s.onSky fun e x => x.placeAdvisory e k lead.toNat duration.toNat).settled, .ok [])

/-- What CLEAR_FAULT does to a FAULTED opening (R19, R115). -/
def Core.clearFault (e : Env) (o : OpeningId) (c : Core) : Core :=
  let c := c.setLive o fun l => { l with failureCount := 0 }
  if (c.live o).ability.isSome then c.enterIdle o
  else (c.setLive o fun l => { l with faultReason := none, state := .unenrolled }).ask e o (.enroll false true false)

/-- CLEAR_FAULT (R115). -/
def serveClearFault (opening : Byte) (s : State) : State × Verdict :=
  match finOf? 128 opening.toNat with
  | none => (s, .outOfRange 1)
  | some o =>
    if !(look s.work.openings o).present then (s, .refused .noSuchOpening)
    else if (s.core.live o).state ≠ .faulted then (s, .refused .notFound)
    else ((s.within fun e c => c.clearFault e o).settled, .ok [])

/-- RESYNC (R138). -/
def serveResync (segments : Byte) (s : State) : State × Verdict :=
  match resyncOf? segments with
  | none => (s, .outOfRange 1)
  | some gs => ((s.within fun e c => gs.foldl (fun c g => c.triggerPass e g) c).settled, .ok [])

/-- SAVE (R180, R193): the image holds the working copies without a CRC-32 that matches until the save completes. -/
def serveSave (s : State) : State × Verdict :=
  if s.store.state = .saving then (s, .refused .busy)
  else
    ({ s with store := { s.store with state := .saving, imageValid := false, image := s.work, crcMatches := false } },
      .ok [])

/-- MODE (R180, R195). COMMISSION asked for in OPERATE is set, as R180 says, where a cell of R195's table says no change
(DEDUCED, log entry 50). -/
def serveMode (wanted : Byte) (s : State) : State × Verdict :=
  match modeOf? wanted with
  | none => (s, .outOfRange 1)
  | some m =>
    if m = .operate ∧ s.store.mode = .commission ∧ s.store.imageValid = false then (s, .refused .wrongMode)
    else ({ s with store := { s.store with mode := m } }, .ok [])

/-- RESET (R181): answered OK; the soft reset begins when the reply's last byte has been sent. -/
def serveReset (s : State) : State × Verdict := (s, .ok [])

end Sys2Proof.Machine
end

