-- ==== Sys2Proof/Machine/Startup.lean ====
section
/-! DEFINITION. Resets and start-up: the three kinds of reset, the check of the image, the load event and the notice
event (R168, R192, R194, R196 to R198). -/

namespace Sys2Proof.Machine

/-- Whether the part is held in reset. -/
def State.inReset (s : State) : Bool :=
  match s.phase with
  | .held _ => true
  | .loaded => false
  | .running => false

/-! ### The image (R192) -/

/-- Whether the settings lie in their ranges and keep the relations of R179. -/
def settingsValid (s : Settings) : Bool := (settingsInRange s).all id && (brokenRelation s).isNone

/-- Whether every record obeys the pairings of R2 and no two present records share a segment and node address. -/
def openingsValid (v : Vector Commissioned 128) : Bool :=
  allOpenings.all fun o => (look v o).paired && (!(look v o).present || !addressTaken v o (look v o))

/-- Whether every zone's ceiling lies in its range. -/
def zonesValid (v : Vector Zone 16) : Bool := v.toList.all fun z => decide (z.ceiling ≤ 100)

/-- Whether a static entry's position lies in its range. -/
def StaticEntry.inRange (x : StaticEntry) : Bool :=
  match x.kind with
  | .lockout => true
  | .pin p => decide (p ≤ 100)

/-- Whether the occupied static slots hold values in range and no two share a key. -/
def staticsValid (v : Vector (Option StaticEntry) 32) : Bool :=
  (List.finRange 32).all fun i =>
    match look v i with
    | none => true
    | some x => x.inRange && (List.finRange 32).all fun j => decide (i = j) || !hasStaticKey x.key (look v j)

/-- Whether a content passes every test of R192 but the CRC-32. -/
def Content.valid (c : Content) : Bool :=
  settingsValid c.settings && openingsValid c.openings && zonesValid c.zones && staticsValid c.statics

/-- Whether the image passes (R192). -/
def Store.passes (t : Store) : Bool := t.crcMatches && t.image.valid

/-! ### Held in reset (R196) -/

/-- What power-on clears in a record (R22, R23, R196). -/
def Live.powerOn (l : Live) : Live :=
  { l with drivesCompleted := Counter.zero, cutOffs := Counter.zero, obstructions := Counter.zero,
           linkLosses := Counter.zero, linkDropped := false }

/-- A Hold Controller held in reset: its outputs deasserted, the line drivers off (R142, R196). -/
def Hold.held (h : Hold) : Hold := { h with grantLine := false, reclaimLine := false, driversOff := true }

/-- ATTN deasserted (R182). -/
def NoticePort.held (n : NoticePort) : NoticePort := { n with attn := false }

/-- The drive core held in reset. -/
def Core.held (k : ResetKind) (c : Core) : Core :=
  { c with
    openings := if k = .powerOn then c.openings.map Live.powerOn else c.openings
    holds := ⟨c.holds.seg0.held, c.holds.seg1.held⟩
    notices := { c.notices with ports := c.notices.ports.mapWith fun _ n => n.held } }

/-- A reset begins (R194, R196): outputs deasserted, ports cut off, a save abandoned. -/
def State.enterReset (k : ResetKind) (s : State) : State :=
  { s with phase := .held k, ports := PerPort.all Port.hunting, store := { s.store with state := .idle }
           core := s.core.held k }

/-! ### The load event (R197) -/

/-- The Settings Store after the check of the image (R192). -/
def Store.start (t : Store) : Store :=
  { t with mode := if t.passes then .operate else .commission, state := .idle, imageValid := t.passes }

/-- The content the working copies take (R192). -/
def Store.content (t : Store) : Content := if t.passes then t.image else Content.default

/-- The Supply Monitor after reset, before the pause and the trip are judged (R154, R157). -/
def Supply.start (settings : Settings) (i : Inputs) : Supply :=
  { state := startSupply settings i.voltage, rideThrough := none, mains := i.mainsLine, mainsFilter := none
    pause := .none, pauseLimit := none, trip := none }

/-- The drive core with every volatile item cleared (R197, steps 2 and 3). -/
def Core.cleared (now : Nat) (work : Content) (i : Inputs) (c : Core) : Core :=
  { openings := tabulate fun o => (c.live o).restart (look work.openings o).present
    resolveSet := [], queue := [], slots := Vector.replicate 8 none, walkTriggered := false, walkCount := 0
    segments := PerSegment.all (SegmentCtl.fresh now)
    holds := ⟨Hold.fresh i.holdreq.seg0, Hold.fresh i.holdreq.seg1⟩
    notices := Notices.fresh true }

/-- The enrollment passes of start-up (R197, step 5), up to their first frames. -/
def Core.startPasses (e : Env) (c : Core) : Core :=
  let c := (c.triggerPass e .seg0).triggerPass e .seg1
  let c := (c.passUpkeep e .seg0).passUpkeep e .seg1
  (c.arbitrate e .seg0).arbitrate e .seg1

/-- The building-closed status evaluated with nothing latched (R197, step 6). -/
def Core.evaluateBuilding (e : Env) (c : Core) : Core :=
  { c with notices := { c.notices with buildingClosed := buildingClosed e c } }

/-- The load event, taken whole (R197); the pause and the trip are judged in it (log entry 45). -/
def State.load (s : State) : State :=
  let work := s.store.content
  let i := s.inputs
  let s : State :=
    { pending := s.pending, clock := s.clock, phase := .loaded, inputs := i, ports := PerPort.all Port.hunting
      store := s.store.start, work := work, claims := Claims.fresh s.clock
      weather := Weather.fresh s.clock work.settings.rainFilterTime i.rainRoof i.rainFacade i.vane
      supply := Supply.start work.settings i, core := s.core.cleared s.clock work i }
  (s.judgePause.judgeTrip).within fun e c => (c.startPasses e).evaluateBuilding e

/-- The notice event (R198). -/
def State.announce (s : State) : State := { s with phase := .running, core := s.core.hand .startUp }

end Sys2Proof.Machine
end

