-- ==== Sys2Proof/Machine/Ports.lean ====
section
/-! DEFINITION. The master ports: assembly, the checks of a frame, the taking of a request, and its reply
(R170 to R176, R181, R199). -/

namespace Sys2Proof.Machine

/-- A change of one port. -/
def State.setPort (s : State) (p : Role) (f : Port → Port) : State :=
  { s with ports := s.ports.set p (f (s.ports.get p)) }

/-- A request that passes the first three checks of R174, handed to the block that owns the state concerned. -/
def MasterRequest.serve (r : MasterRequest) (p : Role) (s : State) : State × Verdict :=
  match r with
  | .readOpening o => serveReadOpening p o s
  | .readBlock f => serveReadBlock f s
  | .readWeather x => serveReadWeather x s
  | .readStatus => serveReadStatus s
  | .readEvents => serveReadEvents p s
  | .setMask k => serveSetMask p k s
  | .forceEvent k => serveForceEvent p k s
  | .claim a b x => serveClaim p a b x s
  | .release a b => serveRelease p a b s
  | .advisory k l d => serveAdvisory k l d s
  | .staticSet a b k x => serveStaticSet a b k x s
  | .staticClear a b => serveStaticClear a b s
  | .readStatic i => serveReadStatic i s
  | .readClaim i => serveReadClaim i s
  | .zoneRead z => serveZoneRead z s
  | .readCounters o => serveReadCounters o s
  | .clearFault o => serveClearFault o s
  | .resync g => serveResync g s
  | .openingWrite o p g n k z f r h => serveOpeningWrite o p g n k z f r h s
  | .zoneWrite z v a b c f => serveZoneWrite z v a b c f s
  | .settingsWrite x => serveSettingsWrite x s
  | .settingsRead => serveSettingsRead s
  | .save => serveSave s
  | .mode m => serveMode m s
  | .reset => serveReset s

/-- A port that has taken a request and sends its reply (R173). -/
def Port.replying (r : Reply) (x : Port) : Port := { x with answering := true, reply := some r }

/-- A request taken on a port that is not answering (R173, R174 rows 3 and 4). -/
def State.answer (s : State) (p : Role) (r : MasterRequest) : State :=
  let taken := if r.permits p then r.serve p s else (s, .refused .notPermitted)
  taken.1.setPort p fun x => x.replying (taken.2.reply r.code)

/-- The arrival of a request whose code and length are good (R173): discarded while its port is answering or the part
is held in reset. -/
def State.takeRequest (s : State) (p : Role) (r : MasterRequest) : State :=
  if s.inReset || (s.ports.get p).answering then s else s.answer p r

/-- The code and payload of a complete frame. -/
def frameParts (frame : List RxByte) : Byte × List Byte :=
  let values := frame.map RxByte.value
  ((values[2]?).getD 0, (values.drop 3).dropLast.dropLast)

/-- A frame that passes R172, taken as R173 and R174 give. -/
def State.takeFrame (s : State) (p : Role) (frame : List RxByte) : State :=
  let parts := frameParts frame
  if (s.ports.get p).answering then s
  else if !knownCode parts.1 then
    s.setPort p fun x => x.replying ((Verdict.refused .unknownRequest).reply parts.1)
  else
    match requestOf parts.1 parts.2 with
    | none => s.setPort p fun x => x.replying ((Verdict.refused .badLength).reply parts.1)
    | some r => s.takeRequest p r

/-- Whether a frame's CRC-16 matches its contents (R172, R199). -/
def frameCrcOk (frame : List RxByte) : Bool :=
  let values := frame.map RxByte.value
  let body := (values.drop 1).dropLast.dropLast
  decide (values.drop (body.length + 1) = [highByte (crc16 body), lowByte (crc16 body)])

/-- A complete frame in the receive buffer, checked (R172): the bytes at which hunting resumes go with it. -/
def State.completeFrame (s : State) (p : Role) (frame : List RxByte) : State × List RxByte :=
  let held := s.setPort p fun x => { x with assembly := .hunting, buffer := some frame }
  let emptied (s : State) := s.setPort p fun x => { x with buffer := none }
  if !frameCrcOk frame then (emptied held, frame.drop 1)
  else if frame.any RxByte.framingError then (emptied held, [])
  else (emptied (held.takeFrame p frame), [])

/-- One byte taken by the assembly state (R171, R199): the bytes to be hunted again go with it. -/
def State.takeByte (s : State) (p : Role) (b : RxByte) : State × List RxByte :=
  match (s.ports.get p).assembly with
  | .hunting =>
    if b.value = 0x5A#8 then (s.setPort p fun x => { x with assembly := .assembling [b] }, []) else (s, [])
  | .assembling bytes =>
    if bytes.length = 1 ∧ ¬(5 ≤ b.value.toNat ∧ b.value.toNat ≤ 49) then
      (s.setPort p fun x => { x with assembly := .hunting }, [b])
    else
      let frame := bytes ++ [b]
      if ((frame[1]?).map fun x => x.value.toNat) = some frame.length then s.completeFrame p frame
      else (s.setPort p fun x => { x with assembly := .assembling frame }, [])

/-- Bytes taken in turn, those hunted again before those that follow (R171, R172). Every byte hunted again stands
behind a sync byte that is gone for good, so the fuel of takeBytes suffices. -/
def State.huntBytes (p : Role) : Nat → List RxByte → State → State
  | 0, _, s => s
  | _ + 1, [], s => s
  | fuel + 1, b :: rest, s =>
    let r := s.takeByte p b
    State.huntBytes p fuel (r.2 ++ rest) r.1

/-- Bytes taken by a port. A frame found among bytes hunted again arrives when it is found (DEDUCED, log entry 52). -/
def State.takeBytes (s : State) (p : Role) (bytes : List RxByte) : State := State.huntBytes p 4096 bytes s

/-- A gap of more than 10 ms in a frame being assembled (R171). -/
def State.frameGap (s : State) (p : Role) : State := s.setPort p fun x => { x with assembly := .hunting }

/-- Whether a reply is the OK to a RESET (R181). -/
def Reply.isReset (r : Reply) : Bool := r.code == 25#8 && decide (r.status = .ok)

/-- The last byte of a reply leaves (R173); after the OK to a RESET the soft reset begins (R181). -/
def State.replyLeaves (s : State) (p : Role) : State :=
  let done := s.setPort p fun x => { x with answering := false, reply := none }
  if (s.ports.get p).reply.any Reply.isReset then done.enterReset .soft else done

end Sys2Proof.Machine
end

