-- ==== Sys2Proof/Machine/Moments.lean ====
section
/-! DEFINITION. What every command's meaning shares: an event of a part that is not held in reset, and the moment of a
timer's expiry (log entries 1, 2 and 31). -/

namespace Sys2Proof.Machine

/-- The answer of a command: every one is a next state. -/
abbrev Result := Host.Outcome State Fault Refusal

/-- An event that a part held in reset does not take (R196, log entry 31). -/
def State.unlessHeld (s : State) (f : State → State) : State := if s.inReset then s else f s

/-- The clock at a timer's deadline, or where it stands when that has passed (log entry 1). -/
def State.atMoment (s : State) (deadline : Nat) : State := { s with clock := max s.clock deadline }

/-- The expiry of a timer that runs; of one that does not, nothing (log entry 2). -/
def State.expiry (s : State) (t : Option Timer) (f : State → State) : State :=
  s.unlessHeld fun s =>
    match t with
    | some x => f (s.atMoment x.deadline)
    | none => s

/-- An event of the drive core. -/
def State.coreEvent (s : State) (f : Env → Core → Core) : State := s.unlessHeld fun s => (s.within f).settled

/-- The expiry of a timer the drive core acts on. -/
def State.coreExpiry (s : State) (t : Option Timer) (f : Env → Core → Core) : State :=
  s.expiry t fun s => (s.within f).settled

/-- The expiry of a timer the Weather Assessor acts on. -/
def State.skyExpiry (s : State) (t : Option Timer) (f : Env → Sky → Sky) : State :=
  s.expiry t fun s => (s.onSky f).settled

end Sys2Proof.Machine
end

