-- ==== Sys2Proof/Machine/DriveEvents.lean ====
section
/-! DEFINITION. The events of the Target Resolver, the Closure Scheduler and the Drive Supervisor. -/

namespace Sys2Proof.Machine

/-- RESOLVE_OPENING (R42, R43). -/
def execResolveOpening (s : State) : Result := .next (s.coreEvent fun e c => c.resolveNext e s.claims)

/-- START_WALK (R83, R84). -/
def execStartWalk (s : State) : Result := .next (s.coreEvent Core.startWalk)

/-- The running run-limit timer of a slot (R103, R104). -/
def Core.runTimerOf (c : Core) (i : SlotId) : Option Timer :=
  (look c.slots i).bind fun x => if x.runTimer then some { start := x.runDeadline, length := 0 } else none

/-- The run-limit timer of a slot expires (R105). -/
def Core.runLimitEnds (e : Env) (i : SlotId) (c : Core) : Core :=
  match look c.slots i with
  | none => c
  | some x => (c.setSlot i fun s => { s with runTimer := false }).requestStop e x.opening .cutoff

/-- RUN_LIMIT_EXPIRY (R105). -/
def execRunLimitExpiry (i : SlotId) (s : State) : Result :=
  .next (s.coreExpiry (s.core.runTimerOf i) fun e c => c.runLimitEnds e i)

/-- The running orphan hold timer of a slot (R103, R116). -/
def Core.orphanTimerOf (c : Core) (i : SlotId) : Option Timer :=
  (look c.slots i).bind fun x => x.orphanEnd.map fun t => { start := t, length := 0 }

/-- ORPHAN_HOLD_END (R117). -/
def execOrphanHoldEnd (i : SlotId) (s : State) : Result :=
  .next (s.coreExpiry (s.core.orphanTimerOf i) fun e c => c.endOrphan e i)

/-- REST_TIMER_EXPIRY (R111). -/
def execRestTimerExpiry (o : OpeningId) (s : State) : Result :=
  .next (s.coreExpiry (s.core.live o).restTimer fun _ c => c.enterIdle o)

/-- DWELL_TIMER_EXPIRY (R112). -/
def execDwellTimerExpiry (o : OpeningId) (s : State) : Result :=
  .next (s.coreExpiry (s.core.live o).dwellTimer fun _ c => c.enterIdle o)

end Sys2Proof.Machine
end

