-- ==== Sys2Proof/Machine/HoldEvents.lean ====
section
/-! DEFINITION. The events of the Hold Controllers. -/

namespace Sys2Proof.Machine

/-- A raw HOLDREQ level taken by its filter (R143). -/
def Hold.take (now : Nat) (raw : Bool) (h : Hold) : Hold :=
  { h with filterTimer := debounce now holdreqFilterMs (decide (raw ≠ h.filtered)) h.filterTimer }

/-- HOLDREQ_CHANGE (R143). -/
def execHoldreqChange (g : Segment) (raw : Bool) (s : State) : Result :=
  .next (({ s with inputs := { s.inputs with holdreq := s.inputs.holdreq.set g raw } } : State).unlessHeld fun s =>
    { s with core := s.core.setHold g fun h => h.take s.clock raw })

/-- The filtered level of HOLDREQ changes (R143). -/
def Core.holdreqSettles (e : Env) (g : Segment) (c : Core) : Core :=
  if (c.holds.get g).filtered then c.holdDeasserted e g else c.holdAsserted e g

/-- HOLDREQ_FILTER_EXPIRY (R143). -/
def execHoldreqFilterExpiry (g : Segment) (s : State) : Result :=
  .next (s.coreExpiry (s.core.holds.get g).filterTimer fun e c => c.holdreqSettles e g)

/-- RECLAIM_TIMER_EXPIRY (R151). -/
def execReclaimTimerExpiry (g : Segment) (s : State) : Result :=
  .next (s.coreExpiry (s.core.holds.get g).reclaimTimer fun e c => c.revoke e g)

/-- RETURNING_TIMER_EXPIRY (R152). -/
def execReturningTimerExpiry (g : Segment) (s : State) : Result :=
  .next (s.coreExpiry (s.core.holds.get g).returningTimer fun e c => c.returned e g)

end Sys2Proof.Machine
end

