-- ==== Sys2Proof/Machine/PortEvents.lean ====
section
/-! DEFINITION. The line events of the master ports: BYTE_RECEIVED, REQUEST_FRAME_ARRIVAL, FRAME_GAP_TIMEOUT and
REPLY_SENT. -/

namespace Sys2Proof.Machine

/-- REQUEST_FRAME_ARRIVAL (R172): a complete frame with all its bytes. -/
def execRequestFrameArrival (p : Role) (frame : List RxByte) (s : State) : Result :=
  .next (s.unlessHeld fun s =>
    let r := s.completeFrame p frame
    r.1.takeBytes p r.2)

/-- FRAME_GAP_TIMEOUT (R171). -/
def execFrameGapTimeout (p : Role) (s : State) : Result := .next (s.unlessHeld fun s => s.frameGap p)

/-- REPLY_SENT (R173, R181). -/
def execReplySent (p : Role) (s : State) : Result := .next (s.unlessHeld fun s => s.replyLeaves p)

/-- BYTE_RECEIVED (R171): the byte, then the bytes that are hunted again. -/
def execByteReceived (p : Role) (b : RxByte) (s : State) : Result :=
  .next (s.unlessHeld fun s =>
    let r := s.takeByte p b
    r.1.takeBytes p r.2)

end Sys2Proof.Machine
end

