-- ==== Sys2Proof/Machine/Requests.lean ====
section
/-! DEFINITION. The requests as commands: each is the arrival of its frame on a port (R173, R174; log entry 3). -/

namespace Sys2Proof.Machine

/-- READ_OPENING (R7). -/
def execReadOpening (p : Role) (opening : Byte) (s : State) : Result :=
  .next (s.takeRequest p (.readOpening opening))

/-- READ_BLOCK (R7). -/
def execReadBlock (p : Role) (first : Byte) (s : State) : Result := .next (s.takeRequest p (.readBlock first))

/-- READ_WEATHER (R71). -/
def execReadWeather (p : Role) (page : Byte) (s : State) : Result := .next (s.takeRequest p (.readWeather page))

/-- READ_STATUS (R178). -/
def execReadStatus (p : Role) (s : State) : Result := .next (s.takeRequest p .readStatus)

/-- READ_EVENTS (R186). -/
def execReadEvents (p : Role) (s : State) : Result := .next (s.takeRequest p .readEvents)

/-- SET_MASK (R185). -/
def execSetMask (p : Role) (kinds : Word16) (s : State) : Result := .next (s.takeRequest p (.setMask kinds))

/-- FORCE_EVENT (R187). -/
def execForceEvent (p : Role) (kinds : Word16) (s : State) : Result := .next (s.takeRequest p (.forceEvent kinds))

/-- CLAIM (R30, R31). -/
def execClaim (p : Role) (scope subject position : Byte) (s : State) : Result :=
  .next (s.takeRequest p (.claim scope subject position))

/-- RELEASE (R32). -/
def execRelease (p : Role) (scope subject : Byte) (s : State) : Result :=
  .next (s.takeRequest p (.release scope subject))

/-- ADVISORY (R56). -/
def execAdvisory (p : Role) (kind lead : Byte) (duration : Word16) (s : State) : Result :=
  .next (s.takeRequest p (.advisory kind lead duration))

/-- STATIC_SET (R39). -/
def execStaticSet (p : Role) (scope subject kind position : Byte) (s : State) : Result :=
  .next (s.takeRequest p (.staticSet scope subject kind position))

/-- STATIC_CLEAR (R40). -/
def execStaticClear (p : Role) (scope subject : Byte) (s : State) : Result :=
  .next (s.takeRequest p (.staticClear scope subject))

/-- READ_STATIC (R40). -/
def execReadStatic (p : Role) (slot : Byte) (s : State) : Result := .next (s.takeRequest p (.readStatic slot))

/-- READ_CLAIM (R37). -/
def execReadClaim (p : Role) (slot : Byte) (s : State) : Result := .next (s.takeRequest p (.readClaim slot))

/-- ZONE_READ (R28). -/
def execZoneRead (p : Role) (zone : Byte) (s : State) : Result := .next (s.takeRequest p (.zoneRead zone))

/-- READ_COUNTERS (R24). -/
def execReadCounters (p : Role) (opening : Byte) (s : State) : Result :=
  .next (s.takeRequest p (.readCounters opening))

/-- CLEAR_FAULT (R115). -/
def execClearFault (p : Role) (opening : Byte) (s : State) : Result := .next (s.takeRequest p (.clearFault opening))

/-- RESYNC (R138). -/
def execResync (p : Role) (segments : Byte) (s : State) : Result := .next (s.takeRequest p (.resync segments))

/-- OPENING_WRITE (R3, R4). -/
def execOpeningWrite (p : Role) (opening present segment node kind zone facade rank sheltered : Byte)
    (s : State) : Result :=
  .next (s.takeRequest p (.openingWrite opening present segment node kind zone facade rank sheltered))

/-- ZONE_WRITE (R26, R27). -/
def execZoneWrite (p : Role) (zone valid admitVentilation admitSecurity ceiling fallback : Byte)
    (s : State) : Result :=
  .next (s.takeRequest p (.zoneWrite zone valid admitVentilation admitSecurity ceiling fallback))

/-- SETTINGS_WRITE (R179). -/
def execSettingsWrite (p : Role) (record : Settings) (s : State) : Result :=
  .next (s.takeRequest p (.settingsWrite record))

/-- SETTINGS_READ (R179). -/
def execSettingsRead (p : Role) (s : State) : Result := .next (s.takeRequest p .settingsRead)

/-- SAVE (R180, R193). -/
def execSave (p : Role) (s : State) : Result := .next (s.takeRequest p .save)

/-- MODE (R180, R195). -/
def execMode (p : Role) (wanted : Byte) (s : State) : Result := .next (s.takeRequest p (.mode wanted))

/-- RESET (R181). -/
def execReset (p : Role) (s : State) : Result := .next (s.takeRequest p .reset)

end Sys2Proof.Machine
end

