-- ==== Sys2Proof/Machine/ResetEvents.lean ====
section
/-! DEFINITION. Resets and start-up as commands, and the end of a save. -/

namespace Sys2Proof.Machine

/-- POWER_ON_RESET (R196). -/
def execPowerOnReset (s : State) : Result := .next (s.enterReset .powerOn)

/-- LOGIC_SUPPLY_FALL (R168): longer than 50 µs it is a reset of power-on class, else it has no effect. -/
def execLogicSupplyFall (micros : Nat) (s : State) : Result :=
  .next (if logicFallMicros < micros then s.enterReset .powerOn else s)

/-- RESET_PIN_ASSERT (R196). -/
def execResetPinAssert (s : State) : Result := .next (s.enterReset .pin)

/-- LOAD_EVENT (R197): on the release of a reset. -/
def execLoadEvent (s : State) : Result := .next (if s.inReset then s.load else s)

/-- NOTICE_EVENT (R198): after the load event. -/
def execNoticeEvent (s : State) : Result :=
  .next (match s.phase with
    | .loaded => s.announce
    | .held _ => s
    | .running => s)

/-- The end of a save (R194): the image is read back and checked. -/
def State.saveEnds (intact : Bool) (s : State) : State :=
  let t := { s.store with state := .idle, crcMatches := intact }
  { s with store := { t with imageValid := t.passes }
           core := s.core.hand (.storeDone (if t.passes then .ok else .writeFailed)) }

/-- SAVE_COMPLETION (R194); intact: the contents read back match their CRC-32 (log entry 8). -/
def execSaveCompletion (intact : Bool) (s : State) : Result :=
  .next (s.unlessHeld fun s => if s.store.state = .saving then s.saveEnds intact else s)

end Sys2Proof.Machine
end

