-- ==== Sys2Proof/Machine/NodeFrames.lean ====
section
/-! DEFINITION. The node frames of R203: the frames the CL128 sends, and the replies it reads, byte by byte. -/

namespace Sys2Proof.Machine

/-- A speed on a segment. -/
def speedCode : Speed → Byte
  | .full => 0
  | .quiet => 1

/-- The bytes of a frame after its start byte, by the request it carries (R203). -/
def RequestBody.content (address : NodeAddress) : RequestBody → List Byte
  | .enroll _ _ _ => [byteOf address.val, 1, 7]
  | .drive target speed _ => [byteOf address.val, 2, byteOf target, speedCode speed]
  | .stop => [byteOf address.val, 3]
  | .progressPoll => [byteOf address.val, 4]
  | .idlePoll => [byteOf address.val, 4]

/-- The frame of the transaction in flight, as it goes out on the line (R203). -/
def Transaction.frame (t : Transaction) : List Byte :=
  let content := t.body.content t.address
  (0xC3#8 :: content) ++ [crc8 content]

/-- A frame a node sends: a good reply, or a BUSY. -/
inductive NodeFrame
  | reply (r : NodeReply)
  | busy (address : NodeAddress)
deriving DecidableEq, Repr

/-- An answer's code (R203). -/
def answerCode : Answer → Byte
  | .ack => 0
  | .nak => 1

/-- An outcome's code (R203). -/
def outcomeCode : DriveOutcome → Byte
  | .none => 0
  | .reached => 1
  | .obstructed => 2
  | .stalled => 3

/-- A yes or no on a segment. -/
def bitCode (b : Bool) : Byte := if b then 1 else 0

/-- A locked value on a segment (R203). -/
def lockCode : Option Bool → Byte
  | none => 0xFF
  | some b => bitCode b

/-- The ability bytes of an ACK to ENROLL (R203). -/
def abilityBytes (a : AbilityReport) : List Byte :=
  [a.stroke, a.rated, (match a.sense with
    | .fine => 0
    | .coarse => 1), bitCode a.lockContact, bitCode a.quiet, (match a.kind with
    | .window => 0
    | .skylight => 1)]

/-- The bytes of a node's frame after its start byte (R203). -/
def NodeFrame.content : NodeFrame → List Byte
  | .busy a => [byteOf (a.val + 64), 2]
  | .reply r =>
    [byteOf (r.address.val + 64), answerCode r.answer, bitCode r.moving, outcomeCode r.outcome, r.position,
      lockCode r.locked] ++
    (match r.ability with
      | none => []
      | some a => abilityBytes a)

/-- A node's frame on the line (R203). -/
def NodeFrame.bytes (f : NodeFrame) : List Byte := (0x3C#8 :: f.content) ++ [crc8 f.content]

/-- An address byte of a reply (R203). -/
def replyAddress? (b : Byte) : Option NodeAddress := if b.toNat < 64 then none else finOf? 64 (b.toNat - 64)

/-- A yes or no. -/
def bit? (b : Byte) : Option Bool :=
  match b.toNat with
  | 0 => some false
  | 1 => some true
  | _ => none

/-- An outcome. -/
def outcome? (b : Byte) : Option DriveOutcome :=
  match b.toNat with
  | 0 => some .none
  | 1 => some .reached
  | 2 => some .obstructed
  | 3 => some .stalled
  | _ => none

/-- A locked value. -/
def lock? (b : Byte) : Option (Option Bool) := if b = 0xFF#8 then some none else (bit? b).map some

/-- An answer of a good reply. -/
def answer? (b : Byte) : Option Answer :=
  match b.toNat with
  | 0 => some .ack
  | 1 => some .nak
  | _ => none

/-- The ability of an ACK to ENROLL: six bytes, or none at all in the other replies (R203). Lock contact and quiet
support are no 0 and yes 1, kind is WINDOW 0 and SKYLIGHT 1, and any other byte discards the frame (DEDUCED, log entry
47). -/
def ability? (bytes : List Byte) : Option (Option AbilityReport) :=
  match bytes with
  | [] => some none
  | [stroke, rated, sense, lock, quiet, kind] =>
    match bit? sense, bit? lock, bit? quiet, bit? kind with
    | some s, some l, some q, some k =>
      some (some { stroke := stroke, rated := rated, sense := if s then .coarse else .fine, lockContact := l
                   quiet := q, kind := if k then .skylight else .window })
    | _, _, _, _ => none
  | _ => none

/-- The content of a node's frame read (R121, R203). -/
def readContent (bytes : List Byte) : Option NodeFrame :=
  match bytes with
  | [a, b] => if b = 2#8 then (replyAddress? a).map .busy else none
  | a :: b :: m :: out :: position :: lock :: rest =>
    match replyAddress? a, answer? b, bit? m, outcome? out, lock? lock, ability? rest with
    | some address, some answer, some moving, some outcome, some locked, some ability =>
      some (.reply { address := address, answer := answer, moving := moving, outcome := outcome
                     position := position, locked := locked, ability := ability })
    | _, _, _, _, _, _ => none
  | _ => none

/-- A frame received from a segment read: its start byte, its CRC-8, its length and its codes (R121, R203). -/
def readNodeFrame (bytes : List Byte) : Option NodeFrame :=
  match bytes with
  | start :: rest =>
    if start = 0x3C#8 ∧ rest.getLast? = some (crc8 rest.dropLast) then readContent rest.dropLast else none
  | [] => none

/-- A received frame taken: a good reply or a BUSY to the transaction in flight, or discarded (R121, R122). -/
def Core.frameArrives (e : Env) (g : Segment) (bytes : List Byte) (gap : Bool) (c : Core) : Core :=
  if gap then c
  else
    match readNodeFrame bytes with
    | some (.reply r) => c.replyArrives e g r
    | some (.busy a) => c.busyArrives e g a
    | none => c

end Sys2Proof.Machine
end

