-- ==== Sys2Proof/Machine/SegmentEvents.lean ====
section
/-! DEFINITION. The events of the Segment Controllers. -/

namespace Sys2Proof.Machine

/-- TURNAROUND_END (R125). -/
def execTurnaroundEnd (g : Segment) (s : State) : Result :=
  .next (s.coreExpiry (s.core.segments.get g).turnaround fun _ c =>
    c.setSegment g fun x => { x with turnaround := none })

/-- NODE_FRAME_SENT (R124). -/
def execNodeFrameSent (g : Segment) (s : State) : Result := .next (s.coreEvent fun e c => c.frameSent e g)

/-- NODE_REPLY (R121). -/
def execNodeReply (g : Segment) (r : NodeReply) (s : State) : Result :=
  .next (s.coreEvent fun e c => c.replyArrives e g r)

/-- NODE_REPLY_BUSY (R125). -/
def execNodeReplyBusy (g : Segment) (a : NodeAddress) (s : State) : Result :=
  .next (s.coreEvent fun e c => c.busyArrives e g a)

/-- INVALID_NODE_FRAME (R122): judged by the tests of R203, and discarded when it fails one. -/
def execInvalidNodeFrame (g : Segment) (bytes : List Byte) (gap : Bool) (s : State) : Result :=
  .next (s.coreEvent fun e c => c.frameArrives e g bytes gap)

/-- The reply window that runs on a segment (R125). -/
def SegmentCtl.window (x : SegmentCtl) : Option Timer := x.inFlight.bind Transaction.window

/-- The reply window of a segment expires (R125, R126). -/
def Core.windowEnds (e : Env) (g : Segment) (c : Core) : Core :=
  match (c.segments.get g).inFlight with
  | none => c
  | some t => c.takeTimeout e g t

/-- REPLY_WINDOW_EXPIRY (R126). -/
def execReplyWindowExpiry (g : Segment) (s : State) : Result :=
  .next (s.coreExpiry (s.core.segments.get g).window fun e c => c.windowEnds e g)

/-- The progress-poll timer of a slot expires (R130). -/
def Core.progressDue (e : Env) (i : SlotId) (c : Core) : Core :=
  match look c.slots i with
  | none => c
  | some x => (c.setSlot i fun s => { s with progressPoll := none }).ask e x.opening .progressPoll

/-- PROGRESS_POLL_TIMER_EXPIRY (R130). -/
def execProgressPollTimerExpiry (i : SlotId) (s : State) : Result :=
  .next (s.coreExpiry ((look s.core.slots i).bind Slot.progressPoll) fun e c => c.progressDue e i)

/-- IDLE_POLL_ROUND (R131). -/
def execIdlePollRound (g : Segment) (s : State) : Result :=
  .next (s.coreExpiry (s.core.segments.get g).roundTimer fun e c => c.pollRound e g)

/-- FOLLOW_POLL_TIMER_EXPIRY (R132). -/
def execFollowPollTimerExpiry (o : OpeningId) (s : State) : Result :=
  .next (s.coreExpiry (s.core.live o).followPoll fun e c =>
    (c.setLive o fun l => { l with followPoll := none }).ask e o .idlePoll)

/-- The re-probe timer of a LOST opening. -/
def Live.reProbeTimer (l : Live) : Option Timer := if l.state = .lost then l.reProbe else none

/-- The enrollment retry timer of an UNENROLLED opening (R133). -/
def Live.retryTimer (l : Live) : Option Timer := if l.state = .unenrolled then l.reProbe else none

/-- A re-probe falls due (R117, R129): held back while the opening's slot is an orphan. -/
def Core.reProbeDue (e : Env) (o : OpeningId) (c : Core) : Core :=
  let c := c.setLive o fun l => { l with reProbe := none }
  if c.orphaned o then c.setLive o fun l => { l with reProbeHeld := true } else c.ask e o (.enroll false false true)

/-- RE_PROBE_TIMER_EXPIRY (R129). -/
def execReProbeTimerExpiry (o : OpeningId) (s : State) : Result :=
  .next (s.coreExpiry (s.core.live o).reProbeTimer fun e c => c.reProbeDue e o)

/-- ENROLLMENT_RETRY (R133). -/
def execEnrollmentRetry (o : OpeningId) (s : State) : Result :=
  .next (s.coreExpiry (s.core.live o).retryTimer fun e c =>
    (c.setLive o fun l => { l with reProbe := none }).ask e o (.enroll false true false))

end Sys2Proof.Machine
end

