-- ==== Sys2Proof/Machine/SupplyEvents.lean ====
section
/-! DEFINITION. The events of the Supply Monitor. -/

namespace Sys2Proof.Machine

/-- MOTOR_VOLTAGE_CHANGE (R156); a measurement above 60.0 V reads 60.0 V (log entry 26). -/
def execMotorVoltageChange (v : Nat) (s : State) : Result :=
  .next (({ s with inputs := { s.inputs with voltage := min v 600 } } : State).unlessHeld fun s =>
    s.judgeSupply.settled)

/-- RIDE_THROUGH_EXPIRY (R156, R159). -/
def execRideThroughExpiry (s : State) : Result :=
  .next (s.expiry s.supply.rideThrough fun s => (s.enterSupply .out).settled)

/-- A raw mains level taken by its filter (R161). -/
def Supply.takeMains (now : Nat) (raw : MainsState) (u : Supply) : Supply :=
  { u with mainsFilter := debounce now mainsFilterMs (decide (raw ≠ u.mains)) u.mainsFilter }

/-- MAINS_LINE_CHANGE (R161). -/
def execMainsLineChange (raw : MainsState) (s : State) : Result :=
  .next (({ s with inputs := { s.inputs with mainsLine := raw } } : State).unlessHeld fun s =>
    { s with supply := s.supply.takeMains s.clock raw })

/-- MAINS_FILTER_EXPIRY (R161). -/
def execMainsFilterExpiry (s : State) : Result := .next (s.expiry s.supply.mainsFilter State.mainsChanges)

/-- MEASURED_CURRENT_CHANGE (R164, R166); a measurement above 99.9 A reads 99.9 A (log entry 26). -/
def execMeasuredCurrentChange (i : Nat) (s : State) : Result :=
  .next (({ s with inputs := { s.inputs with current := min i 999 } } : State).unlessHeld fun s =>
    s.judgePause.judgeTrip)

/-- PAUSE_LIMIT_EXPIRY (R165). -/
def execPauseLimitExpiry (s : State) : Result := .next (s.expiry s.supply.pauseLimit State.pauseLimitEnds)

/-- TRIP_TIMER_EXPIRY (R166, R167). -/
def execTripTimerExpiry (s : State) : Result :=
  .next (s.expiry s.supply.trip fun s => s.tripEnds.settled)

end Sys2Proof.Machine
end

