-- ==== Sys2Proof/Machine/WeatherEvents.lean ====
section
/-! DEFINITION. The events of the Weather Assessor and the Claim Manager's sweep. -/

namespace Sys2Proof.Machine

/-- A raw rain reading kept. -/
def Inputs.setRain (i : Inputs) (x : RainContact) (raw : Wetness) : Inputs :=
  match x with
  | .roof => { i with rainRoof := raw }
  | .facade => { i with rainFacade := raw }

/-- A raw rain reading taken by its filter (R50). -/
def RainFilter.take (now length : Nat) (raw : Wetness) (f : RainFilter) : RainFilter :=
  { f with timer := debounce now length (decide (raw ≠ f.level)) f.timer }

/-- RAIN_CONTACT_CHANGE (R50). -/
def execRainContactChange (x : RainContact) (raw : Wetness) (s : State) : Result :=
  .next (({ s with inputs := s.inputs.setRain x raw } : State).unlessHeld fun s =>
    let f := (s.weather.filter x).take s.clock (seconds s.work.settings.rainFilterTime) raw
    { s with weather := s.weather.setFilter x f })

/-- RAIN_FILTER_EXPIRY (R50). -/
def execRainFilterExpiry (x : RainContact) (s : State) : Result :=
  .next (s.skyExpiry (s.weather.filter x).timer fun e k => k.rainFilterEnds e x)

/-- DRY_OUT_EXPIRY (R51). -/
def execDryOutExpiry (s : State) : Result := .next (s.skyExpiry s.weather.dryOut Sky.dryOutEnds)

/-- ANEMOMETER_PULSE (R52). -/
def execAnemometerPulse (micros : Nat) (s : State) : Result :=
  .next (s.unlessHeld fun s =>
    if pulseMinMicros ≤ micros then { s with weather := { s.weather with pulses := s.weather.pulses + 1 } } else s)

/-- GUST_WINDOW_END (R52, R53). -/
def execGustWindowEnd (s : State) : Result :=
  .next (s.skyExpiry (startTimer s.weather.windowFrom gustWindowMs) Sky.gustEnds)

/-- VANE_CHANGE (R54, R55). -/
def execVaneChange (lines : BitVec 3) (s : State) : Result :=
  .next (if s.inputs.vane = lines then s
    else
      ({ s with inputs := { s.inputs with vane := lines } } : State).unlessHeld fun s =>
        (s.onSky fun e k => k.vaneReads e (sectorOf lines)).settled)

/-- STABILITY_TIMER_EXPIRY (R55). -/
def execStabilityTimerExpiry (s : State) : Result :=
  .next (s.skyExpiry (s.weather.stability.map Stability.timer) Sky.sectorSettles)

/-- ADVISORY_MINUTE_MARK (R57). -/
def execAdvisoryMinuteMark (s : State) : Result :=
  .next (s.skyExpiry (s.weather.advisory.bind fun a => startTimer a.markFrom minuteMs) Sky.minuteMark)

/-- STAND_DOWN_EXPIRY (R62). -/
def execStandDownExpiry (s : State) : Result := .next (s.skyExpiry s.weather.standDown Sky.standDownEnds)

/-- WARM_UP_EXPIRY (R64). -/
def execWarmUpExpiry (s : State) : Result := .next (s.skyExpiry s.weather.warmUp Sky.warmUpEnds)

/-- AGING_SWEEP (R33, R34). -/
def execAgingSweep (s : State) : Result :=
  .next (s.expiry (startTimer s.claims.sweepFrom (seconds s.work.settings.agingPeriod)) State.agingSweep)

end Sys2Proof.Machine
end

