-- ==== Sys2Proof/Machine/Dispatch.lean ====
section
/-! DEFINITION. One meaning for each command. -/

namespace Sys2Proof.Machine

/-- The effect of a command on everything but the queue. -/
def exec (i : Instr) (s : State) : Host.Outcome State Fault Refusal :=
  match i with
  | .requestFrameArrival port frame => Sys2Proof.Machine.execRequestFrameArrival port frame s
  | .frameGapTimeout port => Sys2Proof.Machine.execFrameGapTimeout port s
  | .replySent port => Sys2Proof.Machine.execReplySent port s
  | .readOpening port opening => Sys2Proof.Machine.execReadOpening port opening s
  | .readBlock port first => Sys2Proof.Machine.execReadBlock port first s
  | .readWeather port page => Sys2Proof.Machine.execReadWeather port page s
  | .readStatus port => Sys2Proof.Machine.execReadStatus port s
  | .readEvents port => Sys2Proof.Machine.execReadEvents port s
  | .setMask port kinds => Sys2Proof.Machine.execSetMask port kinds s
  | .forceEvent port kinds => Sys2Proof.Machine.execForceEvent port kinds s
  | .claim port scope subject position => Sys2Proof.Machine.execClaim port scope subject position s
  | .release port scope subject => Sys2Proof.Machine.execRelease port scope subject s
  | .advisory port kind lead duration => Sys2Proof.Machine.execAdvisory port kind lead duration s
  | .staticSet port scope subject kind position => Sys2Proof.Machine.execStaticSet port scope subject kind position s
  | .staticClear port scope subject => Sys2Proof.Machine.execStaticClear port scope subject s
  | .readStatic port slot => Sys2Proof.Machine.execReadStatic port slot s
  | .readClaim port slot => Sys2Proof.Machine.execReadClaim port slot s
  | .zoneRead port zone => Sys2Proof.Machine.execZoneRead port zone s
  | .readCounters port opening => Sys2Proof.Machine.execReadCounters port opening s
  | .clearFault port opening => Sys2Proof.Machine.execClearFault port opening s
  | .resync port segments => Sys2Proof.Machine.execResync port segments s
  | .openingWrite port opening present segment node kind zone facade rank sheltered => Sys2Proof.Machine.execOpeningWrite port opening present segment node kind zone facade rank sheltered s
  | .zoneWrite port zone valid admitVentilation admitSecurity ceiling fallback => Sys2Proof.Machine.execZoneWrite port zone valid admitVentilation admitSecurity ceiling fallback s
  | .settingsWrite port record => Sys2Proof.Machine.execSettingsWrite port record s
  | .settingsRead port => Sys2Proof.Machine.execSettingsRead port s
  | .save port => Sys2Proof.Machine.execSave port s
  | .mode port wanted => Sys2Proof.Machine.execMode port wanted s
  | .reset port => Sys2Proof.Machine.execReset port s
  | .powerOnReset => Sys2Proof.Machine.execPowerOnReset s
  | .logicSupplyFall micros => Sys2Proof.Machine.execLogicSupplyFall micros s
  | .resetPinAssert => Sys2Proof.Machine.execResetPinAssert s
  | .loadEvent => Sys2Proof.Machine.execLoadEvent s
  | .noticeEvent => Sys2Proof.Machine.execNoticeEvent s
  | .rainContactChange contact raw => Sys2Proof.Machine.execRainContactChange contact raw s
  | .rainFilterExpiry contact => Sys2Proof.Machine.execRainFilterExpiry contact s
  | .dryOutExpiry => Sys2Proof.Machine.execDryOutExpiry s
  | .anemometerPulse micros => Sys2Proof.Machine.execAnemometerPulse micros s
  | .gustWindowEnd => Sys2Proof.Machine.execGustWindowEnd s
  | .vaneChange lines => Sys2Proof.Machine.execVaneChange lines s
  | .stabilityTimerExpiry => Sys2Proof.Machine.execStabilityTimerExpiry s
  | .advisoryMinuteMark => Sys2Proof.Machine.execAdvisoryMinuteMark s
  | .standDownExpiry => Sys2Proof.Machine.execStandDownExpiry s
  | .warmUpExpiry => Sys2Proof.Machine.execWarmUpExpiry s
  | .agingSweep => Sys2Proof.Machine.execAgingSweep s
  | .resolveOpening => Sys2Proof.Machine.execResolveOpening s
  | .startWalk => Sys2Proof.Machine.execStartWalk s
  | .turnaroundEnd segment => Sys2Proof.Machine.execTurnaroundEnd segment s
  | .nodeFrameSent segment => Sys2Proof.Machine.execNodeFrameSent segment s
  | .nodeReply segment reply => Sys2Proof.Machine.execNodeReply segment reply s
  | .nodeReplyBusy segment address => Sys2Proof.Machine.execNodeReplyBusy segment address s
  | .invalidNodeFrame segment bytes gap => Sys2Proof.Machine.execInvalidNodeFrame segment bytes gap s
  | .replyWindowExpiry segment => Sys2Proof.Machine.execReplyWindowExpiry segment s
  | .runLimitExpiry slot => Sys2Proof.Machine.execRunLimitExpiry slot s
  | .orphanHoldEnd slot => Sys2Proof.Machine.execOrphanHoldEnd slot s
  | .restTimerExpiry opening => Sys2Proof.Machine.execRestTimerExpiry opening s
  | .dwellTimerExpiry opening => Sys2Proof.Machine.execDwellTimerExpiry opening s
  | .progressPollTimerExpiry slot => Sys2Proof.Machine.execProgressPollTimerExpiry slot s
  | .idlePollRound segment => Sys2Proof.Machine.execIdlePollRound segment s
  | .followPollTimerExpiry opening => Sys2Proof.Machine.execFollowPollTimerExpiry opening s
  | .reProbeTimerExpiry opening => Sys2Proof.Machine.execReProbeTimerExpiry opening s
  | .enrollmentRetry opening => Sys2Proof.Machine.execEnrollmentRetry opening s
  | .holdreqChange segment asserted => Sys2Proof.Machine.execHoldreqChange segment asserted s
  | .holdreqFilterExpiry segment => Sys2Proof.Machine.execHoldreqFilterExpiry segment s
  | .reclaimTimerExpiry segment => Sys2Proof.Machine.execReclaimTimerExpiry segment s
  | .returningTimerExpiry segment => Sys2Proof.Machine.execReturningTimerExpiry segment s
  | .motorVoltageChange tenthsOfVolt => Sys2Proof.Machine.execMotorVoltageChange tenthsOfVolt s
  | .rideThroughExpiry => Sys2Proof.Machine.execRideThroughExpiry s
  | .mainsLineChange raw => Sys2Proof.Machine.execMainsLineChange raw s
  | .mainsFilterExpiry => Sys2Proof.Machine.execMainsFilterExpiry s
  | .measuredCurrentChange tenthsOfAmpere => Sys2Proof.Machine.execMeasuredCurrentChange tenthsOfAmpere s
  | .pauseLimitExpiry => Sys2Proof.Machine.execPauseLimitExpiry s
  | .tripTimerExpiry => Sys2Proof.Machine.execTripTimerExpiry s
  | .saveCompletion readsBackIntact => Sys2Proof.Machine.execSaveCompletion readsBackIntact s
  | .byteReceived port byte => Sys2Proof.Machine.execByteReceived port byte s

end Sys2Proof.Machine
end

