-- ==== Sys2Proof/Safety.lean ====
section
/-! DEFINITION. The vocabulary of the statements: a port ready for a request, a request answered, and the invariants of
the machine. -/

namespace Sys2Proof.Machine

/-! ### Requests -/

/-- A port on which a request is taken when it arrives (R173): the part is not held in reset and the port is not
answering. -/
def State.takes (s : State) (p : Role) : Prop := s.inReset = false ∧ (s.ports.get p).answering = false

/-- A state whose port sends a reply. -/
def State.sending (s : State) (p : Role) (r : Reply) : State :=
  { s with ports := s.ports.set p { s.ports.get p with answering := true, reply := some r } }

/-- A state whose port sends OK with reply fields. -/
def State.sendingOk (s : State) (p : Role) (code : Byte) (fields : List Byte) : State :=
  s.sending p { code := code, status := .ok, index := none, fields := fields }

/-- A state whose port sends a refusal without a field index. -/
def State.sendingRefusal (s : State) (p : Role) (code : Byte) (status : Status) : State :=
  s.sending p { code := code, status := status, index := none, fields := [] }

/-- A state whose port sends OUT_OF_RANGE with a field index. -/
def State.sendingRange (s : State) (p : Role) (code : Byte) (index : Byte) : State :=
  s.sending p { code := code, status := .outOfRange, index := some index, fields := [] }

/-- Bytes received without framing errors. -/
def received (bytes : List Byte) : List RxByte := bytes.map fun b => { value := b, framingError := false }

/-- A request as the command that stands for its arrival on a port. -/
def MasterRequest.command (p : Role) : MasterRequest → Instr
  | .readOpening a => .readOpening p a
  | .readBlock a => .readBlock p a
  | .readWeather a => .readWeather p a
  | .readStatus => .readStatus p
  | .readEvents => .readEvents p
  | .setMask w => .setMask p w
  | .forceEvent w => .forceEvent p w
  | .claim a b c => .claim p a b c
  | .release a b => .release p a b
  | .advisory a b w => .advisory p a b w
  | .staticSet a b c d => .staticSet p a b c d
  | .staticClear a b => .staticClear p a b
  | .readStatic a => .readStatic p a
  | .readClaim a => .readClaim p a
  | .zoneRead a => .zoneRead p a
  | .readCounters a => .readCounters p a
  | .clearFault a => .clearFault p a
  | .resync a => .resync p a
  | .openingWrite a b c d e f g h i => .openingWrite p a b c d e f g h i
  | .zoneWrite a b c d e f => .zoneWrite p a b c d e f
  | .settingsWrite r => .settingsWrite p r
  | .settingsRead => .settingsRead p
  | .save => .save p
  | .mode a => .mode p a
  | .reset => .reset p

/-! ### Resets -/

/-- What every kind of reset does when it begins (R170, R182, R194, R196): the part is held, its ports are cut off, a save
is abandoned, ATTN, HOLDGRANT and RECLAIM are deasserted and the line drivers are off; the queue, the clock, the inputs
and the image stay. -/
def State.cutOff (s : State) (k : ResetKind) (t : State) : Prop :=
  t.phase = .held k ∧ t.store = { s.store with state := .idle } ∧ t.pending = s.pending ∧ t.clock = s.clock ∧
    t.inputs = s.inputs ∧
    ∀ p : Role, t.ports.get p = { assembly := .hunting, buffer := none, answering := false, reply := none } ∧
      (t.core.notices.ports.get p).attn = false ∧
      ∀ g : Segment, (t.core.holds.get g).grantLine = false ∧ (t.core.holds.get g).reclaimLine = false ∧
        (t.core.holds.get g).driversOff = true

/-- A record right after start-up or an accepted OPENING_WRITE: UNENROLLED or ABSENT, nothing known, no job, no failure
and no timer; its link-drop latch and its four counters as they were (R4, R6, R22, R23). -/
def Live.begun (present : Bool) (l : Live) : Live :=
  { ability := none, state := if present then .unenrolled else .absent, dwellReason := none, position := .unknown
    locked := none, target := none, jobClass := none, failureCount := 0, stopCause := none, faultReason := none
    linkDropped := l.linkDropped, drivesCompleted := l.drivesCompleted, cutOffs := l.cutOffs
    obstructions := l.obstructions, linkLosses := l.linkLosses, restTimer := none, dwellTimer := none
    followPoll := none, reProbe := none, reProbeHeld := false }

/-- A pass begun on a segment (R136): RUNNING, its list the segment's present openings that are not FAULTED, and every
present opening of the segment at position UNKNOWN. -/
def passBegun (before : State) (g : Segment) (after : Core) : Prop :=
  (after.segments.get g).pass = .running ∧
    (∀ o : OpeningId, o ∈ (after.segments.get g).resync ↔ (look before.work.openings o).present = true ∧
      (look before.work.openings o).segment = g ∧ (before.core.live o).state ≠ .faulted) ∧
    ∀ o : OpeningId, (look before.work.openings o).present = true → (look before.work.openings o).segment = g →
      (after.live o).position = .unknown

/-! ### Openings and claims -/

/-- A byte that names an opening. -/
def names (b : Byte) (o : OpeningId) : Prop := b.toNat = o.val

/-- No slot of the Dynamic Claim Table holds a key. -/
def Claims.lacks (t : Claims) (who : Claimant) (scope : ClaimScope) : Prop :=
  ∀ i : Fin 192, hasKey who scope (look t.slots i) = false

/-- The scope and subject bytes that spell a dynamic claim's scope; the subject of ALL is ignored (R30, R200). -/
def spellsScope (scope subject : Byte) : ClaimScope → Prop
  | .opening o => scope = 0 ∧ subject.toNat = o.val
  | .zone z => scope = 1 ∧ subject.toNat = z.val
  | .all => scope = 2

/-- The scope and subject bytes that spell a static key (R39, R200). -/
def spellsKey (scope subject : Byte) : StaticKey → Prop
  | .opening o => scope = 0 ∧ subject.toNat = o.val
  | .zone z => scope = 1 ∧ subject.toNat = z.val

/-- The kind and position bytes that spell a static kind; the position of a LOCKOUT is ignored (R39, R200). -/
def spellsKind (kind position : Byte) : StaticKind → Prop
  | .lockout => kind = 0
  | .pin p => kind = 1 ∧ position.toNat = p ∧ p ≤ 100

/-- A CLAIM of this scope passes checks 2 to 4 of R30. -/
def State.admitsClaim (s : State) (who : Claimant) : ClaimScope → Prop
  | .opening o => (look s.work.openings o).present = true ∧
      (look s.work.zones (look s.work.openings o).zone).admits who = true
  | .zone z => (look s.work.zones z).admits who = true
  | .all => True

/-- A present opening that a dynamic claim's scope covers (R48). -/
def State.covered (s : State) (k : ClaimScope) (o : OpeningId) : Prop :=
  (look s.work.openings o).present = true ∧
    match k with
    | .opening p => p = o
    | .zone z => (look s.work.openings o).zone = z
    | .all => True

/-- A present opening that a static key covers (R41). -/
def State.coveredByKey (s : State) (k : StaticKey) (o : OpeningId) : Prop :=
  (look s.work.openings o).present = true ∧
    match k with
    | .opening p => p = o
    | .zone z => (look s.work.openings o).zone = z

/-- A dynamic claim that applies to an opening: its zone admits the claimant and the scope covers it (R44). -/
def Claim.applies (e : Env) (o : OpeningId) (x : Claim) : Prop :=
  (look e.work.zones (e.com o).zone).admits x.claimant = true ∧
    match x.scope with
    | .opening p => p = o
    | .zone z => z = (e.com o).zone
    | .all => True

/-- A dynamic claim's place among those that apply, the winner lowest: SECURITY before VENTILATION, then OPENING before
ZONE before ALL (R44). -/
def Claim.place (x : Claim) : Nat :=
  (match x.claimant with
    | .security => 0
    | .ventilation => 3) +
  match x.scope with
  | .opening _ => 0
  | .zone _ => 1
  | .all => 2

/-- The lowest-numbered empty slot of a table. -/
def lowestEmpty {α : Type} {n : Nat} (v : Vector (Option α) n) (i : Fin n) : Prop :=
  look v i = none ∧ ∀ j : Fin n, j.val < i.val → (look v j).isSome = true

/-- A record as R12 leaves it in IDLE: no job, stop, dwell or fault, and no rest or dwell timer. -/
def Live.idled (l : Live) : Live :=
  { l with state := .idle, dwellReason := none, jobClass := none, stopCause := none, faultReason := none,
           restTimer := none, dwellTimer := none }

/-- A record as R20 leaves it in LOCKED_OUT: no job, stop, dwell, target or timer. -/
def Live.barred (l : Live) : Live :=
  { l with state := .lockedOut, dwellReason := none, jobClass := none, stopCause := none, target := none,
           restTimer := none, dwellTimer := none }

/-- A record with its four counters at 0 and unsaturated (R24). -/
def Live.counted0 (l : Live) : Live :=
  { l with drivesCompleted := ⟨0, false⟩, cutOffs := ⟨0, false⟩, obstructions := ⟨0, false⟩, linkLosses := ⟨0, false⟩ }

/-- A state with one record replaced. -/
def State.withLive (s : State) (o : OpeningId) (l : Live) : State :=
  { s with core := { s.core with openings := put s.core.openings o l } }

/-- A state with an opening placed in the pending-resolution set. -/
def State.joining (s : State) (o : OpeningId) : State :=
  { s with core := { s.core with resolveSet := insertAscending o s.core.resolveSet } }

/-- A state with one Segment Controller replaced. -/
def State.withSegment (s : State) (g : Segment) (x : SegmentCtl) : State :=
  { s with core := { s.core with segments := s.core.segments.set g x } }

/-- A state with one drive slot occupied. -/
def State.withSlot (s : State) (i : SlotId) (x : Slot) : State :=
  { s with core := { s.core with slots := put s.core.slots i (some x) } }

/-- A state without an opening's job. -/
def State.unqueued (s : State) (o : OpeningId) : State :=
  { s with core := { s.core with queue := s.core.queue.filter fun j => decide (j.opening ≠ o) } }

/-- A state with an opening's job aimed at another target in its place. -/
def State.reaimed (s : State) (o : OpeningId) (t : Nat) : State :=
  { s with core := { s.core with
    queue := s.core.queue.map fun j => if j.opening = o then { j with target := t } else j } }

/-- A static entry set in a slot (R39, R41): the working copy written, the openings it covers in the pending-resolution
set, and after a PIN no record and no drive changed. -/
def staticPlaced (before : State) (i : Fin 32) (x : StaticEntry) (after : State) : Prop :=
  after.work = { before.work with statics := put before.work.statics i (some x) } ∧ after.ports = before.ports ∧
    (∀ o : OpeningId, o ∈ before.core.resolveSet ∨ before.coveredByKey x.key o → o ∈ after.core.resolveSet) ∧
    (x.kind ≠ .lockout → after.core.openings = before.core.openings ∧ after.core.slots = before.core.slots ∧
      ∀ o ∈ after.core.resolveSet, o ∈ before.core.resolveSet ∨ before.coveredByKey x.key o)

/-- The latches after the windward arc was derived again (R68): at CLOSE_EXPOSED an arc that gained a sector sets the
latch of every exposed opening, and each newly latched opening is in the pending-resolution set; else none changes. -/
def latchedByArc (before after : State) : Prop :=
  (before.weather.level = .closeExposed → after.weather.arc &&& ~~~before.weather.arc ≠ 0#8 →
    ∀ o : OpeningId, look after.weather.latches o =
      (look before.weather.latches o || exposed before.work .closeExposed after.weather.arc o)) ∧
  (before.weather.level ≠ .closeExposed ∨ after.weather.arc &&& ~~~before.weather.arc = 0#8 →
    after.weather.latches = before.weather.latches) ∧
  ∀ o : OpeningId, look before.weather.latches o = false → look after.weather.latches o = true →
    o ∈ after.core.resolveSet

/-- An opening of which a round asks for an idle POLL (R131). -/
def polledInRound (s : State) (g : Segment) (o : OpeningId) : Prop :=
  (look s.work.openings o).present = true ∧ (s.core.live o).ability.isSome = true ∧
    ((s.core.live o).state = .idle ∨ (s.core.live o).state = .resting ∨ (s.core.live o).state = .dwell ∨
      (s.core.live o).state = .lockedOut) ∧ o ∉ (s.core.segments.get g).resync

/-- The details of a port none of whose kinds is latched. -/
def noDetails : Details := ⟨none, none, ⟨none, none⟩, none⟩

/-! ### Drives -/

/-- A slot whose drive a stop request has reached (R96). -/
def Slot.stopped (x : Slot) : Slot := { x with phase := .stopping, stopNaks := 0, progressPoll := none }

/-- A stop request taken for a DRIVING opening whose DRIVE has been sent (R96): STOPPING with the cause, its slot in phase
STOPPING, a STOP asked for, and no DRIVE or progress POLL left of it. -/
def stopAsked (e : Env) (o : OpeningId) (i : SlotId) (x : Slot) (l : Live) (cause : StopCause) (u : Core) : Prop :=
  u.live o = { l with state := .stopping, stopCause := some cause } ∧ look u.slots i = some x.stopped ∧
    (u.pendingOf e o 0).isSome = true ∧ u.pendingOf e o 1 = none ∧ u.pendingOf e o 2 = none

/-- A re-drive taken (R93): the slot with the new target, class, speed and direction, the last by R81, and a deadline set
afresh, the record with the target and class, and a DRIVE asked for. -/
def reDriven (e : Env) (o : OpeningId) (i : SlotId) (x : Slot) (l : Live) (a : Ability) (t : Nat) (cls : JobClass)
    (u : Core) : Prop :=
  look u.slots i = some { x with target := t, cls := cls, speed := speedOf (some a) cls,
                                 direction := directionOf l.position t,
                                 runDeadline := e.now + runLimit a.stroke (speedOf (some a) cls) } ∧
    u.live o = { l with target := some t, jobClass := some cls } ∧ (u.pendingOf e o 1).isSome = true

/-- The failure a record and a core show after it is taken (R107, R111, R112, R114): the count one higher and the
outcome's counter incremented; at three FAULTED with OPENING_FAULTED on all ports; below it RESTING for the rest
interval, an interval of 0 leading on to IDLE, or after an obstruction DWELL for the obstruction dwell. -/
def failureTaken (e : Env) (o : OpeningId) (f : Failure) (l : Live) (u : Core) : Prop :=
  (u.live o).cutOffs = (if f = .cutOff then l.cutOffs.bump else l.cutOffs) ∧
    (u.live o).obstructions = (if f = .obstruction then l.obstructions.bump else l.obstructions) ∧
    (u.live o).drivesCompleted = l.drivesCompleted ∧ (u.live o).position = l.position ∧ (u.live o).jobClass = none ∧
    (u.live o).stopCause = none ∧
    (2 ≤ l.failureCount → (u.live o).state = .faulted ∧ (u.live o).faultReason = some .failures ∧
      (u.live o).failureCount = 3 ∧ (u.live o).target = none ∧ (u.live o).restTimer = none ∧
      (u.live o).dwellTimer = none ∧ ∀ p : Role, hasKind (u.notices.ports.get p).latch .openingFaulted = true) ∧
    (l.failureCount < 2 → (u.live o).failureCount = l.failureCount + 1 ∧
      (f = .obstruction → (u.live o).state = .dwell ∧ (u.live o).dwellReason = some .obstruction ∧
        (u.live o).dwellTimer = some ⟨e.now, e.work.settings.obstructionDwell * 1000⟩) ∧
      (f ≠ .obstruction →
        (e.work.settings.restInterval = 0 → (u.live o).state = .idle ∧ o ∈ u.resolveSet) ∧
        (e.work.settings.restInterval ≠ 0 → (u.live o).state = .resting ∧
          (u.live o).restTimer = some ⟨e.now, e.work.settings.restInterval * 1000⟩)))

/-- R16 note 1: IDLE where the target is reached, else DWELL with reason REVERSAL for 2 s. -/
def retargetDone (e : Env) (o : OpeningId) (l : Live) (u : Core) : Prop :=
  ((∃ t : Nat, l.target = some t ∧ l.position.reached t = true) → (u.live o).state = .idle ∧ o ∈ u.resolveSet) ∧
    ((∀ t : Nat, l.target = some t → l.position.reached t = false) → (u.live o).state = .dwell ∧
      (u.live o).dwellReason = some .reversal ∧ (u.live o).dwellTimer = some ⟨e.now, 2000⟩)

/-- A drive that gives way to a stop (R91, R96): a STOP asked for where its start DRIVE has been sent; else the stop is
confirmed at once with outcome NONE, the slot freed, a start walk triggered, and the state R16 gives. -/
def gaveWay (s : State) (o : OpeningId) (i : SlotId) (x : Slot) (l : Live) (cause : StopCause) (u : Core) : Prop :=
  (s.core.startUnsent s.env o = false → stopAsked s.env o i x l cause u) ∧
    (s.core.startUnsent s.env o = true → look u.slots i = none ∧ u.walkTriggered = true ∧
      (cause = .lockout → u.live o = l.barred) ∧ (cause = .retarget → retargetDone s.env o l u))

/-- R16 note 2: QUEUED at the head of its band where the target is not reached, else IDLE. -/
def requeued (e : Env) (o : OpeningId) (cls : JobClass) (l : Live) (c u : Core) : Prop :=
  (∀ t : Nat, l.target = some t → l.position.reached t = false → (u.live o).state = .queued ∧
    ∃ j ∈ u.queue, j.opening = o ∧ j.target = t ∧ j.cls = cls ∧ j.rank = (e.com o).rank ∧
      ∀ k ∈ c.queue, k.band = j.band → j.mark < k.mark) ∧
    ((l.target = none ∨ ∃ t : Nat, l.target = some t ∧ l.position.reached t = true) →
      (u.live o).state = .idle ∧ o ∈ u.resolveSet)

/-- A confirmed stop (R16): the slot freed, its STOP withdrawn and a start walk triggered, the record as the confirming
reply left it, and then the state that the cause and the outcome give. -/
def stopConfirmed (s : State) (o : OpeningId) (i : SlotId) (x : Slot) (l : Live) (cause : StopCause)
    (out : DriveOutcome) (u : Core) : Prop :=
  ∃ c : Core, u = c.settleStop s.env o cause (l.jobClass.getD x.cls) out ∧ look c.slots i = none ∧ c.live o = l ∧
    c.pendingOf s.env o 0 = none ∧ c.walkTriggered = true ∧ c.queue = s.core.queue ∧
    c.resolveSet = s.core.resolveSet ∧ c.notices = s.core.notices ∧ ∀ q : OpeningId, q ≠ o → c.live q = s.core.live q

/-- An outcome other than NONE taken of a DRIVING opening (R99, R101): the slot freed with a start walk triggered, and a
completion or a failure. -/
def outcomeTaken (e : Env) (o : OpeningId) (i : SlotId) (l : Live) (out : DriveOutcome) (u : Core) : Prop :=
  (out = .reached → u.live o = { l.idled with failureCount := 0, drivesCompleted := l.drivesCompleted.bump } ∧
    o ∈ u.resolveSet) ∧
    (out = .stalled → failureTaken e o .cutOff l u) ∧ (out = .obstructed → failureTaken e o .obstruction l u) ∧
    (out ≠ .none → look u.slots i = none ∧ u.walkTriggered = true)

/-- An unsent DRIVE of an opening with its contents and its slot (R88, R93). -/
def unsentDrive (e : Env) (c : Core) (o : OpeningId) (target : Nat) (start : Bool) (i : SlotId) (x : Slot) : Prop :=
  (∃ (r : Request) (v : Speed), c.pendingOf e o 1 = some r ∧ r.body = .drive target v start) ∧
    c.slotOf o = some i ∧ look c.slots i = some x

/-- A start DRIVE withdrawn under R90: the slot freed, the opening QUEUED with its job at the head of its band, no failure
counted, and a start walk triggered. -/
def startWithdrawn (e : Env) (o : OpeningId) (i : SlotId) (x : Slot) (c u : Core) : Prop :=
  look u.slots i = none ∧ u.pendingOf e o 1 = none ∧ u.walkTriggered = true ∧
    u.live o = { c.live o with state := .queued, target := some x.target, jobClass := some x.cls, dwellReason := none,
                               stopCause := none, restTimer := none, dwellTimer := none } ∧
    ∃ j ∈ u.queue, j.opening = o ∧ j.target = x.target ∧ j.cls = x.cls ∧ j.rank = (e.com o).rank ∧
      ∀ k ∈ c.queue, k.band = j.band → j.mark < k.mark

/-- What a LOCKOUT does at once to the drives of the openings it covers (R41, R90): an unsent start DRIVE is withdrawn,
an unsent re-drive gives way to a stop, and an opening with no unsent DRIVE keeps its record and its slot. -/
def lockoutHandedOver (before : State) (k : StaticKey) (after : State) : Prop :=
  ∀ (o : OpeningId) (i : SlotId) (x : Slot), before.coveredByKey k o → before.core.slotOf o = some i →
    look before.core.slots i = some x →
    (before.core.pendingOf before.env o 1 = none →
      after.core.live o = before.core.live o ∧ look after.core.slots i = some x) ∧
    (∀ t : Nat, unsentDrive before.env before.core o t true i x →
      startWithdrawn before.env o i x before.core after.core) ∧
    ∀ t : Nat, unsentDrive before.env before.core o t false i x → (before.core.live o).state = .driving →
      stopAsked before.env o i x (before.core.live o) .lockout after.core

/-- A record as R18 leaves it in LOST: no position, job, stop, dwell or other timer, the link-drop latch dropped, one more
link loss, and the re-probe timer begun (R128). -/
def Live.lostAt (now : Nat) (l : Live) : Live :=
  { l with state := .lost, position := .unknown, target := none, jobClass := none, stopCause := none,
           dwellReason := none, restTimer := none, dwellTimer := none, followPoll := none, linkDropped := true,
           linkLosses := l.linkLosses.bump, reProbe := some ⟨now, 10000⟩, reProbeHeld := false }

/-- A node declared LOST (R18, R127, R128): its count 3, its opening LOST with no job and no request left and off the
resync list, NODE_LOST on all ports, and no other record changed. -/
def nodeLost (s : State) (g : Segment) (o : OpeningId) (l : Live) (now : Nat) (u : Core) : Prop :=
  u.live o = l.lostAt now ∧ look (u.segments.get g).counts (s.env.com o).node = 3 ∧
    (∀ j ∈ u.queue, j.opening ≠ o) ∧ (∀ r ∈ (u.segments.get g).requests, r.opening ≠ o) ∧
    o ∉ (u.segments.get g).resync ∧ (∀ p : Role, hasKind (u.notices.ports.get p).latch .nodeLost = true) ∧
    ∀ q : OpeningId, q ≠ o → u.live q = s.core.live q

/-- The slot of an opening just lost (R116): an orphan until 5 s after its run-limit deadline, or freed at once where that
moment has passed. -/
def slotOrphaned (i : SlotId) (x : Slot) (now : Nat) (u : Core) : Prop :=
  (now < x.runDeadline + 5000 → look u.slots i =
    some { x with phase := .orphan, runTimer := false, progressPoll := none, orphanEnd := some (x.runDeadline + 5000) }) ∧
    (x.runDeadline + 5000 ≤ now → look u.slots i = none ∧ u.walkTriggered = true)

/-- The stop requests with cause HOLD of an entry to RELEASING (R145), for one drive of the segment: STOP asked for where
the drive's DRIVE has been sent, the stop confirmed at once where it has not, a pending cause changed by R15. -/
def heldDrive (s : State) (i : SlotId) (x : Slot) (l : Live) (u : Core) : Prop :=
  (l.state = .driving → s.core.startUnsent s.env x.opening = false → stopAsked s.env x.opening i x l .hold u) ∧
    (l.state = .driving → s.core.startUnsent s.env x.opening = true → look u.slots i = none ∧
      requeued s.env x.opening (l.jobClass.getD x.cls) l s.core u) ∧
    (l.state = .stopping → look u.slots i = some x ∧
      u.live x.opening = { l with stopCause := l.stopCause.map fun h => h.overtake .hold })

/-! ### What a read reports -/

/-- A byte that counts what has a property. -/
def counts {α : Type} (n : Byte) (holds : α → Prop) : Prop :=
  ∃ l : List α, l.Nodup ∧ (∀ a : α, a ∈ l ↔ holds a) ∧ n = byteOf l.length

/-- A latched opening that is neither WITHHELD nor CLOSED (R72). -/
def State.unclosed (s : State) (o : OpeningId) : Prop :=
  look s.weather.latches o = true ∧ (s.core.live o).state ≠ .lockedOut ∧
    ∀ p : Nat, (s.core.live o).position = .percent p → 2 < p

/-- The weather mark of an opening, by its code (R72, R202). -/
def State.marked (s : State) (o : OpeningId) (b : Byte) : Prop :=
  (look s.weather.latches o = false → b = 0) ∧
    (look s.weather.latches o = true → (s.core.live o).state = .lockedOut → b = 1) ∧
    (look s.weather.latches o = true → (s.core.live o).state ≠ .lockedOut →
      (∃ p : Nat, (s.core.live o).position = .percent p ∧ p ≤ 2) → b = 2) ∧
    (s.unclosed o →
      ((s.core.live o).state = .idle ∨ (s.core.live o).state = .queued ∨ (s.core.live o).state = .driving ∨
        (s.core.live o).state = .stopping → b = 3) ∧
      ((s.core.live o).state = .resting → b = 4) ∧
      ((s.core.live o).state = .dwell → (s.core.live o).dwellReason = some .reversal → b = 5) ∧
      ((s.core.live o).state = .dwell → (s.core.live o).dwellReason = some .obstruction → b = 6) ∧
      ((s.core.live o).state = .lost → b = 7) ∧ ((s.core.live o).state = .faulted → b = 8) ∧
      ((s.core.live o).state = .unenrolled → b = 9))

/-- The counts of R72 as the weather view carries them, and the marks of a page (R71, R72, R202). -/
def State.weatherSpelled (s : State) (page : Fin 8) (v : List Byte) : Prop :=
  v.length = 50 ∧
    (∀ b : Byte, v[25]? = some b → counts b fun o : OpeningId => look s.weather.latches o = true) ∧
    (∀ b : Byte, v[26]? = some b → counts b fun o : OpeningId =>
      look s.weather.latches o = true ∧ (s.core.live o).state = .lockedOut) ∧
    (∀ b : Byte, v[27]? = some b → counts b fun o : OpeningId => s.unclosed o ∧
      ((s.core.live o).state = .resting ∨ (s.core.live o).state = .dwell ∨ (s.core.live o).state = .lost ∨
        (s.core.live o).state = .faulted ∨ (s.core.live o).state = .unenrolled)) ∧
    (∀ (n : Nat) (x : OpeningState) (b : Byte),
      (n = 28 ∧ x = .resting) ∨ (n = 31 ∧ x = .lost) ∨ (n = 32 ∧ x = .faulted) ∨ (n = 33 ∧ x = .unenrolled) →
      v[n]? = some b → counts b fun o : OpeningId => s.unclosed o ∧ (s.core.live o).state = x) ∧
    (∀ b : Byte, v[29]? = some b → counts b fun o : OpeningId => s.unclosed o ∧ (s.core.live o).state = .dwell ∧
      (s.core.live o).dwellReason ≠ some .obstruction) ∧
    (∀ b : Byte, v[30]? = some b → counts b fun o : OpeningId => s.unclosed o ∧ (s.core.live o).state = .dwell ∧
      (s.core.live o).dwellReason = some .obstruction) ∧
    ∀ (n : Fin 16) (o : OpeningId) (b : Byte), o.val = page.val * 16 + n.val → v[34 + n.val]? = some b → s.marked o b

/-- The Scheduler's items as the status view carries them (R102, R202). -/
def State.statusSpelled (s : State) (v : List Byte) : Prop :=
  v.length = 52 ∧
    v[16]? = some (byteOf (s.core.slots.toList.filter Option.isSome).length) ∧
    v[17]? = some (byteOf (s.core.slots.toList.filter fun y => y.any fun x => decide (x.phase = .orphan)).length) ∧
    [v[18]?, v[19]?] = (twoBytes s.core.reservationSum).map some ∧ v[20]? = some (byteOf s.core.queue.length) ∧
    (s.core.queue = [] → v[21]? = some 0xFF#8 ∧ v[22]? = some 0xFF#8 ∧ v[23]? = some 0xFF#8) ∧
    (∀ (j : Job) (rest : List Job), s.core.queue = j :: rest → v[21]? = some (byteOf j.opening.val) ∧
      v[22]? = some (classCode j.cls) ∧ v[23]? = some (byteOf j.rank.val)) ∧
    (∀ (n : Nat) (w : WaitReason),
      [WaitReason.noSlot, .supply, .pause, .segment, .battery, .withheld, .budget, .behindBudget][n]? = some w →
      v[24 + n]? = some (byteOf (s.core.queue.filter fun j => decide (j.wait = some w)).length)) ∧
    v[32]? = some (byteOf (s.core.queue.filter fun j => decide (j.segment = .seg0)).length) ∧
    v[33]? = some (byteOf (s.core.queue.filter fun j => decide (j.segment = .seg1)).length)

/-- The fields of READ_BLOCK: the first number, then state and position of each of the 16 (R7, R201). -/
def State.blockSpelled (s : State) (first : OpeningId) (v : List Byte) : Prop :=
  v.length = 33 ∧ v[0]? = some (byteOf first.val) ∧
    ∀ (n : Fin 16) (o : OpeningId), o.val = first.val + n.val →
      v[1 + 2 * n.val]? = some (stateCode (s.core.live o).state) ∧
      v[2 + 2 * n.val]? = some (positionCode (s.core.live o).position)

/-- The timer of an opening as its view carries it: its kind, and its seconds remaining rounded up (R7, R103, R202); with
no timer FFFFh (log entry 24). -/
def State.timerSpelled (s : State) (o : OpeningId) (v : List Byte) : Prop :=
  (∀ f : Timer, (s.core.live o).state = .resting → (s.core.live o).restTimer = some f →
    v = 2 :: twoBytes ((f.start + f.length - s.clock + 999) / 1000)) ∧
    (∀ f : Timer, (s.core.live o).state = .dwell → (s.core.live o).dwellTimer = some f →
      v = 3 :: twoBytes ((f.start + f.length - s.clock + 999) / 1000)) ∧
    ((s.core.live o).state ≠ .resting → (s.core.live o).state ≠ .dwell →
      (s.core.slotOf o = none → v = [0, 0xFF#8, 0xFF#8]) ∧
      ∀ (i : SlotId) (x : Slot), s.core.slotOf o = some i → look s.core.slots i = some x →
        (∀ t : Nat, x.orphanEnd = some t → v = 4 :: twoBytes ((t - s.clock + 999) / 1000)) ∧
        (x.orphanEnd = none → x.runTimer = true → v = 1 :: twoBytes ((x.runDeadline - s.clock + 999) / 1000)))

/-- The fields of an opening's view before its timer, FFh where absent (R202). -/
def State.viewSpelled (s : State) (o : OpeningId) (v : List Byte) : Prop :=
  ∀ (m : Commissioned) (l : Live), m = look s.work.openings o → l = s.core.live o →
    v = [byteOf o.val, yesNo m.present, segmentCode m.segment, byteOf m.node.val, kindCode m.kind, byteOf m.zone.val,
      facadeCode m.facade, byteOf m.rank.val, yesNo m.sheltered] ++
      (match l.ability with
        | some a => [byteOf a.stroke, byteOf a.rated, senseCode a.sense, yesNo a.lockContact, yesNo a.quiet]
        | none => [0xFF#8, 0xFF#8, 0xFF#8, 0xFF#8, 0xFF#8]) ++
      [stateCode l.state, (l.dwellReason.map dwellCode).getD 0xFF#8, positionCode l.position,
        (l.locked.map yesNo).getD 0xFF#8, (l.target.map byteOf).getD 0xFF#8, (l.jobClass.map classCode).getD 0xFF#8,
        if look s.weather.latches o then 0 else 1, byteOf l.failureCount, (l.stopCause.map causeCode).getD 0xFF#8,
        (l.faultReason.map faultCode).getD 0xFF#8, yesNo l.linkDropped]

/-- The present state: bit n the nth condition of R188. -/
def State.presentSpelled (s : State) (b : Byte) : Prop :=
  (b.getLsbD 0 = true ↔ s.weather.level = .closeExposed ∨ s.weather.level = .closeAll) ∧
    (b.getLsbD 1 = true ↔ s.core.notices.buildingClosed = true) ∧
    (b.getLsbD 2 = true ↔ s.supply.state ≠ .normal ∨ s.supply.mains = .battery) ∧
    (b.getLsbD 3 = true ↔ ∃ g : Segment, (s.core.holds.get g).state ≠ .owned) ∧
    (b.getLsbD 4 = true ↔ ∃ o : OpeningId, (s.core.live o).state = .faulted) ∧
    (b.getLsbD 5 = true ↔ ∃ o : OpeningId, (s.core.live o).state = .lost) ∧ b.getLsbD 6 = false ∧ b.getLsbD 7 = false

/-! ### What a request may write -/

/-- The requests that edit the working copies. -/
def MasterRequest.writesWork : MasterRequest → Bool
  | .staticSet _ _ _ _ => true
  | .staticClear _ _ => true
  | .openingWrite _ _ _ _ _ _ _ _ _ => true
  | .zoneWrite _ _ _ _ _ _ => true
  | .settingsWrite _ => true
  | _ => false

/-- The requests that write the Settings Store's own state. -/
def MasterRequest.writesStore : MasterRequest → Bool
  | .save => true
  | .mode _ => true
  | _ => false

/-- The requests that may change the Dynamic Claim Table. -/
def MasterRequest.writesClaims : MasterRequest → Bool
  | .claim _ _ _ => true
  | .release _ _ => true
  | .openingWrite _ _ _ _ _ _ _ _ _ => true
  | .zoneWrite _ _ _ _ _ _ => true
  | .settingsWrite _ => true
  | _ => false

/-- The requests that may change the Weather Assessor. -/
def MasterRequest.writesWeather : MasterRequest → Bool
  | .advisory _ _ _ => true
  | .openingWrite _ _ _ _ _ _ _ _ _ => true
  | .settingsWrite _ => true
  | _ => false

/-- The requests that may change the Supply Monitor. -/
def MasterRequest.writesSupply : MasterRequest → Bool
  | .settingsWrite _ => true
  | _ => false

/-- The requests that change nothing of the records, queue, slots, segments, holds and notices. -/
def MasterRequest.leavesCore : MasterRequest → Bool
  | .readBlock _ => true
  | .readWeather _ => true
  | .readStatus => true
  | .readStatic _ => true
  | .readClaim _ => true
  | .zoneRead _ => true
  | .settingsRead => true
  | .save => true
  | .mode _ => true
  | .reset => true
  | _ => false

/-! ### Groups of events -/

/-- The events of the resolver, the scheduler, the supervisor, the segments and the holds' timers. -/
def driveEvent : Instr → Bool
  | .resolveOpening => true
  | .startWalk => true
  | .turnaroundEnd _ => true
  | .nodeFrameSent _ => true
  | .nodeReply _ _ => true
  | .nodeReplyBusy _ _ => true
  | .invalidNodeFrame _ _ _ => true
  | .replyWindowExpiry _ => true
  | .runLimitExpiry _ => true
  | .orphanHoldEnd _ => true
  | .restTimerExpiry _ => true
  | .dwellTimerExpiry _ => true
  | .progressPollTimerExpiry _ => true
  | .idlePollRound _ => true
  | .followPollTimerExpiry _ => true
  | .reProbeTimerExpiry _ => true
  | .enrollmentRetry _ => true
  | .holdreqFilterExpiry _ => true
  | .reclaimTimerExpiry _ => true
  | .returningTimerExpiry _ => true
  | _ => false

/-- The timed events of the Weather Assessor. -/
def weatherEvent : Instr → Bool
  | .rainFilterExpiry _ => true
  | .dryOutExpiry => true
  | .gustWindowEnd => true
  | .stabilityTimerExpiry => true
  | .advisoryMinuteMark => true
  | .standDownExpiry => true
  | .warmUpExpiry => true
  | _ => false

/-- The timed events of the Supply Monitor. -/
def supplyEvent : Instr → Bool
  | .rideThroughExpiry => true
  | .mainsFilterExpiry => true
  | .pauseLimitExpiry => true
  | .tripTimerExpiry => true
  | _ => false

/-- Two states agree in the queue, the phase, the inputs, the ports, the store, the working copies and the claims. -/
def State.agreesOutside (s t : State) : Prop :=
  t.pending = s.pending ∧ t.phase = s.phase ∧ t.inputs = s.inputs ∧ t.ports = s.ports ∧ t.store = s.store ∧
    t.work = s.work ∧ t.claims = s.claims

/-! ### Invariants -/

/-- The Dynamic Claim Table: ages 0..3, positions 0..100, and no two entries with one key (R29, R34). -/
def ClaimsWf (s : State) : Prop :=
  ∀ i : Fin 192, ∀ x : Claim, look s.claims.slots i = some x →
    x.age ≤ 3 ∧ x.position ≤ 100 ∧
      ∀ j : Fin 192, ∀ y : Claim, look s.claims.slots j = some y → y.claimant = x.claimant → y.scope = x.scope → i = j

/-- The working copies pass the tests of R192: settings in range and in relation, records paired and with addresses
of their own, ceilings and pins in range, static keys unique. -/
def WorkWf (s : State) : Prop := s.work.valid = true

/-- The reported sector and the windward arc are those of the vane and the stable sector, and the stability timer runs
exactly while they differ, with the vane reading as its candidate (R55, R66). -/
def SectorWf (s : State) : Prop :=
  s.weather.reported = reportedSector s.weather.stable s.weather.vane ∧
    s.weather.arc = arcOf s.weather.reported s.weather.stable ∧
    (s.weather.stability.isNone = true ↔ s.weather.stable = some s.weather.vane) ∧
    ∀ x, s.weather.stability = some x → x.candidate = s.weather.vane

/-- While the level is CALM or WATCH every weather latch is clear (R68). -/
def LatchesWf (s : State) : Prop :=
  (s.weather.level = .calm ∨ s.weather.level = .watch) → ∀ o : OpeningId, look s.weather.latches o = false

/-- ATTN is as the latch and the mask derive it, and deasserted while held in reset (R182, R185). -/
def AttnWf (s : State) : Prop :=
  ∀ p : Role, (s.core.notices.ports.get p).attn =
    (!s.inReset && ((s.core.notices.ports.get p).latch &&& (s.core.notices.ports.get p).mask) != 0#11)

/-- A record that counts as closed: not LOST and not UNENROLLED, enrolled, at position 0, and locked where it has a lock
contact (R189). -/
def Live.shut (l : Live) : Prop :=
  l.state ≠ .lost ∧ l.state ≠ .unenrolled ∧ l.position = .percent 0 ∧
    ∃ a : Ability, l.ability = some a ∧ (a.lockContact = true → l.locked = some true)

/-- Outside reset the building-closed status is closed exactly when every present opening that is not LOCKED_OUT is
closed (R189). -/
def BuildingWf (s : State) : Prop :=
  s.inReset = false →
    (s.core.notices.buildingClosed = true ↔ ∀ o : OpeningId, (look s.work.openings o).present = true →
      (s.core.live o).state ≠ .lockedOut → (s.core.live o).shut)

/-- The pending-resolution set is strictly ascending (R42), and the Closure Queue stands in band order, each band by its
entry marks (R74). -/
def OrderWf (s : State) : Prop :=
  s.core.resolveSet.Pairwise (· < ·) ∧ s.core.queue.Pairwise fun a b => a.before b = true

/-- One hold's outputs and timers go with its state: HOLDGRANT and the high impedance of the drivers with GRANTED,
RECLAIM and the reclaim timer only in GRANTED, the returning timer only in RETURNING (R142, R148 to R152). -/
def Hold.wf (h : Hold) : Prop :=
  (h.grantLine = true ↔ h.state = .granted) ∧ (h.driversOff = true ↔ h.state = .granted) ∧
    (h.reclaimLine = true → h.state = .granted) ∧ (h.reclaimTimer.isSome = true → h.state = .granted) ∧
    (h.returningTimer.isSome = true → h.state = .returning)

/-- The holds' outputs go with their states; held in reset both outputs are deasserted and the drivers off. -/
def HoldsWf (s : State) : Prop :=
  ∀ g : Segment, if s.inReset = true
    then (s.core.holds.get g).grantLine = false ∧ (s.core.holds.get g).reclaimLine = false ∧
      (s.core.holds.get g).driversOff = true
    else (s.core.holds.get g).wf

/-- A slot's phase goes with its opening's state, and its orphan hold timer with the phase ORPHAN (R79, R103). -/
def Slot.wf (c : Core) (x : Slot) : Prop :=
  (x.phase = .orphan → (c.live x.opening).state = .lost) ∧
    (x.phase ≠ .orphan → (c.live x.opening).state = .driving ∨ (c.live x.opening).state = .stopping) ∧
    (x.orphanEnd.isSome = true → x.phase = .orphan)

/-- The queue, the slots and the opening states agree (R73, R79, R103): the queue holds exactly the QUEUED openings,
each once; every slot's opening is DRIVING, STOPPING or an orphan's LOST, each in one slot; every DRIVING or STOPPING
opening has a slot; rest and dwell timers run only in RESTING and DWELL. -/
def DrivesWf (s : State) : Prop :=
  (s.core.queue.map Job.opening).Nodup ∧
    (∀ o : OpeningId, (s.core.live o).state = .queued ↔ ∃ j ∈ s.core.queue, j.opening = o) ∧
    (∀ i : SlotId, ∀ x : Slot, look s.core.slots i = some x → x.wf s.core) ∧
    (∀ i j : SlotId, ∀ x y : Slot, look s.core.slots i = some x → look s.core.slots j = some y →
      x.opening = y.opening → i = j) ∧
    (∀ o : OpeningId, (s.core.live o).state = .driving ∨ (s.core.live o).state = .stopping →
      ∃ i : SlotId, ∃ x : Slot, look s.core.slots i = some x ∧ x.opening = o) ∧
    ∀ o : OpeningId, ((s.core.live o).restTimer.isSome = true → (s.core.live o).state = .resting) ∧
      ((s.core.live o).dwellTimer.isSome = true → (s.core.live o).state = .dwell)

end Sys2Proof.Machine
end

