-- ==== Sys2Proof/Certificates/Slice0/Obligations.lean ====
section
/-! DEFINITION. The statements for the provers. A next state is written as the command's own effect, with
State.settled for the checks with which a drive event ends (log entry 12). -/

open Sys2Proof Sys2Proof.Machine

/-! ### Steps and resets -/

/-- A step takes the command at the front of the queue and runs it on the state with the queue's rest; on an empty queue
one millisecond passes and nothing else happens (log entry 1). -/
def Obligations.StepRunsTheFrontCommand : Prop :=
  (∀ (c : Instr) (s : State), step { s with pending := c :: s.pending } = exec c s) ∧
    ∀ s : State, s.pending = [] → step s = .next { s with clock := s.clock + 1 }

/-- State.reset is what the load event makes of a part held in a power-on reset with the inputs of log entry 6 and an
image that fails (log entry 5), and every invariant below holds of it. -/
def Obligations.ResetIsAPowerOnStartUp : Prop :=
  exec .loadEvent (State.reset.enterReset .powerOn) = .next State.reset ∧
    ClaimsWf State.reset ∧ WorkWf State.reset ∧ SectorWf State.reset ∧ LatchesWf State.reset ∧ AttnWf State.reset ∧
    BuildingWf State.reset ∧ HoldsWf State.reset ∧ DrivesWf State.reset ∧ OrderWf State.reset

/-- Power, a fall of the logic supply longer than 50 µs, and the RESET pin hold the part in reset: ports cleared, a save
abandoned, ATTN, HOLDGRANT and RECLAIM deasserted and drivers off for each of them; power-on class clears the counters
and makes every link-drop latch intact, the pin keeps them; a shorter fall changes nothing (R22, R23, R168, R170, R182,
R185, R194, R196). -/
def Obligations.ResetsHoldThePart : Prop :=
  ∀ (s : State) (micros : Nat),
    (∃ t : State, exec .powerOnReset s = .next t ∧ s.cutOff .powerOn t ∧
      (50 < micros → exec (.logicSupplyFall micros) s = .next t) ∧
      ∀ o : OpeningId, t.core.live o = { (s.core.live o).counted0 with linkDropped := false }) ∧
    (micros ≤ 50 → exec (.logicSupplyFall micros) s = .next s) ∧
    ∃ t : State, exec .resetPinAssert s = .next t ∧ s.cutOff .pin t ∧ t.core.openings = s.core.openings

/-- The load event of a part held in reset: the image where it passes, else the defaults; WATCH, 60 s of warm-up, no
latch, no claim, no job, no slot, nothing reserved; every record UNENROLLED or ABSENT with its four counters and its
link-drop latch kept; ports hunting; holds OWNED with the raw HOLDREQ as filtered level and re-arm flag and every line
deasserted; the supply state judged from the voltage, the mains state the raw line; each segment's pass RUNNING over its
present openings, over none complete at once, or DUE where the supply is OUT; the event latches empty, the masks full,
and the building-closed status judged. The notice event after it latches START_UP on all three ports beside the kinds
latched meanwhile, and derives each ATTN line again (R2, R6, R23, R29, R49, R119, R136, R142, R154, R157, R182, R189,
R192, R197, R198). -/
def Obligations.StartUpEvents : Prop :=
  (∀ s : State, s.inReset = true → ∃ t : State, exec .loadEvent s = .next t ∧ t.phase = .loaded ∧
    t.pending = s.pending ∧ t.clock = s.clock ∧ t.inputs = s.inputs ∧
    t.work = (if s.store.crcMatches = true ∧ s.store.image.valid = true then s.store.image else Content.default) ∧
    t.store.image = s.store.image ∧ t.store.state = .idle ∧
    (t.store.mode = .operate ↔ s.store.crcMatches = true ∧ s.store.image.valid = true) ∧
    (t.store.imageValid = true ↔ s.store.crcMatches = true ∧ s.store.image.valid = true) ∧
    t.weather.level = .watch ∧ t.weather.warmUp = some ⟨s.clock, 60000⟩ ∧ t.weather.advisory = none ∧
    (∀ o : OpeningId, look t.weather.latches o = false) ∧ (∀ i : Fin 192, look t.claims.slots i = none) ∧
    t.core.queue = [] ∧ (∀ i : SlotId, look t.core.slots i = none) ∧ t.core.reservationSum = 0 ∧
    t.core.resolveSet = [] ∧
    (∀ o : OpeningId, t.core.live o = Live.begun (look t.work.openings o).present (s.core.live o)) ∧
    (∀ p : Role, t.ports.get p = { assembly := .hunting, buffer := none, answering := false, reply := none } ∧
      t.core.notices.ports.get p = ⟨0#11, noDetails, BitVec.allOnes 11, false⟩) ∧ BuildingWf t ∧
    (t.work.settings.sagSet ≤ s.inputs.voltage → t.supply.state = .normal) ∧
    (s.inputs.voltage < t.work.settings.sagSet →
      (t.work.settings.outSet ≤ s.inputs.voltage → t.supply.state = .sag) ∧
      (s.inputs.voltage < t.work.settings.outSet → t.supply.state = .out)) ∧
    t.supply.mains = s.inputs.mainsLine ∧ t.supply.mainsFilter = none ∧ t.supply.rideThrough = none ∧
    ∀ g : Segment,
      t.core.holds.get g =
        { filtered := s.inputs.holdreq.get g, filterTimer := none, rearm := s.inputs.holdreq.get g, state := .owned
          grantLine := false, reclaimLine := false, reclaimTimer := none, returningTimer := none
          driversOff := false } ∧
      (t.core.segments.get g).roundTimer = some ⟨s.clock, 30000⟩ ∧
      (∀ a : NodeAddress, look (t.core.segments.get g).counts a = 0) ∧
      (t.supply.state = .out → (t.core.segments.get g).pass = .due ∧ (t.core.segments.get g).resync = []) ∧
      (t.supply.state ≠ .out →
        (∀ o : OpeningId, o ∈ (t.core.segments.get g).resync ↔
          (look t.work.openings o).present = true ∧ (look t.work.openings o).segment = g) ∧
        ((t.core.segments.get g).resync ≠ [] → (t.core.segments.get g).pass = .running) ∧
        ((t.core.segments.get g).resync = [] → (t.core.segments.get g).pass = .none))) ∧
  (∀ s : State, s.phase = .loaded → ∃ t : State, exec .noticeEvent s = .next t ∧ t.phase = .running ∧
    t.core.openings = s.core.openings ∧ t.core.queue = s.core.queue ∧ t.core.slots = s.core.slots ∧
    ∀ p : Role, (t.core.notices.ports.get p).latch = (s.core.notices.ports.get p).latch ||| 1#11 ∧
      (t.core.notices.ports.get p).mask = (s.core.notices.ports.get p).mask ∧
      (t.core.notices.ports.get p).details = (s.core.notices.ports.get p).details ∧
      (t.core.notices.ports.get p).attn =
        ((((s.core.notices.ports.get p).latch ||| 1#11) &&& (s.core.notices.ports.get p).mask) != 0#11))

/-! ### The master ports -/

/-- A request that arrives while its port is answering changes nothing (R173); one from a role that R176 does not mark
is answered NOT_PERMITTED and changes nothing else. -/
def Obligations.RequestsAreGated : Prop :=
  ∀ (r : MasterRequest) (p : Role) (s : State),
    (s.inReset = false → (s.ports.get p).answering = true → exec (r.command p) s = .next s) ∧
    (s.takes p → r.permits p = false →
      exec (r.command p) s = .next (s.sendingRefusal p r.code .notPermitted))

/-- What no request touches: the queue, the clock, the phase, the inputs, the other ports; and what each group of
requests leaves: the working copies, the store, the claims, the weather, the supply, the drive core. -/
def Obligations.RequestsLeaveTheRest : Prop :=
  ∀ (r : MasterRequest) (p : Role) (s : State), ∃ t : State, exec (r.command p) s = .next t ∧
    t.pending = s.pending ∧ t.clock = s.clock ∧ t.phase = s.phase ∧ t.inputs = s.inputs ∧
    (∀ q : Role, q ≠ p → t.ports.get q = s.ports.get q) ∧
    (t.ports.get p).assembly = (s.ports.get p).assembly ∧ (t.ports.get p).buffer = (s.ports.get p).buffer ∧
    (r.writesWork = false → t.work = s.work) ∧ (r.writesStore = false → t.store = s.store) ∧
    (r.writesClaims = false → t.claims = s.claims) ∧ (r.writesWeather = false → t.weather = s.weather) ∧
    (r.writesSupply = false → t.supply = s.supply) ∧ (r.leavesCore = true → t.core = s.core)

/-- A frame of a request, received whole on a port that hunts with an empty buffer and is not answering, does what that
request does (R172 to R174, R199). -/
def Obligations.FrameArrivalTakesItsRequest : Prop :=
  ∀ (r : MasterRequest) (p : Role) (s : State), s.takes p → (s.ports.get p).assembly = .hunting →
    (s.ports.get p).buffer = none → (∀ x : Settings, r = .settingsWrite x → x.fits = true) →
    exec (.requestFrameArrival p (received r.frame)) s = exec (r.command p) s ∧
      ∃ t : State, exec (r.command p) s = .next t ∧ (t.ports.get p).answering = true

/-- One byte on a port. HUNTING: the sync byte begins a frame, every other byte is discarded. ASSEMBLING: a length byte
outside 5..49 is discarded and hunted again itself (log entry 4), one inside is kept; a later byte is kept, and the byte
that brings the frame to its length does what the arrival of the frame does. A gap returns an assembling port to HUNTING
and changes nothing else of it. The last byte of a reply ends the answering; after the OK to RESET the soft reset
begins, and RESET itself changes nothing but the reply (R171, R172, R173, R181, R199). -/
def Obligations.PortLinesHuntAndReply : Prop :=
  (∀ (p : Role) (b : RxByte) (s : State), s.inReset = false →
    ((s.ports.get p).assembly = .hunting →
      (b.value = 0x5A#8 → exec (.byteReceived p b) s =
        .next { s with ports := s.ports.set p { s.ports.get p with assembly := .assembling [b] } }) ∧
      (b.value ≠ 0x5A#8 → exec (.byteReceived p b) s = .next s)) ∧
    (∀ bytes : List RxByte, (s.ports.get p).assembly = .assembling bytes →
      (bytes.length = 1 → b.value.toNat < 5 ∨ 49 < b.value.toNat → exec (.byteReceived p b) s =
        .next { s with ports := s.ports.set p { s.ports.get p with
          assembly := if b.value = 0x5A#8 then .assembling [b] else .hunting } }) ∧
      (bytes.length = 1 → 5 ≤ b.value.toNat → b.value.toNat ≤ 49 → exec (.byteReceived p b) s =
        .next { s with ports := s.ports.set p { s.ports.get p with assembly := .assembling (bytes ++ [b]) } }) ∧
      ∀ n : RxByte, bytes[1]? = some n →
        (n.value.toNat ≠ bytes.length + 1 → exec (.byteReceived p b) s =
          .next { s with ports := s.ports.set p { s.ports.get p with assembly := .assembling (bytes ++ [b]) } }) ∧
        (n.value.toNat = bytes.length + 1 →
          exec (.byteReceived p b) s = exec (.requestFrameArrival p (bytes ++ [b])) s)) ∧
    exec (.frameGapTimeout p) s = .next { s with ports := s.ports.set p { s.ports.get p with assembly := .hunting } }) ∧
  (∀ (p : Role) (s : State),
    (s.inReset = false → (s.ports.get p).reply.any Reply.isReset = false → exec (.replySent p) s =
      .next { s with ports := s.ports.set p { s.ports.get p with answering := false, reply := none } }) ∧
    (s.takes .service → exec (.reset .service) s = .next (s.sendingOk .service 25 []) ∧
      ∃ t : State, exec (.replySent .service) (s.sendingOk .service 25 []) = .next t ∧ t.phase = .held .soft ∧
        t.core.openings = s.core.openings ∧ t.work = s.work))

/-! ### Reads -/

/-- READ_BLOCK at a multiple of 16, READ_WEATHER of a page, READ_STATUS, and from the Service port READ_STATIC and
SETTINGS_READ return their fields and change nothing but the port. READ_OPENING returns the 28 bytes of the view as they
stand; from the Service port the link-drop latch of an opening not LOST becomes intact, otherwise no record changes. The
fields of READ_BLOCK and READ_OPENING are the records', the weather marks and counts are those of R72, and the
Scheduler's items of READ_STATUS those of R102 (R7, R22, R40, R71, R72, R102, R103, R178, R179, R201, R202). Codes that
R200 does not give follow log entries 23, 24 and 37. -/
def Obligations.ReadsReturnTheirFields : Prop :=
  (∀ (p : Role) (s : State), s.takes p →
    (∀ (first : Byte) (o : OpeningId), names first o → o.val % 16 = 0 → s.blockSpelled o (s.blockBytes o) ∧
      exec (.readBlock p first) s = .next (s.sendingOk p 2 (s.blockBytes o))) ∧
    (∀ (page : Byte) (x : Fin 8), page.toNat = x.val → s.weatherSpelled x (s.weatherView x) ∧
      exec (.readWeather p page) s = .next (s.sendingOk p 3 (s.weatherView x))) ∧
    s.statusSpelled s.statusView ∧ exec (.readStatus p) s = .next (s.sendingOk p 4 s.statusView) ∧
    (p = .service →
      (∀ (slot : Byte) (i : Fin 32), slot.toNat = i.val →
        exec (.readStatic p slot) s = .next (s.sendingOk p 13 (staticBytes (look s.work.statics i)))) ∧
      exec (.settingsRead p) s = .next (s.sendingOk p 22 (settingsBytes s.work.settings)))) ∧
  (∀ (p : Role) (b : Byte) (o : OpeningId) (s : State), s.takes p → names b o →
    (s.openingView o).length = 28 ∧ s.viewSpelled o ((s.openingView o).take 25) ∧
    s.timerSpelled o ((s.openingView o).drop 25) ∧
    (p = .service → (s.core.live o).state ≠ .lost → exec (.readOpening p b) s =
      .next ((s.withLive o { s.core.live o with linkDropped := false }).sendingOk p 1 (s.openingView o))) ∧
    (p ≠ .service ∨ (s.core.live o).state = .lost →
      exec (.readOpening p b) s = .next (s.sendingOk p 1 (s.openingView o))))

/-- R24: READ_COUNTERS from the Service port returns the four counters with their saturated flags and clears exactly
them, on any record, present or not, at the instant it is taken; a number that names no opening is OUT_OF_RANGE; from
the other ports it is answered NOT_PERMITTED and changes nothing. -/
def Obligations.ReadCountersReturnsAndClears : Prop :=
  ∀ (b : Byte) (s : State),
    (s.takes .service → ∀ o : OpeningId, names b o → exec (.readCounters .service b) s =
      .next ((s.withLive o (s.core.live o).counted0).sendingOk .service 16
        (twoBytes (s.core.live o).drivesCompleted.value ++ twoBytes (s.core.live o).cutOffs.value ++
          twoBytes (s.core.live o).obstructions.value ++ twoBytes (s.core.live o).linkLosses.value ++
          [(if (s.core.live o).drivesCompleted.saturated then 1#8 else 0#8) |||
            (if (s.core.live o).cutOffs.saturated then 2#8 else 0#8) |||
            (if (s.core.live o).obstructions.saturated then 4#8 else 0#8) |||
            (if (s.core.live o).linkLosses.saturated then 8#8 else 0#8)]))) ∧
    (s.takes .service → 128 ≤ b.toNat → exec (.readCounters .service b) s = .next (s.sendingRange .service 16 1)) ∧
    ∀ p : Role, p ≠ .service → s.takes p →
      exec (.readCounters p b) s = .next (s.sendingRefusal p 16 .notPermitted)

/-- R28: ZONE_READ from the Service port returns the zone's fields from the working copy and the number of each
claimant's dynamic claims of scope ZONE on it; a number outside 0..15 is OUT_OF_RANGE; other ports NOT_PERMITTED. -/
def Obligations.ZoneReadReturnsTheRecord : Prop :=
  ∀ (b : Byte) (s : State),
    (s.takes .service → ∀ z : ZoneId, b.toNat = z.val → exec (.zoneRead .service b) s =
      .next (s.sendingOk .service 15
        [byteOf z.val, yesNo (look s.work.zones z).valid, yesNo (look s.work.zones z).admitVentilation,
          yesNo (look s.work.zones z).admitSecurity, byteOf (look s.work.zones z).ceiling,
          fallbackCode (look s.work.zones z).fallback,
          byteOf (s.claims.slots.toList.filter (hasKey .ventilation (.zone z))).length,
          byteOf (s.claims.slots.toList.filter (hasKey .security (.zone z))).length])) ∧
    (s.takes .service → 16 ≤ b.toNat → exec (.zoneRead .service b) s = .next (s.sendingRange .service 15 1)) ∧
    ∀ p : Role, p ≠ .service → s.takes p → exec (.zoneRead p b) s = .next (s.sendingRefusal p 15 .notPermitted)

/-- R37: READ_CLAIM from the Service port returns whether the slot is occupied, its entry where it is, and the number
of occupied slots; a number outside 0..191 is OUT_OF_RANGE; other ports NOT_PERMITTED; no age changes. -/
def Obligations.ReadClaimReturnsTheSlot : Prop :=
  ∀ (b : Byte) (s : State),
    (s.takes .service → ∀ i : Fin 192, b.toNat = i.val →
      (∀ x : Claim, look s.claims.slots i = some x → exec (.readClaim .service b) s =
        .next (s.sendingOk .service 14
          [1, claimantCode x.claimant, scopeCode x.scope, subjectCode x.scope, byteOf x.position, byteOf x.age,
            byteOf (s.claims.slots.toList.filter Option.isSome).length])) ∧
      (look s.claims.slots i = none → exec (.readClaim .service b) s =
        .next (s.sendingOk .service 14
          [0, 0xFF#8, 0xFF#8, 0xFF#8, 0xFF#8, 0xFF#8,
            byteOf (s.claims.slots.toList.filter Option.isSome).length]))) ∧
    (s.takes .service → 192 ≤ b.toNat → exec (.readClaim .service b) s = .next (s.sendingRange .service 14 1)) ∧
    ∀ p : Role, p ≠ .service → s.takes p → exec (.readClaim p b) s = .next (s.sendingRefusal p 14 .notPermitted)

/-! ### Notices -/

/-- READ_EVENTS returns the sender's latch, details, mask and the present state of R188, empties the latch and the details
of that port alone, and deasserts its ATTN (R185, R186, R188). The code of the building-closed detail is log entry 23. -/
def Obligations.ReadEventsClearsTheSendersLatch : Prop :=
  ∀ (p : Role) (s : State), s.takes p → ∃ t : State,
    exec (.readEvents p) s = .next (t.sendingOk p 5 (s.eventBytes p)) ∧
    (∃ b : Byte, (s.eventBytes p).getLast? = some b ∧ s.presentSpelled b) ∧
    t.core.notices.ports.get p = { s.core.notices.ports.get p with latch := 0#11, details := noDetails, attn := false } ∧
    (∀ q : Role, q ≠ p → t.core.notices.ports.get q = s.core.notices.ports.get q) ∧ t.ports = s.ports ∧
    t.core.openings = s.core.openings ∧ t.core.queue = s.core.queue ∧ t.core.slots = s.core.slots ∧
    t.core.resolveSet = s.core.resolveSet ∧ t.core.segments = s.core.segments ∧ t.core.holds = s.core.holds ∧
    t.core.notices.buildingClosed = s.core.notices.buildingClosed

/-- SET_MASK makes a set of the 11 kinds the sender's mask and derives its ATTN from it, changing no latch and no
detail; FORCE_EVENT latches the set on the sender's port alone and derives its ATTN; a set that names anything else is
OUT_OF_RANGE with index 1 and changes nothing (R185, R187). -/
def Obligations.MaskAndForceActOnTheSender : Prop :=
  ∀ (p : Role) (w : Word16) (s : State), s.takes p →
    (w.toNat < 2048 → ∀ k : KindSet, k = BitVec.ofNat 11 w.toNat → ∀ n : NoticePort, n = s.core.notices.ports.get p →
      (∃ t : State, exec (.setMask p w) s = .next (t.sendingOk p 6 (twoBytes w.toNat)) ∧
        t.core.notices.ports.get p = { n with mask := k, attn := (n.latch &&& k) != 0#11 } ∧
        (∀ q : Role, q ≠ p → t.core.notices.ports.get q = s.core.notices.ports.get q) ∧
        t.core.openings = s.core.openings ∧ t.core.slots = s.core.slots ∧ t.ports = s.ports) ∧
      ∃ t : State, exec (.forceEvent p w) s = .next (t.sendingOk p 7 []) ∧
        (t.core.notices.ports.get p).latch = n.latch ||| k ∧ (t.core.notices.ports.get p).mask = n.mask ∧
        (t.core.notices.ports.get p).attn = (((n.latch ||| k) &&& n.mask) != 0#11) ∧
        (∀ q : Role, q ≠ p → t.core.notices.ports.get q = s.core.notices.ports.get q) ∧
        t.core.openings = s.core.openings ∧ t.core.slots = s.core.slots ∧ t.ports = s.ports) ∧
    (2048 ≤ w.toNat → exec (.setMask p w) s = .next (s.sendingRange p 6 1) ∧
      exec (.forceEvent p w) s = .next (s.sendingRange p 7 1))

/-! ### Claims -/

/-- A CLAIM of scope OPENING, ZONE or ALL that passes checks 2 to 4 of R30, with no entry of its key, takes the
lowest-numbered empty slot with age 0; the present openings it covers join the pending-resolution set, and no other slot
changes. With every slot occupied it is answered TABLE_FULL and changes nothing (R30, R31, R48). -/
def Obligations.ClaimAddsAnEntry : Prop :=
  ∀ (p : Role) (scope subject position : Byte) (k : ClaimScope) (s : State), p ≠ .service → s.takes p →
    spellsScope scope subject k → position.toNat ≤ 100 → s.admitsClaim (claimantOf p) k →
    s.claims.lacks (claimantOf p) k →
    (∀ i : Fin 192, lowestEmpty s.claims.slots i →
      ∃ t : State, exec (.claim p scope subject position) s = .next (t.sendingOk p 8 [byteOf i.val, 0]) ∧
        t.claims = { s.claims with slots := put s.claims.slots i (some ⟨claimantOf p, k, position.toNat, 0⟩) } ∧
        (∀ o : OpeningId, o ∈ t.core.resolveSet ↔ o ∈ s.core.resolveSet ∨ s.covered k o) ∧
        t.core.openings = s.core.openings ∧ t.core.queue = s.core.queue ∧ t.core.slots = s.core.slots ∧
        t.core.notices = s.core.notices ∧ t.ports = s.ports) ∧
    ((∀ i : Fin 192, (look s.claims.slots i).isSome = true) →
      exec (.claim p scope subject position) s = .next (s.sendingRefusal p 8 .tableFull))

/-- A CLAIM of scope OPENING, ZONE or ALL that passes checks 2 to 4 of R30, whose key an entry has: the entry is
refreshed in its slot with the new position and age 0; with the position it held no opening joins the set, with another
one the present openings it covers do (R30, R31, R48). -/
def Obligations.ClaimRefreshesAnEntry : Prop :=
  ∀ (p : Role) (scope subject position : Byte) (k : ClaimScope) (i : Fin 192) (x : Claim) (s : State), p ≠ .service →
    s.takes p → ClaimsWf s → spellsScope scope subject k → position.toNat ≤ 100 → s.admitsClaim (claimantOf p) k →
    look s.claims.slots i = some x → x.claimant = claimantOf p → x.scope = k →
    ∃ t : State, exec (.claim p scope subject position) s = .next (t.sendingOk p 8 [byteOf i.val, 1]) ∧
      t.claims = { s.claims with slots := put s.claims.slots i (some { x with position := position.toNat, age := 0 }) } ∧
      (x.position = position.toNat → t.core = s.core) ∧
      (x.position ≠ position.toNat →
        ∀ o : OpeningId, o ∈ t.core.resolveSet ↔ o ∈ s.core.resolveSet ∨ s.covered k o) ∧
      t.core.openings = s.core.openings ∧ t.core.slots = s.core.slots ∧ t.core.queue = s.core.queue ∧
      t.core.notices = s.core.notices ∧ t.ports = s.ports

/-- A CLAIM on an opening is refused in the order of R30, and a refused CLAIM changes nothing: a position above 100, an
absent opening, an invalid zone, a zone that does not admit the sender. -/
def Obligations.ClaimRefusalsInOrder : Prop :=
  ∀ (p : Role) (subject position : Byte) (o : OpeningId) (s : State), p ≠ .service → s.takes p → names subject o →
    (100 < position.toNat → exec (.claim p 0 subject position) s = .next (s.sendingRange p 8 3)) ∧
    (position.toNat ≤ 100 →
      ((look s.work.openings o).present = false →
        exec (.claim p 0 subject position) s = .next (s.sendingRefusal p 8 .noSuchOpening)) ∧
      ((look s.work.openings o).present = true →
        ((look s.work.zones (look s.work.openings o).zone).valid = false →
          exec (.claim p 0 subject position) s = .next (s.sendingRefusal p 8 .zoneInvalid)) ∧
        ((look s.work.zones (look s.work.openings o).zone).valid = true →
          (look s.work.zones (look s.work.openings o).zone).admits (claimantOf p) = false →
          exec (.claim p 0 subject position) s = .next (s.sendingRefusal p 8 .notAdmitted))))

/-- RELEASE of a claim of scope OPENING, ZONE or ALL empties its slot whether or not the zone still admits it, and the
present openings it covers join the set; with no such entry it is answered NOT_FOUND, and for an absent opening
NO_SUCH_OPENING (R32, R48). -/
def Obligations.ReleaseEmptiesTheSlot : Prop :=
  ∀ (p : Role) (scope subject : Byte) (k : ClaimScope) (s : State), p ≠ .service → s.takes p →
    spellsScope scope subject k →
    (∀ o : OpeningId, k = .opening o → (look s.work.openings o).present = false →
      exec (.release p scope subject) s = .next (s.sendingRefusal p 9 .noSuchOpening)) ∧
    ((∀ o : OpeningId, k = .opening o → (look s.work.openings o).present = true) →
      (s.claims.lacks (claimantOf p) k →
        exec (.release p scope subject) s = .next (s.sendingRefusal p 9 .notFound)) ∧
      ∀ (i : Fin 192) (x : Claim), ClaimsWf s → look s.claims.slots i = some x → x.claimant = claimantOf p →
        x.scope = k →
        ∃ t : State, exec (.release p scope subject) s = .next (t.sendingOk p 9 []) ∧
          t.claims = { s.claims with slots := put s.claims.slots i none } ∧
          (∀ o : OpeningId, o ∈ t.core.resolveSet ↔ o ∈ s.core.resolveSet ∨ s.covered k o) ∧
          t.core.openings = s.core.openings ∧ t.core.slots = s.core.slots ∧ t.core.notices = s.core.notices)

/-- An aging sweep at its moment (log entry 1) removes exactly the entries of age 3, adds 1 to the age of the others,
begins the next period, latches CLAIM_EXPIRED on the port of each claimant that lost one, and places in the
pending-resolution set the present openings that the removed entries covered (R33, R34, R36, R48). -/
def Obligations.AgingSweepRemovesAgeThree : Prop :=
  ∀ s : State, s.inReset = false → ∃ t : State, exec .agingSweep s = .next t ∧
    t.clock = max s.clock (s.claims.sweepFrom + s.work.settings.agingPeriod * 1000) ∧ t.claims.sweepFrom = t.clock ∧
    (∀ (i : Fin 192) (x : Claim), look s.claims.slots i = some x →
      (x.age = 3 → look t.claims.slots i = none ∧
        hasKind (t.core.notices.ports.get x.claimant.port).latch .claimExpired = true) ∧
      (x.age ≠ 3 → look t.claims.slots i = some { x with age := x.age + 1 })) ∧
    (∀ i : Fin 192, look s.claims.slots i = none → look t.claims.slots i = none) ∧
    (∀ o : OpeningId, o ∈ t.core.resolveSet ↔ o ∈ s.core.resolveSet ∨
      ∃ (i : Fin 192) (x : Claim), look s.claims.slots i = some x ∧ x.age = 3 ∧ s.covered x.scope o) ∧
    t.work = s.work ∧ t.weather = s.weather ∧ t.supply = s.supply ∧ t.ports = s.ports ∧
    t.core.openings = s.core.openings ∧ t.core.slots = s.core.slots ∧ t.core.queue = s.core.queue

/-- STATIC_SET of a LOCKOUT or a PIN on an opening or a zone replaces the entry of its key in its slot, else takes the
lowest-numbered empty slot, else is answered TABLE_FULL; the present openings it covers join the pending-resolution
set, and a LOCKOUT withdraws their unsent DRIVEs by R90. STATIC_CLEAR empties the slot of its key, and the openings join
too; without such an entry it is NOT_FOUND. An absent opening is NO_SUCH_OPENING, a PIN above 100 OUT_OF_RANGE; while
SAVING both are BUSY and change nothing (R39, R40, R41, R48, R90). -/
def Obligations.StaticEntriesAreSetAndCleared : Prop :=
  ∀ (scope subject kind position : Byte) (k : StaticKey) (x : StaticKind) (s : State), s.takes .service →
    spellsKey scope subject k → spellsKind kind position x →
    (s.store.state = .saving →
      exec (.staticSet .service scope subject kind position) s = .next (s.sendingRefusal .service 11 .busy) ∧
      exec (.staticClear .service scope subject) s = .next (s.sendingRefusal .service 12 .busy)) ∧
    (s.store.state = .idle →
      (∀ b : Byte, 100 < b.toNat →
        exec (.staticSet .service scope subject 1 b) s = .next (s.sendingRange .service 11 4)) ∧
      (∀ o : OpeningId, k = .opening o → (look s.work.openings o).present = false →
        exec (.staticSet .service scope subject kind position) s =
          .next (s.sendingRefusal .service 11 .noSuchOpening) ∧
        exec (.staticClear .service scope subject) s = .next (s.sendingRefusal .service 12 .noSuchOpening)) ∧
      ((∀ o : OpeningId, k = .opening o → (look s.work.openings o).present = true) →
        (∀ (i : Fin 32) (y : StaticEntry), WorkWf s → look s.work.statics i = some y → y.key = k →
          (∃ u : State, exec (.staticSet .service scope subject kind position) s =
            .next (u.settled.sendingOk .service 11 [byteOf i.val]) ∧ staticPlaced s i ⟨k, x⟩ u ∧
            (x = .lockout → DrivesWf s → lockoutHandedOver s k u)) ∧
          ∃ t : State, exec (.staticClear .service scope subject) s = .next (t.sendingOk .service 12 []) ∧
            t.work = { s.work with statics := put s.work.statics i none } ∧
            (∀ o : OpeningId, o ∈ t.core.resolveSet ↔ o ∈ s.core.resolveSet ∨ s.coveredByKey k o) ∧
            t.core.openings = s.core.openings ∧ t.core.slots = s.core.slots) ∧
        ((∀ j : Fin 32, hasStaticKey k (look s.work.statics j) = false) →
          exec (.staticClear .service scope subject) s = .next (s.sendingRefusal .service 12 .notFound) ∧
          (∀ i : Fin 32, lowestEmpty s.work.statics i →
            ∃ u : State, exec (.staticSet .service scope subject kind position) s =
              .next (u.settled.sendingOk .service 11 [byteOf i.val]) ∧ staticPlaced s i ⟨k, x⟩ u ∧
              (x = .lockout → DrivesWf s → lockoutHandedOver s k u)) ∧
          ((∀ i : Fin 32, (look s.work.statics i).isSome = true) →
            exec (.staticSet .service scope subject kind position) s =
              .next (s.sendingRefusal .service 11 .tableFull)))))

/-! ### Commissioning -/

/-- In OPERATE the three commissioning writes are answered WRONG_MODE, in COMMISSION while SAVING they are BUSY, and
they change nothing (R3, R26, R176, R179). -/
def Obligations.CommissioningIsGuarded : Prop :=
  ∀ (a b c d e f g h i : Byte) (r : Settings) (s : State), s.takes .service →
    (s.store.mode = .operate →
      exec (.openingWrite .service a b c d e f g h i) s = .next (s.sendingRefusal .service 19 .wrongMode) ∧
      exec (.zoneWrite .service a b c d e f) s = .next (s.sendingRefusal .service 20 .wrongMode) ∧
      exec (.settingsWrite .service r) s = .next (s.sendingRefusal .service 21 .wrongMode)) ∧
    (s.store.mode = .commission → s.store.state = .saving →
      exec (.openingWrite .service a b c d e f g h i) s = .next (s.sendingRefusal .service 19 .busy) ∧
      exec (.zoneWrite .service a b c d e f) s = .next (s.sendingRefusal .service 20 .busy) ∧
      exec (.settingsWrite .service r) s = .next (s.sendingRefusal .service 21 .busy))

/-- An OPENING_WRITE that passes every check of R3 is answered OK and replaces the record's commissioned fields; its live
record begins anew, UNENROLLED or ABSENT with no ability, no failure and no timer, its four counters and link-drop latch
kept; a present one's ENROLL is asked for, and an absent one has no request, no OPENING claim and a clear latch; the
count of the written address is 0. No other record, zone, setting or static entry changes (R3, R4, R22, R23, R123,
R127, R133). -/
def Obligations.OpeningWriteReplacesTheRecord : Prop :=
  ∀ (a b c d e f g h i : Byte) (o : OpeningId) (m : Commissioned) (s : State), s.takes .service →
    s.store.mode = .commission → s.store.state = .idle → openingFields a b c d e f g h i = .ok (o, m) →
    m.paired = true → (s.core.live o).state.bars = false →
    (m.present = true → addressTaken s.work.openings o m = false) →
    ∃ u : State, exec (.openingWrite .service a b c d e f g h i) s = .next (u.settled.sendingOk .service 19 []) ∧
      u.work = { s.work with openings := put s.work.openings o m } ∧
      (m.present = false → look u.weather.latches o = false ∧
        ∀ (j : Fin 192) (x : Claim), look u.claims.slots j = some x → x.scope ≠ .opening o) ∧
      (∀ q : OpeningId, q ≠ o → look u.weather.latches q = look s.weather.latches q) ∧
      u.weather.level = s.weather.level ∧ u.ports = s.ports ∧
      look (u.core.segments.get m.segment).counts m.node = 0 ∧
      (DrivesWf s → u.core.live o = Live.begun m.present (s.core.live o) ∧
        (∀ q : OpeningId, q ≠ o → u.core.live q = s.core.live q) ∧
        (m.present = true → (u.core.pendingOf u.env o 3).isSome = true) ∧
        (m.present = false → ∀ r ∈ (u.core.segments.get (s.env.segment o)).requests, r.opening ≠ o))

/-- A ZONE_WRITE that passes every check of R26 is answered OK and replaces the zone record. It removes exactly the ZONE
claims on the zone and the OPENING claims on its openings, present or not, of a claimant that the zone admitted before and
does not admit now, each with CLAIM_EXPIRED and ZONE_CHANGED on the claimant's port; every other claim is kept. Every
present opening of the zone joins the set, and no other (R26, R27, R36). -/
def Obligations.ZoneWriteEndsAdmission : Prop :=
  ∀ (a b c d e f : Byte) (z : ZoneId) (new : Zone) (s : State), s.takes .service → s.store.mode = .commission →
    s.store.state = .idle → zoneFields a b c d e f = .ok (z, new) →
    ∃ t : State, exec (.zoneWrite .service a b c d e f) s = .next (t.sendingOk .service 20 []) ∧
      t.work = { s.work with zones := put s.work.zones z new } ∧
      (∀ (j : Fin 192) (x : Claim), look t.claims.slots j = some x → look s.claims.slots j = some x) ∧
      (∀ (j : Fin 192) (x : Claim), look s.claims.slots j = some x →
        ((look s.work.zones z).admits x.claimant = true → new.admits x.claimant = false →
          (x.scope = .zone z ∨ ∃ o : OpeningId, x.scope = .opening o ∧ (look s.work.openings o).zone = z) →
          look t.claims.slots j = none ∧
          hasKind (t.core.notices.ports.get x.claimant.port).latch .claimExpired = true ∧
          (t.core.notices.ports.get x.claimant.port).details.claim = some .zoneChanged) ∧
        (((look s.work.zones z).admits x.claimant = false ∨ new.admits x.claimant = true ∨
            (x.scope ≠ .zone z ∧ ∀ o : OpeningId, x.scope = .opening o → (look s.work.openings o).zone ≠ z)) →
          look t.claims.slots j = some x)) ∧
      (∀ o : OpeningId, o ∈ t.core.resolveSet ↔ o ∈ s.core.resolveSet ∨
        ((look s.work.openings o).present = true ∧ (look s.work.openings o).zone = z)) ∧
      t.core.openings = s.core.openings ∧ t.core.queue = s.core.queue ∧ t.core.slots = s.core.slots

/-- In COMMISSION with the store IDLE a SETTINGS_WRITE in range and in relation replaces the whole record and is
answered OK; any other is OUT_OF_RANGE and changes nothing (R179). -/
def Obligations.SettingsWriteIsWholeOrNothing : Prop :=
  ∀ (r : Settings) (s : State), s.takes .service → s.store.mode = .commission → s.store.state = .idle →
    (settingsValid r = true →
      ∃ t : State, exec (.settingsWrite .service r) s = .next (t.sendingOk .service 21 []) ∧
        t.work = { s.work with settings := r } ∧ t.ports = s.ports) ∧
    (settingsValid r = false →
      ∃ i : Byte, exec (.settingsWrite .service r) s = .next (s.sendingRange .service 21 i))

/-- SAVE from IDLE makes the store SAVING with image-valid no and takes the working copies; its completion makes it IDLE,
with image-valid yes exactly where the read back is intact and the content passes, and latches STORE_DONE on the
Service port (R180, R193, R194; the interval in between is log entry 8). -/
def Obligations.SavesBeginAndEnd : Prop :=
  ∀ (intact : Bool) (s : State),
    (s.takes .service → s.store.state = .saving →
      exec (.save .service) s = .next (s.sendingRefusal .service 23 .busy)) ∧
    (s.takes .service → s.store.state = .idle → ∃ t : State,
      exec (.save .service) s = .next (t.sendingOk .service 23 []) ∧ t.store.state = .saving ∧
      t.store.imageValid = false ∧ t.store.image = s.work ∧ t.store.mode = s.store.mode ∧ t.work = s.work ∧
      t.core = s.core) ∧
    (s.inReset = false → s.store.state = .saving → ∃ t : State, exec (.saveCompletion intact) s = .next t ∧
      t.store.state = .idle ∧ t.store.imageValid = (intact && s.store.image.valid) ∧ t.store.image = s.store.image ∧
      t.store.mode = s.store.mode ∧ hasKind (t.core.notices.ports.get .service).latch .storeDone = true ∧
      (t.core.notices.ports.get .service).details.store =
        some (if intact && s.store.image.valid then .ok else .writeFailed) ∧
      t.core.notices.ports.get .security = s.core.notices.ports.get .security ∧ t.work = s.work ∧
      t.core.openings = s.core.openings)

/-- MODE by R180: OPERATE from COMMISSION without a valid image is WRONG_MODE; any other named mode is set and answered
OK; another value is OUT_OF_RANGE with index 1 (R180, and the table of R195 but for one cell). That COMMISSION asked for
in OPERATE is set, where that cell says no change, is the model's choice between the two rules (log entry 50). -/
def Obligations.ModeFollowsItsTable : Prop :=
  ∀ (b : Byte) (s : State), s.takes .service →
    (b = 1 → exec (.mode .service b) s =
      .next (({ s with store := { s.store with mode := .commission } } : State).sendingOk .service 24 [])) ∧
    (b = 0 → (s.store.mode = .operate ∨ s.store.imageValid = true) → exec (.mode .service b) s =
      .next (({ s with store := { s.store with mode := .operate } } : State).sendingOk .service 24 [])) ∧
    (b = 0 → s.store.mode = .commission → s.store.imageValid = false →
      exec (.mode .service b) s = .next (s.sendingRefusal .service 24 .wrongMode)) ∧
    (2 ≤ b.toNat → exec (.mode .service b) s = .next (s.sendingRange .service 24 1))

/-- CLEAR_FAULT of a present FAULTED opening: an enrolled one becomes IDLE with failure count 0 and joins the set, one
that never enrolled becomes UNENROLLED and its ENROLL is asked for; any other present state is NOT_FOUND and changes
nothing (R19, R115). -/
def Obligations.ClearFaultByState : Prop :=
  ∀ (b : Byte) (o : OpeningId) (s : State), s.takes .service → names b o →
    ((look s.work.openings o).present = false →
      exec (.clearFault .service b) s = .next (s.sendingRefusal .service 17 .noSuchOpening)) ∧
    ((look s.work.openings o).present = true → (s.core.live o).state ≠ .faulted →
      exec (.clearFault .service b) s = .next (s.sendingRefusal .service 17 .notFound)) ∧
    ((look s.work.openings o).present = true → (s.core.live o).state = .faulted →
      ((s.core.live o).ability.isSome = true → exec (.clearFault .service b) s =
        .next (((s.withLive o { (s.core.live o).idled with failureCount := 0 }).joining o).settled.sendingOk
          .service 17 [])) ∧
      ((s.core.live o).ability = none → ∃ u : State,
        exec (.clearFault .service b) s = .next (u.settled.sendingOk .service 17 []) ∧
        u.core.live o =
          { s.core.live o with failureCount := 0, faultReason := none, state := .unenrolled } ∧
        (u.core.pendingOf s.env o 3).isSome = true ∧ u.core.resolveSet = s.core.resolveSet))

/-- RESYNC of segment 0, of segment 1 or of both (0, 1, 2). A named segment that can carry traffic begins a pass: its
list the segment's present openings that are not FAULTED, every present opening of the segment at position UNKNOWN; one
that cannot makes its pass DUE with an empty list. A segment not named is not triggered, and the records of a segment
on which no pass begins stay. Another value is OUT_OF_RANGE (R136 to R138). -/
def Obligations.ResyncWaitsForTheSegment : Prop :=
  ∀ (b : Byte) (s : State), s.takes .service →
    (2 < b.toNat → exec (.resync .service b) s = .next (s.sendingRange .service 18 1)) ∧
    (b.toNat ≤ 2 → ∃ u : State, exec (.resync .service b) s = .next (u.settled.sendingOk .service 18 []) ∧
      ∀ g : Segment,
        (b = 2 ∨ (b = 0 ∧ g = .seg0) ∨ (b = 1 ∧ g = .seg1) →
          (s.core.carries s.env g = true → passBegun s g u.core) ∧
          (s.core.carries s.env g = false →
            (u.core.segments.get g).pass = .due ∧ (u.core.segments.get g).resync = [] ∧
            ∀ o : OpeningId, (look s.work.openings o).segment = g → u.core.live o = s.core.live o)) ∧
        ((b = 0 ∧ g = .seg1) ∨ (b = 1 ∧ g = .seg0) → u.core.segments.get g = s.core.segments.get g ∧
          ∀ o : OpeningId, (look s.work.openings o).segment = g → u.core.live o = s.core.live o))

/-! ### Weather -/

/-- R67's exposure: at CLOSE_ALL every present opening; at CLOSE_EXPOSED every present SKYLIGHT and every present WINDOW
that is not sheltered and whose facade is in the arc; at CALM and WATCH none. -/
def Obligations.ExposureByLevelAndArc : Prop :=
  ∀ (work : Content) (arc : BitVec 8) (o : OpeningId),
    (exposed work .closeAll arc o = true ↔ (look work.openings o).present = true) ∧
    (exposed work .closeExposed arc o = true ↔ (look work.openings o).present = true ∧
      ((look work.openings o).kind = .skylight ∨ ((look work.openings o).kind = .window ∧
        (look work.openings o).sheltered = false ∧
        ∃ q : Sector, (look work.openings o).facade = .side q ∧ arc.getLsbD q.val = true))) ∧
    exposed work .watch arc o = false ∧ exposed work .calm arc o = false

/-- An evaluation raises the level to a higher rise target at once: its stand-down timer stopped, LEVEL_CHANGED latched on
all ports, at CLOSE_EXPOSED or above the latch of every exposed opening set and no other changed, each newly latched
opening in the pending-resolution set, and with a change to or from WATCH every present opening in it. Otherwise the
level stays: no timer at or below the hold target or in warm-up, and above it outside warm-up a running timer runs on
and a stopped one starts. With valid settings the hold target is never below the rise target (R48, R58 to R62, R64,
R65, R68). -/
def Obligations.EvaluationRaisesOrKeepsTheLevel : Prop :=
  ∀ (e : Env) (k : Sky),
    (∀ new : Level, new = riseTarget e.work.settings k.weather → k.weather.level.height < new.height →
      (k.evaluate e).weather.level = new ∧ (k.evaluate e).weather.standDown = none ∧
      (∀ p : Role, hasKind ((k.evaluate e).core.notices.ports.get p).latch .levelChanged = true) ∧
      (∀ o : OpeningId, look (k.evaluate e).weather.latches o =
        (look k.weather.latches o ||
          (decide (new = .closeExposed ∨ new = .closeAll) && exposed e.work new k.weather.arc o))) ∧
      (∀ o : OpeningId, look k.weather.latches o = false → look (k.evaluate e).weather.latches o = true →
        o ∈ (k.evaluate e).core.resolveSet) ∧
      (k.weather.level = .watch ∨ new = .watch → ∀ o : OpeningId, (look e.work.openings o).present = true →
        o ∈ (k.evaluate e).core.resolveSet)) ∧
    (¬ k.weather.level.height < (riseTarget e.work.settings k.weather).height →
      (k.evaluate e).weather.level = k.weather.level ∧ (k.evaluate e).core = k.core ∧
      (k.evaluate e).weather.latches = k.weather.latches ∧
      (k.weather.level.height ≤ (holdTarget e.work.settings k.weather).height →
        (k.evaluate e).weather.standDown = none) ∧
      (k.weather.warmUp.isSome = true → (k.evaluate e).weather.standDown = none) ∧
      ((holdTarget e.work.settings k.weather).height < k.weather.level.height → k.weather.warmUp = none →
        (∀ f : Timer, k.weather.standDown = some f → (k.evaluate e).weather.standDown = some f) ∧
        (k.weather.standDown = none →
          (k.evaluate e).weather.standDown = some ⟨e.now, e.work.settings.standDownTime * 1000⟩))) ∧
    ∀ r : Settings, settingsValid r = true → (riseTarget r k.weather).height ≤ (holdTarget r k.weather).height

/-- A raw rain reading opposite the filtered level starts the filter timer where it is stopped, and one equal to it stops
the timer. The expiry makes the filtered level its opposite: a wet level makes a DRY rain state WET with an evaluation
and keeps a WET one with the dry-out timer stopped; with both levels dry a WET rain state starts the dry-out timer where
it is stopped, and with the other level wet it stays WET without one. The dry-out timer's expiry makes the rain state
DRY, warm-up ends at its expiry, and a descent is one step with LEVEL_CHANGED latched, down to WATCH every latch clear,
each followed by an evaluation. Each is taken at its timer's moment (log entry 1; R50, R51, R60, R62, R64, R69). -/
def Obligations.RainAndWeatherTimers : Prop :=
  (∀ (x : RainContact) (raw : Wetness) (s : State), s.inReset = false →
    (∃ t : State, exec (.rainContactChange x raw) s = .next t ∧
      (t.weather.filter x).level = (s.weather.filter x).level ∧
      (raw = (s.weather.filter x).level → (t.weather.filter x).timer = none) ∧
      (raw ≠ (s.weather.filter x).level → (s.weather.filter x).timer = none →
        (t.weather.filter x).timer = some ⟨s.clock, s.work.settings.rainFilterTime * 1000⟩) ∧
      t.core = s.core ∧ t.work = s.work ∧ t.claims = s.claims ∧ t.supply = s.supply ∧
      t.weather.level = s.weather.level) ∧
    ∀ (f : Timer) (y : RainContact) (s' : State), (s.weather.filter x).timer = some f → y ≠ x →
      s' = s.atMoment (f.start + f.length) →
      ((s.weather.filter x).level = .dry →
        (s.weather.rain = .dry → exec (.rainFilterExpiry x) s = .next (s'.onSky fun e k => Sky.evaluate e
          ⟨{ k.weather.setFilter x ⟨.wet, none⟩ with rain := .wet, dryOut := none }, k.core⟩).settled) ∧
        (s.weather.rain = .wet → exec (.rainFilterExpiry x) s = .next
          { s' with weather := { s.weather.setFilter x ⟨.wet, none⟩ with dryOut := none } }.settled)) ∧
      ((s.weather.filter x).level = .wet → s.weather.rain = .wet →
        ((s.weather.filter y).level = .wet → exec (.rainFilterExpiry x) s = .next
          { s' with weather := { s.weather.setFilter x ⟨.dry, none⟩ with dryOut := none } }.settled) ∧
        ((s.weather.filter y).level = .dry →
          (s.weather.dryOut = none → exec (.rainFilterExpiry x) s = .next
            { s' with weather := { s.weather.setFilter x ⟨.dry, none⟩ with
              dryOut := some ⟨s'.clock, s.work.settings.dryOutTime * 1000⟩ } }.settled) ∧
          (s.weather.dryOut.isSome = true → exec (.rainFilterExpiry x) s = .next
            { s' with weather := s.weather.setFilter x ⟨.dry, none⟩ }.settled)))) ∧
  (∀ (s s' : State) (f : Timer), s.inReset = false → s' = s.atMoment (f.start + f.length) →
    (s.weather.dryOut = some f → exec .dryOutExpiry s = .next (s'.onSky fun e k => Sky.evaluate e
      ⟨{ k.weather with rain := .dry, dryOut := none }, k.core⟩).settled) ∧
    (s.weather.warmUp = some f → exec .warmUpExpiry s = .next (s'.onSky fun e k => Sky.evaluate e
      ⟨{ k.weather with warmUp := none }, k.core⟩).settled) ∧
    (s.weather.standDown = some f → ∃ k : Sky,
      exec .standDownExpiry s = .next (s'.onSky fun e _ => k.evaluate e).settled ∧
      k.weather.level = s.weather.level.lower ∧ k.weather.standDown = none ∧
      (∀ p : Role, hasKind (k.core.notices.ports.get p).latch .levelChanged = true) ∧
      (∀ o : OpeningId, look k.weather.latches o =
        (look s.weather.latches o && decide (s.weather.level ≠ .closeExposed))) ∧
      (s.weather.level = .closeExposed ∨ s.weather.level = .watch → ∀ o : OpeningId,
        (look s.work.openings o).present = true → o ∈ k.core.resolveSet)))

/-- A pulse of 2 ms or longer counts, a shorter one does not; a window's end gives the gust of its count and empties the
count, and the mean is the average of the history. Windows lie end to end; one taken late counts the pulses up to its
taking (log entry 1; R52, R53). -/
def Obligations.GustWindowsCountPulses : Prop :=
  ∀ (micros : Nat) (s : State), s.inReset = false →
    (2000 ≤ micros → exec (.anemometerPulse micros) s =
      .next { s with weather := { s.weather with pulses := s.weather.pulses + 1 } }) ∧
    (micros < 2000 → exec (.anemometerPulse micros) s = .next s) ∧
    ∃ t : State, exec .gustWindowEnd s = .next t ∧
      t.weather.gust = min 999 (s.weather.pulses * s.work.settings.anemometerConstant / 30) ∧
      t.weather.pulses = 0 ∧ t.weather.history = appendGust s.weather.history t.weather.gust ∧
      t.weather.mean = t.weather.history.sum / t.weather.history.length ∧
      t.weather.windowFrom = s.weather.windowFrom + 3000

/-- A change of the vane lines reads the sector of the Gray code; a reading equal to the stable sector stops the
stability timer, any other starts it for 5 s with itself as candidate, and the expiry makes the candidate stable. At
either, where the arc gains a sector at CLOSE_EXPOSED, every exposed opening's latch is set and the newly latched ones
join the pending-resolution set; otherwise no latch changes (R54, R55, R66, R68). -/
def Obligations.VaneAndStableSector : Prop :=
  ∀ (lines : BitVec 3) (s : State), s.inReset = false →
    (s.inputs.vane = lines → exec (.vaneChange lines) s = .next s) ∧
    (s.inputs.vane ≠ lines → ∃ t : State, exec (.vaneChange lines) s = .next t ∧ t.inputs.vane = lines ∧
      t.weather.vane = sectorOf lines ∧ t.weather.stable = s.weather.stable ∧
      (s.weather.stable = some (sectorOf lines) → t.weather.stability = none ∧
        t.weather.reported = .stable (sectorOf lines)) ∧
      (s.weather.stable ≠ some (sectorOf lines) →
        t.weather.stability = some { timer := ⟨s.clock, 5000⟩, candidate := sectorOf lines }) ∧
      t.weather.level = s.weather.level ∧ latchedByArc s t ∧ t.work = s.work ∧ t.claims = s.claims ∧
      t.supply = s.supply) ∧
    ∀ x : Stability, s.weather.stability = some x → ∃ t : State, exec .stabilityTimerExpiry s = .next t ∧
      t.weather.stable = some x.candidate ∧ t.weather.stability = none ∧ t.weather.vane = s.weather.vane ∧
      t.weather.level = s.weather.level ∧ latchedByArc s t

/-- An ADVISORY of duration 1..720 is placed whole; one of duration 0 cancels a present one and is NOT_FOUND without one;
a lead above 240 or a duration above 720 is OUT_OF_RANGE. A minute mark counts both times down, the marks whole minutes
from the placing, and the last one ends the advisory with ADVISORY_ENDED. Each change is followed by an evaluation; a
mark is taken at its moment (log entry 1; R56, R57, R60). -/
def Obligations.AdvisoryLife : Prop :=
  ∀ (kind lead : Byte) (w : Word16) (k : AdvisoryKind) (s : State), advisoryKindOf? kind = some k →
    (s.takes .ventilation →
      (240 < lead.toNat → exec (.advisory .ventilation kind lead w) s = .next (s.sendingRange .ventilation 10 2)) ∧
      (lead.toNat ≤ 240 →
        (720 < w.toNat → exec (.advisory .ventilation kind lead w) s = .next (s.sendingRange .ventilation 10 3)) ∧
        (1 ≤ w.toNat → w.toNat ≤ 720 → exec (.advisory .ventilation kind lead w) s =
          .next ((s.onSky fun e x => Sky.evaluate e ⟨{ x.weather with
            advisory := some { kind := k, lead := lead.toNat, time := lead.toNat + w.toNat, markFrom := s.clock } },
            x.core⟩).settled.sendingOk .ventilation 10 [])) ∧
        (w.toNat = 0 → s.weather.advisory = none →
          exec (.advisory .ventilation kind lead w) s = .next (s.sendingRefusal .ventilation 10 .notFound)) ∧
        (w.toNat = 0 → s.weather.advisory.isSome = true → exec (.advisory .ventilation kind lead w) s =
          .next ((s.onSky fun e x => Sky.evaluate e
            ⟨{ x.weather with advisory := none }, x.core⟩).settled.sendingOk .ventilation 10 [])))) ∧
    ∀ a : Advisory, s.inReset = false → s.weather.advisory = some a →
      (1 < a.time → exec .advisoryMinuteMark s =
        .next ((s.atMoment (a.markFrom + 60000)).onSky fun e x => Sky.evaluate e ⟨{ x.weather with
          advisory := some { a with lead := a.lead - 1, time := a.time - 1, markFrom := a.markFrom + 60000 } },
          x.core⟩).settled) ∧
      (a.time ≤ 1 → exec .advisoryMinuteMark s =
        .next ((s.atMoment (a.markFrom + 60000)).onSky fun e x =>
          Sky.evaluate e ⟨{ x.weather with advisory := none }, x.core.hand .advisoryEnded⟩).settled)

/-! ### Resolution, queue and drives -/

/-- RESOLVE_OPENING takes the lowest member of the set, which stands in ascending order, resolves it and hands the result
on by its state (R47): IDLE at its target keeps it, away from it is QUEUED with a job and a start walk triggered; QUEUED
re-aims its job, in its place within its class and at the tail of its new band otherwise, keeping its wait reason, or
gives it up; STOPPING takes target and class, LOCKOUT overtaking the pending cause; LOCKED_OUT with no LOCKOUT becomes
IDLE; a LOCKOUT makes IDLE, QUEUED, RESTING and DWELL LOCKED_OUT; ABSENT, UNENROLLED, LOST and FAULTED take nothing; with
an empty set nothing is resolved. A LOCKOUT gives no target; the weather latch decides before every claim and PIN; a PIN,
OPENING before ZONE, before every dynamic claim; then the winning claim that applies, no further than the zone's
ceiling; then the zone's fallback; each target under the watch cap and as a COARSE opening takes it (R9, R12, R20, R41
to R47, R74 to R77). -/
def Obligations.ResolutionTakesTheLowest : Prop :=
  (∀ s : State, s.inReset = false →
    (s.core.resolveSet = [] → exec .resolveOpening s = .next s.settled) ∧
    ∀ (o : OpeningId) (rest : List OpeningId) (s' : State) (l : Live), s.core.resolveSet = o :: rest →
      s' = { s with core := { s.core with resolveSet := rest } } → l = s.core.live o →
      (OrderWf s → ∀ q ∈ rest, o < q) ∧
      (l.state = .absent ∨ l.state = .unenrolled ∨ l.state = .lost ∨ l.state = .faulted →
        exec .resolveOpening s = .next s'.settled) ∧
      (resolve s.env s.claims l.ability o = .lockout →
        (l.state = .idle ∨ l.state = .resting ∨ l.state = .dwell →
          exec .resolveOpening s = .next (s'.withLive o l.barred).settled) ∧
        (l.state = .queued → exec .resolveOpening s = .next ((s'.unqueued o).withLive o l.barred).settled) ∧
        (l.state = .stopping → exec .resolveOpening s = .next (s'.withLive o
          { l with target := none, stopCause := l.stopCause.map fun _ => .lockout }).settled) ∧
        (l.state = .lockedOut → exec .resolveOpening s = .next s'.settled)) ∧
      (resolve s.env s.claims l.ability o = .noTarget →
        (l.state = .idle ∨ l.state = .stopping →
          exec .resolveOpening s = .next (s'.withLive o { l with target := none }).settled) ∧
        (l.state = .queued → exec .resolveOpening s =
          .next (((s'.unqueued o).withLive o { l.idled with target := none }).joining o).settled)) ∧
      (∀ (t : Nat) (cls : JobClass), resolve s.env s.claims l.ability o = .target t cls →
        (l.state = .stopping → exec .resolveOpening s =
          .next (s'.withLive o { l with target := some t, jobClass := some cls }).settled) ∧
        (l.position.reached t = true →
          (l.state = .idle →
            exec .resolveOpening s = .next (s'.withLive o { l with target := some t }).settled) ∧
          (l.state = .queued → exec .resolveOpening s =
            .next (((s'.unqueued o).withLive o { l.idled with target := some t }).joining o).settled)) ∧
        (l.position.reached t = false →
          (l.state = .idle → ∃ u : State, exec .resolveOpening s = .next u.settled ∧
            (u.core.live o).state = .queued ∧ (u.core.live o).target = some t ∧
            (u.core.live o).jobClass = some cls ∧ u.core.walkTriggered = true ∧
            (∃ j ∈ u.core.queue, j.opening = o ∧ j.target = t ∧ j.cls = cls ∧ j.rank = (s.env.com o).rank ∧
              j.segment = s.env.segment o ∧ j.wait = none ∧
              ∀ k ∈ s.core.queue, k.band = j.band → k.mark < j.mark) ∧
            (∀ q : OpeningId, q ≠ o → u.core.live q = s.core.live q) ∧ u.core.slots = s.core.slots) ∧
          ∀ j ∈ s.core.queue, DrivesWf s → j.opening = o → l.state = .queued →
            (j.cls = cls → exec .resolveOpening s =
              .next ((s'.reaimed o t).withLive o { l with target := some t, jobClass := some cls }).settled) ∧
            (j.cls ≠ cls → ∃ u : State, exec .resolveOpening s = .next u.settled ∧
              (u.core.live o).state = .queued ∧ (u.core.live o).target = some t ∧
              (u.core.live o).jobClass = some cls ∧ u.core.walkTriggered = true ∧
              (∃ n ∈ u.core.queue, n.opening = o ∧ n.target = t ∧ n.cls = cls ∧ n.rank = (s.env.com o).rank ∧
                n.wait = j.wait ∧ ∀ k ∈ s.core.queue, k.opening ≠ o → k.band = n.band → k.mark < n.mark) ∧
              u.core.slots = s.core.slots))) ∧
      (resolve s.env s.claims l.ability o ≠ .lockout →
        (l.state = .lockedOut → exec .resolveOpening s = .next ((s'.withLive o l.idled).joining o).settled) ∧
        (l.state = .resting ∨ l.state = .dwell → exec .resolveOpening s = .next s'.settled))) ∧
  (∀ (s : State) (ability : Option Ability) (o : OpeningId),
    (s.env.lockedOut o = true ↔ ∃ (i : Fin 32) (x : StaticEntry), look s.work.statics i = some x ∧
      x.kind = .lockout ∧ (x.key = .opening o ∨ x.key = .zone (look s.work.openings o).zone)) ∧
    (s.env.lockedOut o = true → resolve s.env s.claims ability o = .lockout) ∧
    (s.env.lockedOut o = false → look s.weather.latches o = true →
      resolve s.env s.claims ability o = .target 0 .weather) ∧
    (s.env.lockedOut o = false → look s.weather.latches o = false →
      (∀ p : Nat, pinOf s.env o = some p →
        resolve s.env s.claims ability o = .target (roundFor ability (watchCap s.env o p)) .service) ∧
      (pinOf s.env o = none →
        (∀ (i : Fin 192) (x : Claim), ClaimsWf s → look s.claims.slots i = some x → x.applies s.env o →
          (∀ (j : Fin 192) (y : Claim), look s.claims.slots j = some y → y.applies s.env o → x.place ≤ y.place) →
          resolve s.env s.claims ability o = .target
            (roundFor ability (watchCap s.env o
              (min x.position (look s.work.zones (look s.work.openings o).zone).ceiling))) x.claimant.jobClass) ∧
        ((∀ (j : Fin 192) (y : Claim), look s.claims.slots j = some y → ¬ y.applies s.env o) →
          ∀ z : Zone, z = look s.work.zones (look s.work.openings o).zone →
            (z.valid = true → z.fallback = .close → resolve s.env s.claims ability o =
              .target (roundFor ability (watchCap s.env o 0)) .fallback) ∧
            (z.valid = false ∨ z.fallback = .stay → resolve s.env s.claims ability o = .noTarget)))) ∧
    (WorkWf s → ∀ (i : Fin 32) (p : Nat),
      (look s.work.statics i = some ⟨.opening o, .pin p⟩ → pinOf s.env o = some p) ∧
      (look s.work.statics i = some ⟨.zone (look s.work.openings o).zone, .pin p⟩ →
        (∀ (j : Fin 32) (q : Nat), look s.work.statics j ≠ some ⟨.opening o, .pin q⟩) → pinOf s.env o = some p)) ∧
    (∀ t : Nat, (s.weather.level ≠ .watch → watchCap s.env o t = t) ∧
      (s.weather.level = .watch →
        ((look s.work.openings o).kind = .skylight → watchCap s.env o t = 0) ∧
        ((look s.work.openings o).kind = .window →
          watchCap s.env o t = min t s.work.settings.watchCeiling)) ∧
      roundFor none t = t ∧
      ∀ a : Ability, (a.sense = .fine → roundFor (some a) t = t) ∧
        (a.sense = .coarse → roundFor (some a) t = if t ≤ 50 then 0 else 100)))

/-- A start walk leaves the reservation sum within the budget in force, or no higher than it was, and starts nothing while
the supply is not NORMAL. It takes the jobs as the queue held them, in band order: every slot occupied, a supply not
NORMAL and a pause halt it with their reason for every job left; a job behind the fence ends it with BEHIND_BUDGET; a
skipped job keeps its reason, the first that holds of SEGMENT, BATTERY and WITHHELD; a job that fits the budget starts,
and one that does not is left with BUDGET and fences off the classes below its own. A job at the head that fits is
started in the lowest empty slot (R74, R80, R83 to R88). Two points are the model's choice: the order of the tests (log
entry 29), and that a START_WALK with no trigger pending changes nothing (log entry 10). -/
def Obligations.StartWalkKeepsTheBudget : Prop :=
  (∀ s : State, s.inReset = false → ∃ u : State, exec .startWalk s = .next u.settled ∧
    u.core.reservationSum ≤ max s.core.reservationSum s.budget ∧
    (s.supply.state ≠ .normal → u.core.slots = s.core.slots ∧ u.core.openings = s.core.openings) ∧
    u.core.walkTriggered = false ∧ u.core.holds = s.core.holds ∧ u.core.notices = s.core.notices ∧
    u.core.resolveSet = s.core.resolveSet ∧
    (s.core.walkTriggered = false → u = s) ∧
    (s.core.walkTriggered = true → u.core = Core.walk s.env none s.core.queue
      { s.core with walkTriggered := false, walkCount := s.core.walkCount + 1 }) ∧
    ∀ (j : Job) (rest : List Job) (i : SlotId) (a : Ability), s.core.walkTriggered = true →
      s.core.queue = j :: rest → (s.core.queue.map Job.opening).Nodup → lowestEmpty s.core.slots i →
      s.supply.state = .normal → s.supply.pause ≠ .paused → (s.core.holds.get j.segment).state = .owned →
      (s.core.segments.get j.segment).pass ≠ .running →
      (directionOf (s.core.live j.opening).position j.target = .toOpen →
        s.supply.mains ≠ .battery ∧ look s.weather.latches j.opening = false) →
      s.env.lockedOut j.opening = false → (s.core.live j.opening).ability = some a →
      s.core.reservationSum + a.rated ≤ s.budget →
      (∃ x : Slot, look u.core.slots i = some x ∧ x.opening = j.opening ∧ x.phase = .starting ∧
        x.target = j.target ∧ x.cls = j.cls ∧
        x.direction = directionOf (s.core.live j.opening).position j.target ∧ x.speed = speedOf (some a) j.cls ∧
        x.reserved = a.rated ∧ x.runDeadline = s.clock + runLimit a.stroke x.speed) ∧
      u.core.live j.opening = { s.core.live j.opening with
        state := .driving, target := some j.target, jobClass := some j.cls } ∧
      (∀ k ∈ u.core.queue, k.opening ≠ j.opening) ∧ (u.core.pendingOf s.env j.opening 1).isSome = true) ∧
  ∀ (e : Env) (fence : Option JobClass) (c : Core), c.walk e fence [] = c ∧
    (∀ (w : WaitReason) (jobs : List Job), c.recordAll w jobs =
      { c with
        queue := c.queue.map fun k => if k.opening ∈ jobs.map Job.opening then { k with wait := some w } else k }) ∧
    ((∀ i : SlotId, (look c.slots i).isSome = true) → c.halted e = some .noSlot) ∧
    (∀ i : SlotId, look c.slots i = none →
      (e.supply ≠ .normal → c.halted e = some .supply) ∧
      (e.supply = .normal → e.paused = true → c.halted e = some .pause) ∧
      (e.supply = .normal → e.paused = false → c.halted e = none)) ∧
    ∀ (j : Job) (rest : List Job) (d : Direction), d = directionOf (c.live j.opening).position j.target →
      ((c.holds.get j.segment).state ≠ .owned ∨ (c.segments.get j.segment).pass = .running →
        c.skipped e j = some .segment) ∧
      ((c.holds.get j.segment).state = .owned → (c.segments.get j.segment).pass ≠ .running →
        (e.mains = .battery → d = .toOpen → c.skipped e j = some .battery) ∧
        (e.mains = .mains ∨ d = .toClose →
          (e.lockedOut j.opening = true ∨ (look e.latches j.opening = true ∧ d = .toOpen) →
            c.skipped e j = some .withheld) ∧
          (e.lockedOut j.opening = false → look e.latches j.opening = false ∨ d = .toClose →
            c.skipped e j = none))) ∧
      (∀ w : WaitReason, c.halted e = some w → c.walk e fence (j :: rest) = c.recordAll w (j :: rest)) ∧
      (c.halted e = none →
        (∀ f : JobClass, fence = some f → f.urgency < j.cls.urgency →
          c.walk e fence (j :: rest) = c.recordAll .behindBudget (j :: rest)) ∧
        ((∀ f : JobClass, fence = some f → j.cls.urgency ≤ f.urgency) →
          (∀ w : WaitReason, c.skipped e j = some w →
            c.walk e fence (j :: rest) = (c.recordAll w [j]).walk e fence rest) ∧
          (c.skipped e j = none →
            (c.reservationSum + c.rated j.opening ≤ budgetOf e.work e.mains →
              c.walk e fence (j :: rest) = (c.startDrive e j).walk e fence rest) ∧
            (budgetOf e.work e.mains < c.reservationSum + c.rated j.opening → c.walk e fence (j :: rest) =
              (c.recordAll .budget [j]).walk e (some (fence.getD j.cls)) rest))))

/-- A job that a walk starts: the lowest-numbered empty slot in phase STARTING with the job's values, the rated current
reserved and the run-limit deadline of R82; the opening DRIVING, its job gone, and a DRIVE asked for (R82, R88). A
resolution that finds the opening DRIVING follows R92: under a LOCKOUT, with no target, and with the target reached the
drive gives way to a stop; one that repeats target and speed writes the class alone; a target in the same direction, or
the same target at another speed, is a re-drive, whose direction is judged again; any other gives way to a stop with cause
RETARGET (R47, R81, R91 to R96). An unsent DRIVE meets the test of R90: under a LOCKOUT, or with the latch set
and its target above the stored position, a start DRIVE is withdrawn and a re-drive gives way to a stop; else it stays.
The reply to a start DRIVE begins RUNNING with a progress POLL in 1 s, takes its outcome, or is a failed start; the reply
to a re-drive lets the drive run on, takes its outcome, or stops it with cause RETARGET; an opening STOPPING by then has
its stop confirmed or keeps it (R89, R94, R97 to R101, R130). Two clauses are the model's own reading: a NAK to a re-drive
of an opening STOPPING by then (log entry 17), and that a NAK of a DRIVING opening is a failed start or a stop request
whatever outcome it carries (log entry 21). -/
def Obligations.StartsTakeTheLowestSlot : Prop :=
  (∀ (e : Env) (c : Core) (j : Job) (i : SlotId) (a : Ability), lowestEmpty c.slots i →
    (c.live j.opening).ability = some a →
    (∃ x : Slot, look (c.startDrive e j).slots i = some x ∧ x.opening = j.opening ∧ x.phase = .starting ∧
      x.target = j.target ∧ x.cls = j.cls ∧ x.direction = directionOf (c.live j.opening).position j.target ∧
      x.speed = speedOf (some a) j.cls ∧ x.reserved = a.rated ∧
      x.runDeadline = e.now + runLimit a.stroke x.speed ∧ x.runTimer = true ∧ x.orphanEnd = none) ∧
    (∀ k : SlotId, k ≠ i → look (c.startDrive e j).slots k = look c.slots k) ∧
    (c.startDrive e j).live j.opening =
      { c.live j.opening with state := .driving, target := some j.target, jobClass := some j.cls } ∧
    (∀ k ∈ (c.startDrive e j).queue, k.opening ≠ j.opening) ∧
    ((c.startDrive e j).pendingOf e j.opening 1).isSome = true ∧ (c.startDrive e j).holds = c.holds ∧
    (c.startDrive e j).notices = c.notices) ∧
  (∀ (s s' : State) (o : OpeningId) (rest : List OpeningId) (i : SlotId) (x : Slot) (l : Live) (a : Ability),
    s.inReset = false → s.core.resolveSet = o :: rest →
    s' = { s with core := { s.core with resolveSet := rest } } → l = s.core.live o → l.state = .driving →
    l.ability = some a → s.core.slotOf o = some i → look s.core.slots i = some x →
    (resolve s.env s.claims l.ability o = .lockout → ∃ u : State, exec .resolveOpening s = .next u.settled ∧
      gaveWay s o i x { l with target := none } .lockout u.core) ∧
    (resolve s.env s.claims l.ability o = .noTarget → ∃ u : State, exec .resolveOpening s = .next u.settled ∧
      gaveWay s o i x { l with target := none } .retarget u.core) ∧
    ∀ (t : Nat) (cls : JobClass), resolve s.env s.claims l.ability o = .target t cls →
      (l.position.reached t = true → ∃ u : State, exec .resolveOpening s = .next u.settled ∧
        gaveWay s o i x { l with target := some t, jobClass := some cls } .retarget u.core) ∧
      (l.position.reached t = false →
        (t = x.target → speedOf l.ability cls = x.speed → exec .resolveOpening s = .next
          ((s'.withLive o { l with target := some t, jobClass := some cls }).withSlot i { x with cls := cls }).settled) ∧
        (t ≠ x.target ∨ speedOf l.ability cls ≠ x.speed →
          ((l.position ≠ .unknown ∧ directionOf l.position t = x.direction) ∨
              (l.position = .unknown ∧ t = x.target) →
            ∃ u : State, exec .resolveOpening s = .next u.settled ∧ reDriven s.env o i x l a t cls u.core) ∧
          ((l.position ≠ .unknown ∧ directionOf l.position t ≠ x.direction) ∨
              (l.position = .unknown ∧ t ≠ x.target) →
            ∃ u : State, exec .resolveOpening s = .next u.settled ∧
              gaveWay s o i x { l with target := some t, jobClass := some cls } .retarget u.core)))) ∧
  (∀ (e : Env) (c : Core) (o : OpeningId) (i : SlotId) (x : Slot) (target : Nat) (start above : Bool),
    unsentDrive e c o target start i x →
    (above = true ↔ ((c.live o).position = .unknown ∧ 0 < target) ∨
      ∃ p : Nat, (c.live o).position = .percent p ∧ p < target) →
    (e.lockedOut o = false → look e.latches o = false ∨ above = false → c.recheckDrive e o = c) ∧
    (e.lockedOut o = true ∨ (look e.latches o = true ∧ above = true) →
      (start = true → startWithdrawn e o i x c (c.recheckDrive e o)) ∧
      (start = false → (c.live o).state = .driving →
        stopAsked e o i x (c.live o) (if e.lockedOut o then .lockout else .retarget) (c.recheckDrive e o)))) ∧
  ∀ (g : Segment) (s : State) (t : Transaction) (r : NodeReply) (o : OpeningId) (i : SlotId) (x : Slot) (l : Live)
    (target : Nat) (v : Speed) (start : Bool) (out : DriveOutcome), s.inReset = false →
    (s.core.segments.get g).inFlight = some t → t.body = .drive target v start → t.leftover = false →
    t.address = r.address → r.ability = none → t.opening = o → s.env.segment o = g →
    s.core.pendingOf s.env o 1 = none → s.core.slotOf o = some i → look s.core.slots i = some x →
    l = { s.core.live o with locked := storedLock (s.core.live o) r.locked
                             position := storedPosition (s.core.live o).ability r.position } →
    out = judgedOutcome l x r.locked r.outcome →
    ∃ u : State, exec (.nodeReply g r) s = .next u.settled ∧ (u.core.segments.get g).inFlight = none ∧
      (l.state = .driving → r.answer = .ack → outcomeTaken s.env o i l out u.core ∧
        (out = .none → u.core.live o = l ∧
          (start = true → look u.core.slots i =
            some { x with phase := .running, progressPoll := some ⟨s.clock, 1000⟩ }) ∧
          (start = false → x.phase = .running →
            look u.core.slots i = some { x with progressPoll := some ⟨s.clock, 1000⟩ }))) ∧
      (l.state = .driving → r.answer = .nak →
        (start = true → look u.core.slots i = none ∧ u.core.walkTriggered = true ∧
          failureTaken s.env o .failedStart l u.core) ∧
        (start = false → stopAsked s.env o i x l .retarget u.core)) ∧
      ∀ cause : StopCause, l.state = .stopping → l.stopCause = some cause →
        (out = .none → r.answer = .ack → u.core.live o = l ∧ look u.core.slots i = some x ∧
          u.core.pendingOf s.env o 0 = s.core.pendingOf s.env o 0) ∧
        (out ≠ .none → r.answer = .ack ∨ start = false → stopConfirmed s o i x l cause out u.core) ∧
        (r.answer = .nak → start = true → stopConfirmed s o i x l cause .none u.core) ∧
        (out = .none → r.answer = .nak → start = false → look u.core.slots i = some x ∧
          u.core.live o = { l with stopCause := some (cause.overtake .retarget) })

/-- R15's table of pending stop causes; an outcome as the slot takes it, where REACHED fails the position or the lock
test or a drive toward open reports OBSTRUCTED; R16's table of the state a confirmed stop leads to, a completion with
its four effects under every cause (R99); what a failure costs, up to FAULTED at the third. An ACK to the STOP of a
STOPPING opening confirms the stop: its slot is freed, with a start walk triggered, and R16's table decides; a progress
POLL answered STALLED or OBSTRUCTED frees the slot and is a failure (R8, R10, R15 to R17, R97, R99 to R101, R107 to
R112, R114). -/
def Obligations.StopCausesOvertake : Prop :=
  ((∀ r : StopCause, StopCause.overtake .lockout r = .lockout) ∧
    (∀ r : StopCause, StopCause.overtake .cutoff r = if r = .lockout then .lockout else .cutoff) ∧
    ∀ h r : StopCause, h = .retarget ∨ h = .shed ∨ h = .hold → h.overtake r = r) ∧
  (∀ (l : Live) (x : Slot) (locked : Option Bool),
    (l.position.reached x.target = true → (x.direction = .toClose → x.target = 0 →
        (∃ a : Ability, l.ability = some a ∧ a.lockContact = true) → locked = some true) →
      judgedOutcome l x locked .reached = .reached) ∧
    (l.position.reached x.target = false ∨ (x.direction = .toClose ∧ x.target = 0 ∧
        (∃ a : Ability, l.ability = some a ∧ a.lockContact = true) ∧ locked ≠ some true) →
      judgedOutcome l x locked .reached = .none) ∧
    (x.direction = .toOpen → judgedOutcome l x locked .obstructed = .stalled) ∧
    (x.direction = .toClose → judgedOutcome l x locked .obstructed = .obstructed) ∧
    judgedOutcome l x locked .stalled = .stalled ∧ judgedOutcome l x locked .none = .none) ∧
  (∀ (e : Env) (o : OpeningId) (f : Failure) (c : Core), failureTaken e o f (c.live o) (c.takeFailure e o f)) ∧
  (∀ (e : Env) (o : OpeningId) (cls : JobClass) (c : Core) (l done : Live), l = c.live o →
    done = { l with failureCount := 0, drivesCompleted := l.drivesCompleted.bump } →
    retargetDone e o l (c.settleStop e o .retarget cls .none) ∧
    failureTaken e o .cutOff l (c.settleStop e o .cutoff cls .none) ∧
    c.settleStop e o .lockout cls .none = { c with openings := put c.openings o l.barred } ∧
    (∀ r : StopCause, r = .shed ∨ r = .hold → requeued e o cls l c (c.settleStop e o r cls .none)) ∧
    (∀ r : StopCause, o ∈ (c.settleStop e o r cls .reached).resolveSet ∧
      ((c.settleStop e o r cls .reached).live o).failureCount = 0 ∧
      ((c.settleStop e o r cls .reached).live o).drivesCompleted = l.drivesCompleted.bump) ∧
    retargetDone e o done (c.settleStop e o .retarget cls .reached) ∧
    (c.settleStop e o .lockout cls .reached).live o = done.barred ∧
    (∀ r : StopCause, r ≠ .retarget → r ≠ .lockout → (c.settleStop e o r cls .reached).live o = done.idled) ∧
    (c.settleStop e o .lockout cls .stalled).live o = { l with cutOffs := l.cutOffs.bump }.barred ∧
    (c.settleStop e o .lockout cls .obstructed).live o = { l with obstructions := l.obstructions.bump }.barred ∧
    ∀ r : StopCause, r ≠ .lockout → failureTaken e o .cutOff l (c.settleStop e o r cls .stalled) ∧
      failureTaken e o .obstruction l (c.settleStop e o r cls .obstructed)) ∧
  ∀ (g : Segment) (s : State) (t : Transaction) (r : NodeReply) (i : SlotId) (x : Slot) (l : Live),
    s.inReset = false → (s.core.segments.get g).inFlight = some t → t.leftover = false → t.address = r.address →
    r.ability = none → s.env.segment t.opening = g → s.core.pendingOf s.env t.opening 1 = none →
    s.core.slotOf t.opening = some i → look s.core.slots i = some x →
    l = { s.core.live t.opening with
      locked := storedLock (s.core.live t.opening) r.locked
      position := storedPosition (s.core.live t.opening).ability r.position } →
    (∀ cause : StopCause, t.body = .stop → r.answer = .ack → l.state = .stopping → l.stopCause = some cause →
      ∃ (u : State) (c : Core), exec (.nodeReply g r) s = .next u.settled ∧
        u.core = c.settleStop s.env t.opening cause (l.jobClass.getD x.cls) (judgedOutcome l x r.locked r.outcome) ∧
        look c.slots i = none ∧ c.live t.opening = l ∧ c.walkTriggered = true ∧ c.queue = s.core.queue ∧
        c.resolveSet = s.core.resolveSet ∧ c.notices = s.core.notices ∧
        ∀ q : OpeningId, q ≠ t.opening → c.live q = s.core.live q) ∧
    ∀ f : Failure, t.body = .progressPoll → l.state = .driving →
      (f = .cutOff → judgedOutcome l x r.locked r.outcome = .stalled) →
      (f = .obstruction → judgedOutcome l x r.locked r.outcome = .obstructed) → f ≠ .failedStart →
      ∃ u : State, exec (.nodeReply g r) s = .next u.settled ∧ look u.core.slots i = none ∧
        failureTaken s.env t.opening f l u.core ∧ u.core.walkTriggered = true ∧ u.core.queue = s.core.queue

/-- A rest's or a dwell's expiry makes the opening IDLE and places it in the set. A run limit's expiry stops a DRIVING
opening with cause CUTOFF and asks for its STOP, and changes the pending cause of a STOPPING one by R15; an orphan
hold's end empties the slot, with a start walk triggered. Each is taken at its timer's moment (log entry 1; R12, R96,
R105, R111, R112, R117). -/
def Obligations.SupervisorTimersExpire : Prop :=
  (∀ (s : State) (o : OpeningId) (f : Timer), s.inReset = false →
    ((s.core.live o).restTimer = some f → exec (.restTimerExpiry o) s =
      .next ((((s.atMoment (f.start + f.length)).withLive o (s.core.live o).idled).joining o).settled)) ∧
    ((s.core.live o).dwellTimer = some f → exec (.dwellTimerExpiry o) s =
      .next ((((s.atMoment (f.start + f.length)).withLive o (s.core.live o).idled).joining o).settled))) ∧
  (∀ (s : State) (i : SlotId) (x : Slot), s.inReset = false → look s.core.slots i = some x →
    (x.runTimer = true → (s.core.live x.opening).state = .stopping →
      ∃ u : State, exec (.runLimitExpiry i) s = .next u.settled ∧ u.clock = max s.clock x.runDeadline ∧
        look u.core.slots i = some { x with runTimer := false } ∧
        u.core.live x.opening = { s.core.live x.opening with
          stopCause := (s.core.live x.opening).stopCause.map fun h => h.overtake .cutoff } ∧
        u.core.segments = s.core.segments ∧ u.core.queue = s.core.queue) ∧
    (x.runTimer = true → (s.core.live x.opening).state = .driving → s.core.slotOf x.opening = some i →
      s.core.startUnsent s.env x.opening = false →
      ∃ u : State, exec (.runLimitExpiry i) s = .next u.settled ∧
        u.core.live x.opening = { s.core.live x.opening with state := .stopping, stopCause := some .cutoff } ∧
        (u.core.pendingOf s.env x.opening 0).isSome = true ∧ u.core.queue = s.core.queue ∧
        look u.core.slots i =
          some { x with runTimer := false, phase := .stopping, stopNaks := 0, progressPoll := none }) ∧
    ∀ t : Nat, x.orphanEnd = some t →
      ∃ u : State, exec (.orphanHoldEnd i) s = .next u.settled ∧ u.clock = max s.clock t ∧
        look u.core.slots i = none ∧ (∀ j : SlotId, j ≠ i → look u.core.slots j = look s.core.slots j) ∧
        u.core.walkTriggered = true ∧ (u.core.live x.opening).state = (s.core.live x.opening).state ∧
        u.core.notices = s.core.notices ∧ u.core.queue = s.core.queue)

/-! ### Segments -/

/-- The turnaround's end frees the line at its moment (log entry 1); the last byte of a frame begins its first reply
window of 20 ms; a BUSY below the ninth restarts the window and leaves the node's count, the ninth ends the transaction
in a timeout; a frame that reads as no node frame, or one with a gap, is discarded, and so is a reply or a BUSY that
answers no transaction in flight (log entry 39; R121, R122, R124, R125). -/
def Obligations.LineEventsOfASegment : Prop :=
  ∀ (g : Segment) (s : State), s.inReset = false →
    (∀ f : Timer, (s.core.segments.get g).turnaround = some f → exec (.turnaroundEnd g) s =
      .next ((s.atMoment (f.start + f.length)).withSegment g
        { s.core.segments.get g with turnaround := none }).settled) ∧
    (∀ t : Transaction, (s.core.segments.get g).inFlight = some t → t.window = none → exec (.nodeFrameSent g) s =
      .next (s.withSegment g
        { s.core.segments.get g with inFlight := some { t with window := some ⟨s.clock, 20⟩ } }).settled) ∧
    (∀ t : Transaction, (s.core.segments.get g).inFlight = some t → t.leftover = false →
      (t.busyCount < 8 → exec (.nodeReplyBusy g t.address) s =
        .next (s.withSegment g { s.core.segments.get g with
          inFlight := some { t with busyCount := t.busyCount + 1, window := some ⟨s.clock, 20⟩ } }).settled) ∧
      (8 ≤ t.busyCount → exec (.nodeReplyBusy g t.address) s =
        .next (s.within fun e c => c.takeTimeout e g t).settled)) ∧
    (∀ (r : NodeReply) (a : NodeAddress),
      (s.core.segments.get g).inFlight = none ∨
        (∃ t : Transaction, (s.core.segments.get g).inFlight = some t ∧
          (t.leftover = true ∨ (t.address ≠ r.address ∧ t.address ≠ a))) →
      exec (.nodeReply g r) s = .next s.settled ∧ exec (.nodeReplyBusy g a) s = .next s.settled) ∧
    ∀ (bytes : List Byte) (gap : Bool), gap = true ∨ readNodeFrame bytes = none →
      exec (.invalidNodeFrame g bytes gap) s = .next s.settled

/-- A good reply to an idle POLL in flight ends the transaction with a turnaround of 2 ms, sets the node's count to 0, and
stores position and lock. An IDLE opening whose stored position has left the one stored before it, an UNKNOWN one with
any reply, joins the pending-resolution set (log entry 25); no other opening joins. MOVING starts the follow-poll timer
for 1 s, STILL stops it (R8, R10, R121, R125, R127, R132). -/
def Obligations.IdlePollReplyIsStored : Prop :=
  ∀ (g : Segment) (s : State) (t : Transaction) (r : NodeReply) (l : Live), s.inReset = false →
    (s.core.segments.get g).inFlight = some t → t.body = .idlePoll → t.leftover = false → t.address = r.address →
    r.ability = none → s.env.segment t.opening = g → s.core.pendingOf s.env t.opening 1 = none →
    l = s.core.live t.opening →
    ∃ u : State, exec (.nodeReply g r) s = .next u.settled ∧ (u.core.segments.get g).inFlight = none ∧
      (u.core.segments.get g).turnaround = some ⟨s.clock, 2⟩ ∧
      look (u.core.segments.get g).counts t.address = 0 ∧
      u.core.live t.opening = { l with locked := storedLock l r.locked
                                       position := storedPosition l.ability r.position
                                       followPoll := if r.moving = true then some ⟨s.clock, 1000⟩ else none } ∧
      (∀ q : OpeningId, q ∈ u.core.resolveSet ↔ q ∈ s.core.resolveSet ∨ (q = t.opening ∧ l.state = .idle ∧
        (l.position = .unknown ∨ ∃ p : Nat, l.position = .percent p ∧
          (storedPosition l.ability r.position).reached p = false))) ∧
      (∀ q : OpeningId, q ≠ t.opening → u.core.live q = s.core.live q) ∧ u.core.slots = s.core.slots ∧
      u.core.queue = s.core.queue ∧ u.core.notices = s.core.notices

/-- A progress POLL answered REACHED at the slot's target completes the drive: the slot empty, the opening IDLE with
failure count 0 and one more completed drive, in the set, and a start walk triggered. A drive of direction CLOSE to 0 on
an opening with a lock contact completes only where locked = yes is reported; without it position and lock are stored,
the drive runs on, and a RUNNING slot is polled again in 1 s (R98 to R100, R130). -/
def Obligations.ReachedCompletesTheDrive : Prop :=
  ∀ (g : Segment) (s : State) (t : Transaction) (r : NodeReply) (i : SlotId) (x : Slot) (lockWanted : Prop),
    s.inReset = false → (s.core.segments.get g).inFlight = some t → t.body = .progressPoll → t.leftover = false →
    t.address = r.address → r.ability = none → s.env.segment t.opening = g →
    s.core.pendingOf s.env t.opening 1 = none → (s.core.live t.opening).state = .driving →
    s.core.slotOf t.opening = some i → look s.core.slots i = some x → r.outcome = .reached →
    (storedPosition (s.core.live t.opening).ability r.position).reached x.target = true →
    (lockWanted ↔ x.direction = .toClose ∧ x.target = 0 ∧
      ∃ a : Ability, (s.core.live t.opening).ability = some a ∧ a.lockContact = true) →
    ∃ u : State, exec (.nodeReply g r) s = .next u.settled ∧
      (∀ q : OpeningId, q ≠ t.opening → u.core.live q = s.core.live q) ∧ u.core.queue = s.core.queue ∧
      (¬ lockWanted ∨ r.locked = some true → look u.core.slots i = none ∧
        (u.core.live t.opening).state = .idle ∧ (u.core.live t.opening).failureCount = 0 ∧
        (u.core.live t.opening).drivesCompleted = (s.core.live t.opening).drivesCompleted.bump ∧
        (u.core.live t.opening).jobClass = none ∧ t.opening ∈ u.core.resolveSet ∧ u.core.walkTriggered = true) ∧
      (lockWanted → r.locked ≠ some true →
        u.core.live t.opening = { s.core.live t.opening with
          locked := storedLock (s.core.live t.opening) r.locked
          position := storedPosition (s.core.live t.opening).ability r.position } ∧
        u.core.resolveSet = s.core.resolveSet ∧
        (x.phase = .running → look u.core.slots i = some { x with progressPoll := some ⟨s.clock, 1000⟩ }))

/-- A reply window's expiry ends its transaction in a timeout. The reply window of an idle POLL expires for the first or
second time in a row: the count rises by 1, and no record changes. Below the third a start DRIVE's timeout is a failed
start, a re-drive's stops the drive with cause RETARGET (log entry 17 where it is STOPPING already), a STOP is asked for
again, a progress POLL waits for its timer, and an ENROLL is asked for again, its opening keeping its place in the resync
list; one left with neither purpose is not (log entry 46). The third timeout in a row declares the node LOST and orphans
its slot, and so does the third NAK to one STOP, an earlier one asking for the STOP again. A timeout to a LOST opening
counts nothing and begins its re-probe timer. Each is taken at the window's end (log entry 1; R18, R22, R89, R94, R97,
R116, R126 to R130). -/
def Obligations.SilenceIsCounted : Prop :=
  (∀ (g : Segment) (s : State) (t : Transaction) (f : Timer), s.inReset = false →
    (s.core.segments.get g).inFlight = some t → t.window = some f → t.body = .idlePoll → t.leftover = false →
    s.env.segment t.opening = g → (s.env.com t.opening).node = t.address → (s.core.live t.opening).state = .idle →
    s.core.slotOf t.opening = none →
    ∃ u : State, exec (.replyWindowExpiry g) s = .next u.settled ∧ (u.core.segments.get g).inFlight = none ∧
      u.clock = max s.clock (f.start + f.length) ∧
      (look (s.core.segments.get g).counts t.address + 1 < 3 →
        look (u.core.segments.get g).counts t.address = look (s.core.segments.get g).counts t.address + 1 ∧
        u.core.openings = s.core.openings ∧ u.core.notices = s.core.notices) ∧
      (3 ≤ look (s.core.segments.get g).counts t.address + 1 →
        look (u.core.segments.get g).counts t.address = 3 ∧ (u.core.live t.opening).state = .lost ∧
        (u.core.live t.opening).position = .unknown ∧ (u.core.live t.opening).linkDropped = true ∧
        (u.core.live t.opening).failureCount = (s.core.live t.opening).failureCount ∧
        (∀ p : Role, hasKind (u.core.notices.ports.get p).latch .nodeLost = true) ∧
        ∀ q : OpeningId, q ≠ t.opening → u.core.live q = s.core.live q)) ∧
  (∀ (g : Segment) (s : State) (t : Transaction) (f : Timer) (o : OpeningId) (l : Live) (n : Nat), s.inReset = false →
    (s.core.segments.get g).inFlight = some t → t.window = some f → t.leftover = false → t.opening = o →
    s.env.segment o = g → (s.env.com o).node = t.address → l = s.core.live o →
    n = look (s.core.segments.get g).counts t.address + 1 →
    ∃ u : State, exec (.replyWindowExpiry g) s = .next u.settled ∧ (u.core.segments.get g).inFlight = none ∧
      u.clock = max s.clock (f.start + f.length) ∧
      (u.core.segments.get g).turnaround = some ⟨u.clock, 2⟩ ∧
      (l.state = .lost → u.core.live o = { l with reProbe := some ⟨u.clock, 10000⟩ } ∧
        (u.core.segments.get g).counts = (s.core.segments.get g).counts ∧ u.core.slots = s.core.slots ∧
        u.core.notices = s.core.notices ∧
        ∀ single probe : Bool, t.body = .enroll true single probe → o ∉ (u.core.segments.get g).resync) ∧
      (l.state ≠ .lost → n < 3 → look (u.core.segments.get g).counts t.address = n ∧
        (∀ (a : Nat) (v : Speed) (i : SlotId) (x : Slot), s.core.slotOf o = some i → look s.core.slots i = some x →
          (t.body = .drive a v true →
            (l.state = .driving → look u.core.slots i = none ∧ u.core.walkTriggered = true ∧
              failureTaken u.env o .failedStart l u.core) ∧
            (l.state = .stopping → u.core.live o = l ∧ look u.core.slots i = some x ∧
              u.core.pendingOf s.env o 0 = s.core.pendingOf s.env o 0)) ∧
          (t.body = .drive a v false →
            (l.state = .driving → s.core.startUnsent s.env o = false → stopAsked s.env o i x l .retarget u.core) ∧
            ∀ cause : StopCause, l.state = .stopping → l.stopCause = some cause →
              u.core.live o = { l with stopCause := some (cause.overtake .retarget) }) ∧
          (t.body = .progressPoll → u.core.openings = s.core.openings ∧
            (x.phase = .running → look u.core.slots i = some { x with progressPoll := some ⟨u.clock, 1000⟩ }))) ∧
        (t.body = .stop → l.state = .stopping → (u.core.pendingOf s.env o 0).isSome = true ∧
          u.core.openings = s.core.openings ∧ u.core.slots = s.core.slots) ∧
        ∀ pass single probe : Bool, t.body = .enroll pass single probe → u.core.openings = s.core.openings ∧
          u.core.slots = s.core.slots ∧ (u.core.segments.get g).resync = (s.core.segments.get g).resync ∧
          (pass = true ∨ single = true → (u.core.pendingOf s.env o 3).isSome = true) ∧
          (pass = false → single = false → u.core.pendingOf s.env o 3 = s.core.pendingOf s.env o 3)) ∧
      (l.state ≠ .lost → 3 ≤ n → nodeLost s g o l u.clock u.core ∧
        (s.core.slotOf o = none → u.core.slots = s.core.slots) ∧
        ∀ (i : SlotId) (x : Slot), s.core.slotOf o = some i → look s.core.slots i = some x →
          slotOrphaned i x u.clock u.core)) ∧
  ∀ (g : Segment) (s : State) (t : Transaction) (r : NodeReply) (o : OpeningId) (i : SlotId) (x : Slot) (l : Live),
    s.inReset = false → (s.core.segments.get g).inFlight = some t → t.body = .stop → t.leftover = false →
    t.address = r.address → (s.env.com o).node = t.address → r.ability = none → t.opening = o → s.env.segment o = g →
    s.core.pendingOf s.env o 1 = none → s.core.slotOf o = some i → look s.core.slots i = some x →
    l = { s.core.live o with locked := storedLock (s.core.live o) r.locked
                             position := storedPosition (s.core.live o).ability r.position } →
    l.state = .stopping → r.answer = .nak → judgedOutcome l x r.locked r.outcome = .none →
    ∃ u : State, exec (.nodeReply g r) s = .next u.settled ∧
      (x.stopNaks + 1 < 3 → u.core.live o = l ∧ look u.core.slots i = some { x with stopNaks := x.stopNaks + 1 } ∧
        (u.core.pendingOf s.env o 0).isSome = true) ∧
      (3 ≤ x.stopNaks + 1 → nodeLost s g o l s.clock u.core ∧
        slotOrphaned i { x with stopNaks := x.stopNaks + 1 } s.clock u.core)

/-- The ability checks of R134, in order: a kind other than the commissioned one, a rated current of 0.0 A or above
6.0 A, a stroke time below 5 s (a byte is never above 255). An ACK to an ENROLL with an ability that passes stores
ability, position and lock: UNENROLLED and LOST become IDLE, IDLE and QUEUED join the pending-resolution set, RESTING,
DWELL and LOCKED_OUT stay; one that fails makes the opening FAULTED with the reason, no ability and no job,
OPENING_FAULTED on all ports; a NAK of an UNENROLLED or LOST opening starts its retry of 10 s. For a DRIVING, STOPPING,
ABSENT or FAULTED opening, and a LOST one with an orphan slot, position and lock alone are stored. The end of a pass
ENROLL takes the opening off the resync list (R5, R8, R10, R19, R129, R133 to R136). Three clauses are the model's own
reading: a locked field that is absent stays absent where the reply carries no locked value (log entry 20), the opening
made FAULTED keeps no pending request (log entry 33), and an accepted ENROLL stops the retry of an UNENROLLED opening
(log entry 48). -/
def Obligations.AbilityChecksInOrder : Prop :=
  (∀ (kind : Kind) (a : AbilityReport),
    (a.kind ≠ kind → refusalOf kind a = some .kindMismatch) ∧
    (a.kind = kind → (a.rated.toNat = 0 ∨ 60 < a.rated.toNat) → refusalOf kind a = some .rating) ∧
    (a.kind = kind → a.rated.toNat ≠ 0 → a.rated.toNat ≤ 60 → a.stroke.toNat < 5 → refusalOf kind a = some .rating) ∧
    (a.kind = kind → a.rated.toNat ≠ 0 → a.rated.toNat ≤ 60 → 5 ≤ a.stroke.toNat → refusalOf kind a = none)) ∧
  ∀ (g : Segment) (s : State) (t : Transaction) (r : NodeReply) (o : OpeningId) (pass single probe : Bool)
    (l stored : Live), s.inReset = false → (s.core.segments.get g).inFlight = some t →
    t.body = .enroll pass single probe → t.leftover = false → t.address = r.address → t.opening = o →
    s.env.segment o = g → s.core.pendingOf s.env o 1 = none → l = s.core.live o →
    stored = { l with locked := storedLock l r.locked, position := storedPosition l.ability r.position } →
    (r.ability.isSome = true ↔ r.answer = .ack) → ∃ u : State, exec (.nodeReply g r) s = .next u.settled ∧
      (u.core.segments.get g).inFlight = none ∧ look (u.core.segments.get g).counts t.address = 0 ∧
      (l.state = .driving ∨ l.state = .stopping ∨ l.state = .absent ∨ l.state = .faulted ∨
          (l.state = .lost ∧ s.core.orphaned o = true) →
        u.core.live o = stored ∧ u.core.resolveSet = s.core.resolveSet ∧ u.core.queue = s.core.queue) ∧
      (l.state ≠ .driving → l.state ≠ .stopping → l.state ≠ .absent → l.state ≠ .faulted →
        (l.state = .lost → s.core.orphaned o = false) →
        (pass = true → o ∉ (u.core.segments.get g).resync) ∧
        (r.answer = .nak → u.core.live o = { stored with reProbe :=
          if l.state = .unenrolled ∨ l.state = .lost then some ⟨s.clock, 10000⟩ else l.reProbe }) ∧
        ∀ (a : AbilityReport) (b : Ability) (now : Live), r.ability = some a →
          b = ⟨a.stroke.toNat, a.rated.toNat, a.sense, a.lockContact, a.quiet⟩ →
          now = { l with ability := some b, reProbe := none, reProbeHeld := false
                         locked := if b.lockContact = true then r.locked.or l.locked else none
                         position := storedPosition (some b) r.position } →
          (refusalOf (s.env.com o).kind a = none →
            (l.state = .unenrolled ∨ l.state = .lost → u.core.live o = now.idled ∧ o ∈ u.core.resolveSet) ∧
            (l.state = .idle ∨ l.state = .queued → u.core.live o = now ∧ o ∈ u.core.resolveSet) ∧
            (l.state = .resting ∨ l.state = .dwell ∨ l.state = .lockedOut →
              u.core.live o = now ∧ u.core.resolveSet = s.core.resolveSet)) ∧
          ∀ reason : FaultReason, refusalOf (s.env.com o).kind a = some reason →
            (u.core.live o).state = .faulted ∧ (u.core.live o).faultReason = some reason ∧
            (u.core.live o).ability = none ∧ (u.core.live o).locked = none ∧ (u.core.live o).target = none ∧
            (u.core.live o).jobClass = none ∧ (u.core.live o).failureCount = l.failureCount ∧
            (u.core.live o).position = storedPosition none r.position ∧ (∀ j ∈ u.core.queue, j.opening ≠ o) ∧
            (∀ q ∈ (u.core.segments.get g).requests, q.opening ≠ o) ∧
            ∀ p : Role, hasKind (u.core.notices.ports.get p).latch .openingFaulted = true)

/-- The progress-poll timer's expiry asks for a progress POLL; a round restarts for 30 s at its moment (log entry 1) and
asks for an idle POLL of each present opening of its segment that is enrolled, IDLE, RESTING, DWELL or LOCKED_OUT and
not in the resync list, and of no other; the follow-poll timer's expiry asks for its POLL. A re-probe falls due as an
ENROLL, or is held back behind an orphan slot; an enrollment retry asks for the ENROLL of an UNENROLLED opening (R117,
R129 to R133). -/
def Obligations.PollAndProbeTimersAsk : Prop :=
  (∀ (s : State) (o : OpeningId) (g : Segment) (i : SlotId) (x : Slot) (f : Timer), s.inReset = false →
    (look s.core.slots i = some x → x.progressPoll = some f →
      ∃ u : State, exec (.progressPollTimerExpiry i) s = .next u.settled ∧
        (u.core.pendingOf s.env x.opening 2).isSome = true ∧
        look u.core.slots i = some { x with progressPoll := none } ∧ u.core.openings = s.core.openings) ∧
    ((s.core.segments.get g).roundTimer = some f →
      ∃ u : State, exec (.idlePollRound g) s = .next u.settled ∧
        (u.core.segments.get g).roundTimer = some ⟨max s.clock (f.start + f.length), 30000⟩ ∧
        u.core.openings = s.core.openings ∧ u.core.slots = s.core.slots ∧
        ∀ q : OpeningId, s.env.segment q = g →
          (polledInRound s g q → (u.core.pendingOf s.env q 4).isSome = true) ∧
          (¬ polledInRound s g q → u.core.pendingOf s.env q 4 = s.core.pendingOf s.env q 4)) ∧
    ((s.core.live o).followPoll = some f →
      ∃ u : State, exec (.followPollTimerExpiry o) s = .next u.settled ∧
        (u.core.pendingOf s.env o 4).isSome = true ∧
        u.core.live o = { s.core.live o with followPoll := none } ∧ u.core.slots = s.core.slots)) ∧
  (∀ (s : State) (o : OpeningId) (f : Timer), s.inReset = false → (s.core.live o).reProbe = some f →
    ((s.core.live o).state = .lost →
      ∃ u : State, exec (.reProbeTimerExpiry o) s = .next u.settled ∧ (u.core.live o).reProbe = none ∧
        (s.core.orphaned o = true → (u.core.live o).reProbeHeld = true ∧ u.core.segments = s.core.segments) ∧
        (s.core.orphaned o = false → (u.core.pendingOf s.env o 3).isSome = true) ∧ u.core.slots = s.core.slots) ∧
    ((s.core.live o).state = .unenrolled →
      ∃ u : State, exec (.enrollmentRetry o) s = .next u.settled ∧
        (u.core.pendingOf s.env o 3).isSome = true ∧ u.core.live o = { s.core.live o with reProbe := none } ∧
        u.core.slots = s.core.slots))

/-! ### Holds and supply -/

/-- HOLDREQ: a raw level opposite the filtered one starts the 10 ms filter where it is stopped; a filtered assertion of
an OWNED segment below CLOSE_ALL begins RELEASING with a HOLD stop request for every drive of the segment, no orphan and
no slot of the other segment touched; a filtered deassertion in GRANTED releases the segment into RETURNING with
HOLDGRANT and RECLAIM deasserted. A rise to CLOSE_ALL abandons a release, back to OWNED with a start walk and the stops
already requested standing, and starts the reclaim timer of a grant; a descent from it stops that timer, and a request
that stands in OWNED begins RELEASING (R91, R96, R143 to R145, R147, R150, R152). -/
def Obligations.HoldRequestsAreFiltered : Prop :=
  (∀ (g : Segment) (raw : Bool) (f : Timer) (s : State), s.inReset = false →
    (∃ t : State, exec (.holdreqChange g raw) s = .next t ∧ t.inputs.holdreq.get g = raw ∧
      (t.core.holds.get g).filtered = (s.core.holds.get g).filtered ∧
      (raw = (s.core.holds.get g).filtered → (t.core.holds.get g).filterTimer = none) ∧
      (raw ≠ (s.core.holds.get g).filtered → (s.core.holds.get g).filterTimer = none →
        (t.core.holds.get g).filterTimer = some ⟨s.clock, 10⟩) ∧
      t.core.slots = s.core.slots ∧ t.core.openings = s.core.openings ∧ t.work = s.work) ∧
    ((s.core.holds.get g).filterTimer = some f → (s.core.holds.get g).filtered = false →
      (s.core.holds.get g).state = .owned → (s.core.holds.get g).rearm = false → s.weather.level ≠ .closeAll →
      ∃ u : State, exec (.holdreqFilterExpiry g) s = .next u.settled ∧ (u.core.holds.get g).state = .releasing ∧
        (u.core.holds.get g).filtered = true ∧
        (DrivesWf s → ∀ (i : SlotId) (x : Slot), look s.core.slots i = some x →
          (s.env.segment x.opening = g → x.phase ≠ .orphan → heldDrive s i x (s.core.live x.opening) u.core) ∧
          (s.env.segment x.opening ≠ g ∨ x.phase = .orphan →
            look u.core.slots i = some x ∧ u.core.live x.opening = s.core.live x.opening))) ∧
    ((s.core.holds.get g).filterTimer = some f → (s.core.holds.get g).filtered = true →
      (s.core.holds.get g).state = .granted →
      ∃ u : State, exec (.holdreqFilterExpiry g) s = .next u.settled ∧ (u.core.holds.get g).state = .returning ∧
        (u.core.holds.get g).filtered = false ∧ (u.core.holds.get g).rearm = false ∧
        (u.core.holds.get g).grantLine = false ∧ (u.core.holds.get g).reclaimLine = false ∧
        (u.core.holds.get g).reclaimTimer = none ∧
        ∀ p : Role, hasKind (u.core.notices.ports.get p).latch .holdChanged = true ∧
          (u.core.notices.ports.get p).details.hold.get g = some .released)) ∧
  ∀ (e : Env) (g : Segment) (k : Sky) (h : Hold), h = k.core.holds.get g →
    (k.weather.level ≠ .closeAll → riseTarget e.work.settings k.weather = .closeAll →
      (h.state = .releasing → (k.evaluate e).core.holds.get g = { h with state := .owned } ∧
        (k.evaluate e).core.walkTriggered = true) ∧
      (h.state = .granted → (k.evaluate e).core.holds.get g =
        { h with reclaimTimer := some ⟨e.now, e.work.settings.reclaimTimeout * 1000⟩ }) ∧
      (h.state = .owned ∨ h.state = .returning → (k.evaluate e).core.holds.get g = h)) ∧
    (h.state = .releasing → (k.core.segments.get g).pass ≠ .due → k.core.holdAtCloseAll e g =
      { k.core with holds := k.core.holds.set g { h with state := .owned }, walkTriggered := true }) ∧
    (k.weather.level = .closeAll →
      (h.state = .granted →
        (k.changeLevel e .closeExposed).core.holds.get g = { h with reclaimTimer := none }) ∧
      (h.state = .owned → h.filtered = true → h.rearm = false →
        (k.changeLevel e .closeExposed).core.holds.get g = { h with state := .releasing }))

/-- A release complete while the request stands below CLOSE_ALL is granted: HOLDGRANT asserted, the drivers off, no
request left on the segment, HOLD_CHANGED with GRANTED on all ports. The reclaim timer's expiry revokes a grant into
RETURNING for 50 ms, at its moment (log entry 1). The returning timer's expiry gives OWNED, begins a pass, DUE where the
supply is OUT, and triggers a start walk; a request that stands below CLOSE_ALL begins RELEASING at once (R136, R137,
R140, R144, R146, R148, R151, R152, R183). That the return begins a pass at that moment also where none was left DUE is
the model's own reading (log entry 49). -/
def Obligations.GrantsRevocationsAndReturns : Prop :=
  ∀ (g : Segment) (f : Timer) (s : State), s.inReset = false →
    ((s.core.holds.get g).state = .releasing → s.core.releaseComplete s.env g = true →
      (s.core.holds.get g).filtered = true → (s.core.holds.get g).rearm = false → s.weather.level ≠ .closeAll →
      (s.core.finishRelease s.env g).holds.get g =
        { s.core.holds.get g with state := .granted, grantLine := true, driversOff := true } ∧
      ((s.core.finishRelease s.env g).segments.get g).requests = [] ∧
      ∀ p : Role, hasKind ((s.core.finishRelease s.env g).notices.ports.get p).latch .holdChanged = true ∧
        ((s.core.finishRelease s.env g).notices.ports.get p).details.hold.get g = some .granted) ∧
    ((s.core.holds.get g).reclaimTimer = some f →
      ∃ u : State, exec (.reclaimTimerExpiry g) s = .next u.settled ∧ (u.core.holds.get g).state = .returning ∧
        (u.core.holds.get g).rearm = true ∧ (u.core.holds.get g).grantLine = false ∧
        (u.core.holds.get g).reclaimLine = false ∧
        (u.core.holds.get g).returningTimer = some ⟨max s.clock (f.start + f.length), 50⟩ ∧
        ∀ p : Role, (u.core.notices.ports.get p).details.hold.get g = some .revoked) ∧
    ((s.core.holds.get g).returningTimer = some f →
      ∃ u : State, exec (.returningTimerExpiry g) s = .next u.settled ∧
        (u.core.holds.get g).returningTimer = none ∧ u.core.walkTriggered = true ∧
        ((s.core.holds.get g).filtered = false ∨ (s.core.holds.get g).rearm = true ∨ s.weather.level = .closeAll →
          (u.core.holds.get g).state = .owned ∧
          (s.supply.state ≠ .out → passBegun s g u.core ∧ (u.core.segments.get g).roundTimer =
            some ⟨max s.clock (f.start + f.length), 30000⟩) ∧
          (s.supply.state = .out → (u.core.segments.get g).pass = .due ∧
            (u.core.segments.get g).roundTimer = none)) ∧
        ((s.core.holds.get g).filtered = true → (s.core.holds.get g).rearm = false → s.weather.level ≠ .closeAll →
          (u.core.holds.get g).state = .releasing))

/-- The supply state follows R156, each row of its table as a judgement of the voltage. A measured voltage gives the state
R156 names and, in OUT_PENDING newly entered, a ride-through of 300 ms; the ride-through's expiry enters OUT: every slot
empty, every QUEUED opening at position UNKNOWN (log entry 41), every pending set empty, nothing in flight, the nodes'
counts kept, SUPPLY_CHANGED latched on all ports. The return from OUT gives NORMAL with SUPPLY_CHANGED and a start walk:
on each OWNED segment a turnaround of 2 ms, the round timer begun and a pass begun, on each other one the pass DUE (R125,
R131, R136, R137, R139, R156, R159, R160). That a GRANTED segment's kept requests go with the rest on entry to OUT is the
model's own reading (log entry 51). -/
def Obligations.VoltageAndOutage : Prop :=
  (∀ (r : Settings) (v : Nat), settingsValid r = true →
    (judgeVoltage r v .normal = if v < r.outSet then .outPending else if v < r.sagSet then .sag else .normal) ∧
    (v < r.outSet → judgeVoltage r v .sag = .outPending) ∧ (r.sagRelease < v → judgeVoltage r v .sag = .normal) ∧
    (r.outSet ≤ v → v ≤ r.sagRelease → judgeVoltage r v .sag = .sag) ∧
    (r.sagRelease < v → judgeVoltage r v .outPending = .normal) ∧
    (r.outRelease < v → v ≤ r.sagRelease → judgeVoltage r v .outPending = .sag) ∧
    (v ≤ r.outRelease → judgeVoltage r v .outPending = .outPending) ∧
    (judgeVoltage r v .out = if r.sagRelease < v then .normal else .out)) ∧
  (∀ (v : Nat) (f : Timer) (s : State), s.inReset = false → v ≤ 600 →
    (∃ t : State, exec (.motorVoltageChange v) s = .next t ∧ t.inputs = { s.inputs with voltage := v } ∧
      t.supply.state = judgeVoltage s.work.settings v s.supply.state ∧
      (s.supply.state ≠ .outPending → t.supply.state = .outPending →
        t.supply.rideThrough = some ⟨s.clock, 300⟩) ∧ t.supply.mains = s.supply.mains ∧
      t.work = s.work ∧ t.claims = s.claims ∧ t.weather = s.weather) ∧
    (s.supply.rideThrough = some f → ∃ u : State, exec .rideThroughExpiry s = .next u.settled ∧
      u.supply.state = .out ∧ u.supply.rideThrough = none ∧ u.core.reservationSum = 0 ∧
      (∀ i : SlotId, look u.core.slots i = none) ∧
      (∀ o : OpeningId, (u.core.live o).state = .queued → (u.core.live o).position = .unknown) ∧
      (∀ g : Segment, (u.core.segments.get g).requests = [] ∧ (u.core.segments.get g).inFlight = none ∧
        (u.core.segments.get g).counts = (s.core.segments.get g).counts) ∧
      ∀ p : Role, hasKind (u.core.notices.ports.get p).latch .supplyChanged = true) ∧
    (s.supply.state = .out → s.work.settings.sagRelease < v →
      ∃ u : State, exec (.motorVoltageChange v) s = .next u.settled ∧ u.supply.state = .normal ∧
        u.core.walkTriggered = true ∧
        (∀ p : Role, hasKind (u.core.notices.ports.get p).latch .supplyChanged = true) ∧
        ∀ g : Segment,
          ((s.core.holds.get g).state = .owned → passBegun s g u.core ∧
            (u.core.segments.get g).turnaround = some ⟨s.clock, 2⟩ ∧
            (u.core.segments.get g).roundTimer = some ⟨s.clock, 30000⟩) ∧
          ((s.core.holds.get g).state ≠ .owned →
            (u.core.segments.get g).pass = .due ∧ (u.core.segments.get g).resync = [])))

/-- The mains line is filtered for 1 s; the expiry changes the mains state and with it the budget in force, latches
SUPPLY_CHANGED on all ports and triggers a start walk; no slot is freed (R161, R162). -/
def Obligations.MainsChangesTheBudget : Prop :=
  ∀ (raw : MainsState) (f : Timer) (s : State), s.inReset = false →
    (∃ t : State, exec (.mainsLineChange raw) s = .next t ∧ t.supply.mains = s.supply.mains ∧
      (raw = s.supply.mains → t.supply.mainsFilter = none) ∧
      (raw ≠ s.supply.mains → s.supply.mainsFilter = none → t.supply.mainsFilter = some ⟨s.clock, 1000⟩) ∧
      t.core = s.core ∧ t.work = s.work) ∧
    (s.supply.mainsFilter = some f → ∃ t : State, exec .mainsFilterExpiry s = .next t ∧
      t.supply.mains ≠ s.supply.mains ∧ t.supply.mainsFilter = none ∧
      t.budget = (if t.supply.mains = .mains then s.work.settings.mainsBudget else s.work.settings.batteryBudget) ∧
      (∀ p : Role, hasKind (t.core.notices.ports.get p).latch .supplyChanged = true) ∧
      t.core.walkTriggered = true ∧ t.core.slots = s.core.slots ∧ t.core.openings = s.core.openings ∧
      t.core.queue = s.core.queue)

/-- The start pause: from NONE a current at or above the high mark begins a pause of 10 s, at or below the low mark it
ends with a start walk triggered; the limit's expiry gives BARRED with PAUSE_TIMEOUT on all ports and a walk (R164,
R165). -/
def Obligations.StartPause : Prop :=
  ∀ (i : Nat) (f : Timer) (s : State), s.inReset = false → i ≤ 999 →
    (∃ t : State, exec (.measuredCurrentChange i) s = .next t ∧ t.inputs = { s.inputs with current := i } ∧
      (s.supply.pause = .none → s.budget * s.work.settings.highMark ≤ i * 100 →
        t.supply.pause = .paused ∧ t.supply.pauseLimit = some ⟨s.clock, 10000⟩) ∧
      (s.supply.pause = .paused → i * 100 ≤ s.budget * s.work.settings.lowMark →
        t.supply.pause = .none ∧ t.supply.pauseLimit = none ∧ t.core.walkTriggered = true) ∧
      (s.supply.pause = .barred → s.budget * s.work.settings.lowMark < i * 100 → t.supply.pause = .barred) ∧
      t.core.slots = s.core.slots ∧ t.core.openings = s.core.openings ∧ t.core.queue = s.core.queue ∧
      t.work = s.work) ∧
    (s.supply.pauseLimit = some f → ∃ t : State, exec .pauseLimitExpiry s = .next t ∧ t.supply.pause = .barred ∧
      t.supply.pauseLimit = none ∧ t.core.walkTriggered = true ∧
      (∀ p : Role, hasKind (t.core.notices.ports.get p).latch .pauseTimeout = true) ∧
      t.core.slots = s.core.slots ∧ t.core.openings = s.core.openings)

/-- The trip: the timer stops at or below 125 % of the budget and starts for 1 s above it; its expiry restarts it while
the current stays above, and gives the youngest drive, by the start walks (log entry 32), a stop request with cause
SHED; it is taken at the timer's moment (log entry 1; R96, R166, R167). -/
def Obligations.TripSheds : Prop :=
  ∀ (i : Nat) (f : Timer) (s : State), s.inReset = false → i ≤ 999 →
    (∃ t : State, exec (.measuredCurrentChange i) s = .next t ∧ (i * 100 ≤ s.budget * 125 → t.supply.trip = none) ∧
      (s.budget * 125 < i * 100 → s.supply.trip = none → t.supply.trip = some ⟨s.clock, 1000⟩)) ∧
    (s.supply.trip = some f → ∃ u : State, exec .tripTimerExpiry s = .next u.settled ∧
      (s.budget * 125 < s.inputs.current * 100 →
        u.supply.trip = some ⟨max s.clock (f.start + f.length), 1000⟩) ∧
      (s.inputs.current * 100 ≤ s.budget * 125 → u.supply.trip = none) ∧ u.supply.pause = s.supply.pause ∧
      ∀ b : SlotId × Slot, s.core.youngest = some b → s.core.startUnsent s.env b.2.opening = false →
        u.core.live b.2.opening = { s.core.live b.2.opening with state := .stopping, stopCause := some .shed })

/-- What the timed events of one unit leave of the others: the drive events leave the weather and the supply, the weather
events the supply, the supply events the weather, and all of them the queue, the phase, the inputs, the ports, the
store, the working copies and the claims. -/
def Obligations.EventsLeaveTheOtherBlocks : Prop :=
  ∀ (c : Instr) (s : State),
    (driveEvent c = true → ∃ t : State, exec c s = .next t ∧ s.agreesOutside t ∧ t.weather = s.weather ∧
      t.supply = s.supply) ∧
    (weatherEvent c = true → ∃ t : State, exec c s = .next t ∧ s.agreesOutside t ∧ t.supply = s.supply) ∧
    (supplyEvent c = true → ∃ t : State, exec c s = .next t ∧ s.agreesOutside t ∧ t.weather = s.weather)

/-! ### Frames on the lines -/

/-- Every request's frame reads back as itself: its length byte is its length, its CRC-16 matches, its code is known, and
its payload gives the request (R199, R200). -/
def Obligations.RequestFramesReadBack : Prop :=
  ∀ r : MasterRequest, (∀ x : Settings, r = .settingsWrite x → x.fits = true) →
    r.frame[1]? = some (byteOf r.frame.length) ∧ r.frame.length ≤ 49 ∧ frameCrcOk (received r.frame) = true ∧
    knownCode r.code = true ∧ frameParts (received r.frame) = (r.code, r.payload) ∧
    requestOf r.code r.payload = some r

/-- Every node frame reads back as itself: a BUSY, and a good reply with every value of its fields. It ranges also over NAK
replies with an ability, which R203 shuts out and replyFits alone refuses (R121, R203). -/
def Obligations.NodeFramesReadBack : Prop := ∀ f : NodeFrame, readNodeFrame f.bytes = some f

/-! ### Invariants every step keeps -/

/-- Every step keeps the Dynamic Claim Table: ages 0..3, positions 0..100, one entry to a key (R29, R34). -/
def Obligations.StepKeepsTheClaimTable : Prop := ∀ s t : State, ClaimsWf s → step s = .next t → ClaimsWf t

/-- Every step keeps the working copies valid by the tests of R192 (R1, R2, R38, R179). -/
def Obligations.StepKeepsTheWorkingCopiesValid : Prop := ∀ s t : State, WorkWf s → step s = .next t → WorkWf t

/-- Every step keeps the reported sector, the arc and the stability timer in agreement with the vane, and every weather
latch clear at CALM and WATCH (R55, R66, R68, R69). -/
def Obligations.StepKeepsWeatherInAgreement : Prop :=
  (∀ s t : State, SectorWf s → step s = .next t → SectorWf t) ∧
  (∀ s t : State, LatchesWf s → step s = .next t → LatchesWf t)

/-- Every step keeps ATTN as its latch and mask derive it, deasserted in reset, and the building-closed status closed
exactly while every present opening that is not LOCKED_OUT is closed. An event that changes the status latches
BUILDING_CLOSED_CHANGED with the new status on all ports (R182, R183, R185, R189, R190). -/
def Obligations.StepKeepsAttnDerived : Prop :=
  (∀ s t : State, AttnWf s → step s = .next t → AttnWf t) ∧
  (∀ s t : State, BuildingWf s → step s = .next t → BuildingWf t) ∧
  ∀ (s : State) (p : Role), s.settled.core.notices.buildingClosed ≠ s.core.notices.buildingClosed →
    hasKind (s.settled.core.notices.ports.get p).latch .buildingClosedChanged = true ∧
    (s.settled.core.notices.ports.get p).details.building =
      some (if s.settled.core.notices.buildingClosed then .closed else .notClosed)

/-- Every step keeps each hold's outputs and timers in agreement with its state (R142, R148 to R152). -/
def Obligations.StepKeepsHoldOutputs : Prop := ∀ s t : State, HoldsWf s → step s = .next t → HoldsWf t

/-- Every step keeps the queue, the slots and the opening states in agreement, the pending-resolution set strictly
ascending, and the Closure Queue in band order by class, rank and entry mark (R42, R73, R74, R79, R103). -/
def Obligations.StepKeepsDrivesInAgreement : Prop :=
  (∀ s t : State, DrivesWf s → step s = .next t → DrivesWf t) ∧
  ∀ s t : State, OrderWf s → step s = .next t → OrderWf t
end

