-- ==== Sys2Proof/Laws/State.lean ====
section
/-! SUPPORT. One lemma per field per update of a state and of the drive core, each by rfl, so that no proof unfolds a
record update. -/

namespace Sys2Proof.Machine

/-! ### Updates of a state -/

@[simp] theorem State.within_pending (s : State) (f : Env → Core → Core) :
    (s.within f).pending = s.pending := rfl
@[simp] theorem State.within_clock (s : State) (f : Env → Core → Core) :
    (s.within f).clock = s.clock := rfl
@[simp] theorem State.within_phase (s : State) (f : Env → Core → Core) :
    (s.within f).phase = s.phase := rfl
@[simp] theorem State.within_inputs (s : State) (f : Env → Core → Core) :
    (s.within f).inputs = s.inputs := rfl
@[simp] theorem State.within_ports (s : State) (f : Env → Core → Core) :
    (s.within f).ports = s.ports := rfl
@[simp] theorem State.within_store (s : State) (f : Env → Core → Core) :
    (s.within f).store = s.store := rfl
@[simp] theorem State.within_work (s : State) (f : Env → Core → Core) :
    (s.within f).work = s.work := rfl
@[simp] theorem State.within_claims (s : State) (f : Env → Core → Core) :
    (s.within f).claims = s.claims := rfl
@[simp] theorem State.within_weather (s : State) (f : Env → Core → Core) :
    (s.within f).weather = s.weather := rfl
@[simp] theorem State.within_supply (s : State) (f : Env → Core → Core) :
    (s.within f).supply = s.supply := rfl
@[simp] theorem State.within_core (s : State) (f : Env → Core → Core) :
    (s.within f).core = f s.env s.core := rfl
@[simp] theorem State.settled_pending (s : State) :
    (s.settled).pending = s.pending := by unfold State.settled; rfl
@[simp] theorem State.settled_clock (s : State) :
    (s.settled).clock = s.clock := by unfold State.settled; rfl
@[simp] theorem State.settled_phase (s : State) :
    (s.settled).phase = s.phase := by unfold State.settled; rfl
@[simp] theorem State.settled_inputs (s : State) :
    (s.settled).inputs = s.inputs := by unfold State.settled; rfl
@[simp] theorem State.settled_ports (s : State) :
    (s.settled).ports = s.ports := by unfold State.settled; rfl
@[simp] theorem State.settled_store (s : State) :
    (s.settled).store = s.store := by unfold State.settled; rfl
@[simp] theorem State.settled_work (s : State) :
    (s.settled).work = s.work := by unfold State.settled; rfl
@[simp] theorem State.settled_claims (s : State) :
    (s.settled).claims = s.claims := by unfold State.settled; rfl
@[simp] theorem State.settled_weather (s : State) :
    (s.settled).weather = s.weather := by unfold State.settled; rfl
@[simp] theorem State.settled_supply (s : State) :
    (s.settled).supply = s.supply := by unfold State.settled; rfl
@[simp] theorem State.settled_core (s : State) :
    (s.settled).core = s.core.settle s.env := by unfold State.settled; rfl
@[simp] theorem State.onSky_pending (s : State) (f : Env → Sky → Sky) :
    (s.onSky f).pending = s.pending := rfl
@[simp] theorem State.onSky_clock (s : State) (f : Env → Sky → Sky) :
    (s.onSky f).clock = s.clock := rfl
@[simp] theorem State.onSky_phase (s : State) (f : Env → Sky → Sky) :
    (s.onSky f).phase = s.phase := rfl
@[simp] theorem State.onSky_inputs (s : State) (f : Env → Sky → Sky) :
    (s.onSky f).inputs = s.inputs := rfl
@[simp] theorem State.onSky_ports (s : State) (f : Env → Sky → Sky) :
    (s.onSky f).ports = s.ports := rfl
@[simp] theorem State.onSky_store (s : State) (f : Env → Sky → Sky) :
    (s.onSky f).store = s.store := rfl
@[simp] theorem State.onSky_work (s : State) (f : Env → Sky → Sky) :
    (s.onSky f).work = s.work := rfl
@[simp] theorem State.onSky_claims (s : State) (f : Env → Sky → Sky) :
    (s.onSky f).claims = s.claims := rfl
@[simp] theorem State.onSky_weather (s : State) (f : Env → Sky → Sky) :
    (s.onSky f).weather = (f s.env ⟨s.weather, s.core⟩).weather := rfl
@[simp] theorem State.onSky_supply (s : State) (f : Env → Sky → Sky) :
    (s.onSky f).supply = s.supply := rfl
@[simp] theorem State.onSky_core (s : State) (f : Env → Sky → Sky) :
    (s.onSky f).core = (f s.env ⟨s.weather, s.core⟩).core := rfl
@[simp] theorem State.atMoment_pending (s : State) (m : Nat) :
    (s.atMoment m).pending = s.pending := rfl
@[simp] theorem State.atMoment_clock (s : State) (m : Nat) :
    (s.atMoment m).clock = max s.clock m := rfl
@[simp] theorem State.atMoment_phase (s : State) (m : Nat) :
    (s.atMoment m).phase = s.phase := rfl
@[simp] theorem State.atMoment_inputs (s : State) (m : Nat) :
    (s.atMoment m).inputs = s.inputs := rfl
@[simp] theorem State.atMoment_ports (s : State) (m : Nat) :
    (s.atMoment m).ports = s.ports := rfl
@[simp] theorem State.atMoment_store (s : State) (m : Nat) :
    (s.atMoment m).store = s.store := rfl
@[simp] theorem State.atMoment_work (s : State) (m : Nat) :
    (s.atMoment m).work = s.work := rfl
@[simp] theorem State.atMoment_claims (s : State) (m : Nat) :
    (s.atMoment m).claims = s.claims := rfl
@[simp] theorem State.atMoment_weather (s : State) (m : Nat) :
    (s.atMoment m).weather = s.weather := rfl
@[simp] theorem State.atMoment_supply (s : State) (m : Nat) :
    (s.atMoment m).supply = s.supply := rfl
@[simp] theorem State.atMoment_core (s : State) (m : Nat) :
    (s.atMoment m).core = s.core := rfl
@[simp] theorem State.setPort_pending (s : State) (p : Role) (f : Port → Port) :
    (s.setPort p f).pending = s.pending := rfl
@[simp] theorem State.setPort_clock (s : State) (p : Role) (f : Port → Port) :
    (s.setPort p f).clock = s.clock := rfl
@[simp] theorem State.setPort_phase (s : State) (p : Role) (f : Port → Port) :
    (s.setPort p f).phase = s.phase := rfl
@[simp] theorem State.setPort_inputs (s : State) (p : Role) (f : Port → Port) :
    (s.setPort p f).inputs = s.inputs := rfl
@[simp] theorem State.setPort_ports (s : State) (p : Role) (f : Port → Port) :
    (s.setPort p f).ports = s.ports.set p (f (s.ports.get p)) := rfl
@[simp] theorem State.setPort_store (s : State) (p : Role) (f : Port → Port) :
    (s.setPort p f).store = s.store := rfl
@[simp] theorem State.setPort_work (s : State) (p : Role) (f : Port → Port) :
    (s.setPort p f).work = s.work := rfl
@[simp] theorem State.setPort_claims (s : State) (p : Role) (f : Port → Port) :
    (s.setPort p f).claims = s.claims := rfl
@[simp] theorem State.setPort_weather (s : State) (p : Role) (f : Port → Port) :
    (s.setPort p f).weather = s.weather := rfl
@[simp] theorem State.setPort_supply (s : State) (p : Role) (f : Port → Port) :
    (s.setPort p f).supply = s.supply := rfl
@[simp] theorem State.setPort_core (s : State) (p : Role) (f : Port → Port) :
    (s.setPort p f).core = s.core := rfl
@[simp] theorem State.setNotices_pending (s : State) (p : Role) (f : NoticePort → NoticePort) :
    (s.setNotices p f).pending = s.pending := rfl
@[simp] theorem State.setNotices_clock (s : State) (p : Role) (f : NoticePort → NoticePort) :
    (s.setNotices p f).clock = s.clock := rfl
@[simp] theorem State.setNotices_phase (s : State) (p : Role) (f : NoticePort → NoticePort) :
    (s.setNotices p f).phase = s.phase := rfl
@[simp] theorem State.setNotices_inputs (s : State) (p : Role) (f : NoticePort → NoticePort) :
    (s.setNotices p f).inputs = s.inputs := rfl
@[simp] theorem State.setNotices_ports (s : State) (p : Role) (f : NoticePort → NoticePort) :
    (s.setNotices p f).ports = s.ports := rfl
@[simp] theorem State.setNotices_store (s : State) (p : Role) (f : NoticePort → NoticePort) :
    (s.setNotices p f).store = s.store := rfl
@[simp] theorem State.setNotices_work (s : State) (p : Role) (f : NoticePort → NoticePort) :
    (s.setNotices p f).work = s.work := rfl
@[simp] theorem State.setNotices_claims (s : State) (p : Role) (f : NoticePort → NoticePort) :
    (s.setNotices p f).claims = s.claims := rfl
@[simp] theorem State.setNotices_weather (s : State) (p : Role) (f : NoticePort → NoticePort) :
    (s.setNotices p f).weather = s.weather := rfl
@[simp] theorem State.setNotices_supply (s : State) (p : Role) (f : NoticePort → NoticePort) :
    (s.setNotices p f).supply = s.supply := rfl
@[simp] theorem State.sending_pending (s : State) (p : Role) (r : Reply) :
    (s.sending p r).pending = s.pending := rfl
@[simp] theorem State.sending_clock (s : State) (p : Role) (r : Reply) :
    (s.sending p r).clock = s.clock := rfl
@[simp] theorem State.sending_phase (s : State) (p : Role) (r : Reply) :
    (s.sending p r).phase = s.phase := rfl
@[simp] theorem State.sending_inputs (s : State) (p : Role) (r : Reply) :
    (s.sending p r).inputs = s.inputs := rfl
@[simp] theorem State.sending_ports (s : State) (p : Role) (r : Reply) :
    (s.sending p r).ports = s.ports.set p { s.ports.get p with answering := true, reply := some r } := rfl
@[simp] theorem State.sending_store (s : State) (p : Role) (r : Reply) :
    (s.sending p r).store = s.store := rfl
@[simp] theorem State.sending_work (s : State) (p : Role) (r : Reply) :
    (s.sending p r).work = s.work := rfl
@[simp] theorem State.sending_claims (s : State) (p : Role) (r : Reply) :
    (s.sending p r).claims = s.claims := rfl
@[simp] theorem State.sending_weather (s : State) (p : Role) (r : Reply) :
    (s.sending p r).weather = s.weather := rfl
@[simp] theorem State.sending_supply (s : State) (p : Role) (r : Reply) :
    (s.sending p r).supply = s.supply := rfl
@[simp] theorem State.sending_core (s : State) (p : Role) (r : Reply) :
    (s.sending p r).core = s.core := rfl
@[simp] theorem State.withLive_pending (s : State) (o : OpeningId) (l : Live) :
    (s.withLive o l).pending = s.pending := rfl
@[simp] theorem State.withLive_clock (s : State) (o : OpeningId) (l : Live) :
    (s.withLive o l).clock = s.clock := rfl
@[simp] theorem State.withLive_phase (s : State) (o : OpeningId) (l : Live) :
    (s.withLive o l).phase = s.phase := rfl
@[simp] theorem State.withLive_inputs (s : State) (o : OpeningId) (l : Live) :
    (s.withLive o l).inputs = s.inputs := rfl
@[simp] theorem State.withLive_ports (s : State) (o : OpeningId) (l : Live) :
    (s.withLive o l).ports = s.ports := rfl
@[simp] theorem State.withLive_store (s : State) (o : OpeningId) (l : Live) :
    (s.withLive o l).store = s.store := rfl
@[simp] theorem State.withLive_work (s : State) (o : OpeningId) (l : Live) :
    (s.withLive o l).work = s.work := rfl
@[simp] theorem State.withLive_claims (s : State) (o : OpeningId) (l : Live) :
    (s.withLive o l).claims = s.claims := rfl
@[simp] theorem State.withLive_weather (s : State) (o : OpeningId) (l : Live) :
    (s.withLive o l).weather = s.weather := rfl
@[simp] theorem State.withLive_supply (s : State) (o : OpeningId) (l : Live) :
    (s.withLive o l).supply = s.supply := rfl
@[simp] theorem State.withLive_core (s : State) (o : OpeningId) (l : Live) :
    (s.withLive o l).core = { s.core with openings := put s.core.openings o l } := rfl
@[simp] theorem State.joining_pending (s : State) (o : OpeningId) :
    (s.joining o).pending = s.pending := rfl
@[simp] theorem State.joining_clock (s : State) (o : OpeningId) :
    (s.joining o).clock = s.clock := rfl
@[simp] theorem State.joining_phase (s : State) (o : OpeningId) :
    (s.joining o).phase = s.phase := rfl
@[simp] theorem State.joining_inputs (s : State) (o : OpeningId) :
    (s.joining o).inputs = s.inputs := rfl
@[simp] theorem State.joining_ports (s : State) (o : OpeningId) :
    (s.joining o).ports = s.ports := rfl
@[simp] theorem State.joining_store (s : State) (o : OpeningId) :
    (s.joining o).store = s.store := rfl
@[simp] theorem State.joining_work (s : State) (o : OpeningId) :
    (s.joining o).work = s.work := rfl
@[simp] theorem State.joining_claims (s : State) (o : OpeningId) :
    (s.joining o).claims = s.claims := rfl
@[simp] theorem State.joining_weather (s : State) (o : OpeningId) :
    (s.joining o).weather = s.weather := rfl
@[simp] theorem State.joining_supply (s : State) (o : OpeningId) :
    (s.joining o).supply = s.supply := rfl
@[simp] theorem State.joining_core (s : State) (o : OpeningId) :
    (s.joining o).core = s.core.join o := rfl
@[simp] theorem State.withSegment_pending (s : State) (g : Segment) (x : SegmentCtl) :
    (s.withSegment g x).pending = s.pending := rfl
@[simp] theorem State.withSegment_clock (s : State) (g : Segment) (x : SegmentCtl) :
    (s.withSegment g x).clock = s.clock := rfl
@[simp] theorem State.withSegment_phase (s : State) (g : Segment) (x : SegmentCtl) :
    (s.withSegment g x).phase = s.phase := rfl
@[simp] theorem State.withSegment_inputs (s : State) (g : Segment) (x : SegmentCtl) :
    (s.withSegment g x).inputs = s.inputs := rfl
@[simp] theorem State.withSegment_ports (s : State) (g : Segment) (x : SegmentCtl) :
    (s.withSegment g x).ports = s.ports := rfl
@[simp] theorem State.withSegment_store (s : State) (g : Segment) (x : SegmentCtl) :
    (s.withSegment g x).store = s.store := rfl
@[simp] theorem State.withSegment_work (s : State) (g : Segment) (x : SegmentCtl) :
    (s.withSegment g x).work = s.work := rfl
@[simp] theorem State.withSegment_claims (s : State) (g : Segment) (x : SegmentCtl) :
    (s.withSegment g x).claims = s.claims := rfl
@[simp] theorem State.withSegment_weather (s : State) (g : Segment) (x : SegmentCtl) :
    (s.withSegment g x).weather = s.weather := rfl
@[simp] theorem State.withSegment_supply (s : State) (g : Segment) (x : SegmentCtl) :
    (s.withSegment g x).supply = s.supply := rfl
@[simp] theorem State.withSegment_core (s : State) (g : Segment) (x : SegmentCtl) :
    (s.withSegment g x).core = { s.core with segments := s.core.segments.set g x } := rfl
@[simp] theorem State.removeClaims_pending (s : State) (r : ExpiryReason) (f : Claim → Bool) :
    (s.removeClaims r f).pending = s.pending := rfl
@[simp] theorem State.removeClaims_clock (s : State) (r : ExpiryReason) (f : Claim → Bool) :
    (s.removeClaims r f).clock = s.clock := rfl
@[simp] theorem State.removeClaims_phase (s : State) (r : ExpiryReason) (f : Claim → Bool) :
    (s.removeClaims r f).phase = s.phase := rfl
@[simp] theorem State.removeClaims_inputs (s : State) (r : ExpiryReason) (f : Claim → Bool) :
    (s.removeClaims r f).inputs = s.inputs := rfl
@[simp] theorem State.removeClaims_ports (s : State) (r : ExpiryReason) (f : Claim → Bool) :
    (s.removeClaims r f).ports = s.ports := rfl
@[simp] theorem State.removeClaims_store (s : State) (r : ExpiryReason) (f : Claim → Bool) :
    (s.removeClaims r f).store = s.store := rfl
@[simp] theorem State.removeClaims_work (s : State) (r : ExpiryReason) (f : Claim → Bool) :
    (s.removeClaims r f).work = s.work := rfl
@[simp] theorem State.removeClaims_weather (s : State) (r : ExpiryReason) (f : Claim → Bool) :
    (s.removeClaims r f).weather = s.weather := rfl
@[simp] theorem State.removeClaims_supply (s : State) (r : ExpiryReason) (f : Claim → Bool) :
    (s.removeClaims r f).supply = s.supply := rfl
@[simp] theorem State.enterSupply_pending (s : State) (n : SupplyState) :
    (s.enterSupply n).pending = s.pending := rfl
@[simp] theorem State.enterSupply_clock (s : State) (n : SupplyState) :
    (s.enterSupply n).clock = s.clock := rfl
@[simp] theorem State.enterSupply_phase (s : State) (n : SupplyState) :
    (s.enterSupply n).phase = s.phase := rfl
@[simp] theorem State.enterSupply_inputs (s : State) (n : SupplyState) :
    (s.enterSupply n).inputs = s.inputs := rfl
@[simp] theorem State.enterSupply_ports (s : State) (n : SupplyState) :
    (s.enterSupply n).ports = s.ports := rfl
@[simp] theorem State.enterSupply_store (s : State) (n : SupplyState) :
    (s.enterSupply n).store = s.store := rfl
@[simp] theorem State.enterSupply_work (s : State) (n : SupplyState) :
    (s.enterSupply n).work = s.work := rfl
@[simp] theorem State.enterSupply_claims (s : State) (n : SupplyState) :
    (s.enterSupply n).claims = s.claims := rfl
@[simp] theorem State.enterSupply_weather (s : State) (n : SupplyState) :
    (s.enterSupply n).weather = s.weather := rfl
@[simp] theorem State.enterSupply_supply (s : State) (n : SupplyState) :
    (s.enterSupply n).supply = s.supply.enter s.clock n := rfl
@[simp] theorem State.enterReset_pending (s : State) (k : ResetKind) :
    (s.enterReset k).pending = s.pending := rfl
@[simp] theorem State.enterReset_clock (s : State) (k : ResetKind) :
    (s.enterReset k).clock = s.clock := rfl
@[simp] theorem State.enterReset_phase (s : State) (k : ResetKind) :
    (s.enterReset k).phase = .held k := rfl
@[simp] theorem State.enterReset_inputs (s : State) (k : ResetKind) :
    (s.enterReset k).inputs = s.inputs := rfl
@[simp] theorem State.enterReset_ports (s : State) (k : ResetKind) :
    (s.enterReset k).ports = PerPort.all Port.hunting := rfl
@[simp] theorem State.enterReset_store (s : State) (k : ResetKind) :
    (s.enterReset k).store = { s.store with state := .idle } := rfl
@[simp] theorem State.enterReset_work (s : State) (k : ResetKind) :
    (s.enterReset k).work = s.work := rfl
@[simp] theorem State.enterReset_claims (s : State) (k : ResetKind) :
    (s.enterReset k).claims = s.claims := rfl
@[simp] theorem State.enterReset_weather (s : State) (k : ResetKind) :
    (s.enterReset k).weather = s.weather := rfl
@[simp] theorem State.enterReset_supply (s : State) (k : ResetKind) :
    (s.enterReset k).supply = s.supply := rfl
@[simp] theorem State.enterReset_core (s : State) (k : ResetKind) :
    (s.enterReset k).core = s.core.held k := rfl

/-! ### Updates of the drive core -/

@[simp] theorem Core.setLive_openings (c : Core) (o : OpeningId) (f : Live → Live) :
    (c.setLive o f).openings = put c.openings o (f (c.live o)) := rfl
@[simp] theorem Core.setLive_resolveSet (c : Core) (o : OpeningId) (f : Live → Live) :
    (c.setLive o f).resolveSet = c.resolveSet := rfl
@[simp] theorem Core.setLive_queue (c : Core) (o : OpeningId) (f : Live → Live) :
    (c.setLive o f).queue = c.queue := rfl
@[simp] theorem Core.setLive_slots (c : Core) (o : OpeningId) (f : Live → Live) :
    (c.setLive o f).slots = c.slots := rfl
@[simp] theorem Core.setLive_walkTriggered (c : Core) (o : OpeningId) (f : Live → Live) :
    (c.setLive o f).walkTriggered = c.walkTriggered := rfl
@[simp] theorem Core.setLive_walkCount (c : Core) (o : OpeningId) (f : Live → Live) :
    (c.setLive o f).walkCount = c.walkCount := rfl
@[simp] theorem Core.setLive_segments (c : Core) (o : OpeningId) (f : Live → Live) :
    (c.setLive o f).segments = c.segments := rfl
@[simp] theorem Core.setLive_holds (c : Core) (o : OpeningId) (f : Live → Live) :
    (c.setLive o f).holds = c.holds := rfl
@[simp] theorem Core.setLive_notices (c : Core) (o : OpeningId) (f : Live → Live) :
    (c.setLive o f).notices = c.notices := rfl
@[simp] theorem Core.setSegment_openings (c : Core) (g : Segment) (f : SegmentCtl → SegmentCtl) :
    (c.setSegment g f).openings = c.openings := rfl
@[simp] theorem Core.setSegment_resolveSet (c : Core) (g : Segment) (f : SegmentCtl → SegmentCtl) :
    (c.setSegment g f).resolveSet = c.resolveSet := rfl
@[simp] theorem Core.setSegment_queue (c : Core) (g : Segment) (f : SegmentCtl → SegmentCtl) :
    (c.setSegment g f).queue = c.queue := rfl
@[simp] theorem Core.setSegment_slots (c : Core) (g : Segment) (f : SegmentCtl → SegmentCtl) :
    (c.setSegment g f).slots = c.slots := rfl
@[simp] theorem Core.setSegment_walkTriggered (c : Core) (g : Segment) (f : SegmentCtl → SegmentCtl) :
    (c.setSegment g f).walkTriggered = c.walkTriggered := rfl
@[simp] theorem Core.setSegment_walkCount (c : Core) (g : Segment) (f : SegmentCtl → SegmentCtl) :
    (c.setSegment g f).walkCount = c.walkCount := rfl
@[simp] theorem Core.setSegment_segments (c : Core) (g : Segment) (f : SegmentCtl → SegmentCtl) :
    (c.setSegment g f).segments = c.segments.set g (f (c.segments.get g)) := rfl
@[simp] theorem Core.setSegment_holds (c : Core) (g : Segment) (f : SegmentCtl → SegmentCtl) :
    (c.setSegment g f).holds = c.holds := rfl
@[simp] theorem Core.setSegment_notices (c : Core) (g : Segment) (f : SegmentCtl → SegmentCtl) :
    (c.setSegment g f).notices = c.notices := rfl
@[simp] theorem Core.setHold_openings (c : Core) (g : Segment) (f : Hold → Hold) :
    (c.setHold g f).openings = c.openings := rfl
@[simp] theorem Core.setHold_resolveSet (c : Core) (g : Segment) (f : Hold → Hold) :
    (c.setHold g f).resolveSet = c.resolveSet := rfl
@[simp] theorem Core.setHold_queue (c : Core) (g : Segment) (f : Hold → Hold) :
    (c.setHold g f).queue = c.queue := rfl
@[simp] theorem Core.setHold_slots (c : Core) (g : Segment) (f : Hold → Hold) :
    (c.setHold g f).slots = c.slots := rfl
@[simp] theorem Core.setHold_walkTriggered (c : Core) (g : Segment) (f : Hold → Hold) :
    (c.setHold g f).walkTriggered = c.walkTriggered := rfl
@[simp] theorem Core.setHold_walkCount (c : Core) (g : Segment) (f : Hold → Hold) :
    (c.setHold g f).walkCount = c.walkCount := rfl
@[simp] theorem Core.setHold_segments (c : Core) (g : Segment) (f : Hold → Hold) :
    (c.setHold g f).segments = c.segments := rfl
@[simp] theorem Core.setHold_holds (c : Core) (g : Segment) (f : Hold → Hold) :
    (c.setHold g f).holds = c.holds.set g (f (c.holds.get g)) := rfl
@[simp] theorem Core.setHold_notices (c : Core) (g : Segment) (f : Hold → Hold) :
    (c.setHold g f).notices = c.notices := rfl
@[simp] theorem Core.hand_openings (c : Core) (h : Happening) :
    (c.hand h).openings = c.openings := rfl
@[simp] theorem Core.hand_resolveSet (c : Core) (h : Happening) :
    (c.hand h).resolveSet = c.resolveSet := rfl
@[simp] theorem Core.hand_queue (c : Core) (h : Happening) :
    (c.hand h).queue = c.queue := rfl
@[simp] theorem Core.hand_slots (c : Core) (h : Happening) :
    (c.hand h).slots = c.slots := rfl
@[simp] theorem Core.hand_walkTriggered (c : Core) (h : Happening) :
    (c.hand h).walkTriggered = c.walkTriggered := rfl
@[simp] theorem Core.hand_walkCount (c : Core) (h : Happening) :
    (c.hand h).walkCount = c.walkCount := rfl
@[simp] theorem Core.hand_segments (c : Core) (h : Happening) :
    (c.hand h).segments = c.segments := rfl
@[simp] theorem Core.hand_holds (c : Core) (h : Happening) :
    (c.hand h).holds = c.holds := rfl
@[simp] theorem Core.hand_notices (c : Core) (h : Happening) :
    (c.hand h).notices = c.notices.hand h := rfl
@[simp] theorem Core.join_openings (c : Core) (o : OpeningId) :
    (c.join o).openings = c.openings := rfl
@[simp] theorem Core.join_resolveSet (c : Core) (o : OpeningId) :
    (c.join o).resolveSet = insertAscending o c.resolveSet := rfl
@[simp] theorem Core.join_queue (c : Core) (o : OpeningId) :
    (c.join o).queue = c.queue := rfl
@[simp] theorem Core.join_slots (c : Core) (o : OpeningId) :
    (c.join o).slots = c.slots := rfl
@[simp] theorem Core.join_walkTriggered (c : Core) (o : OpeningId) :
    (c.join o).walkTriggered = c.walkTriggered := rfl
@[simp] theorem Core.join_walkCount (c : Core) (o : OpeningId) :
    (c.join o).walkCount = c.walkCount := rfl
@[simp] theorem Core.join_segments (c : Core) (o : OpeningId) :
    (c.join o).segments = c.segments := rfl
@[simp] theorem Core.join_holds (c : Core) (o : OpeningId) :
    (c.join o).holds = c.holds := rfl
@[simp] theorem Core.join_notices (c : Core) (o : OpeningId) :
    (c.join o).notices = c.notices := rfl
@[simp] theorem Core.trigger_openings (c : Core) :
    (c.trigger).openings = c.openings := rfl
@[simp] theorem Core.trigger_resolveSet (c : Core) :
    (c.trigger).resolveSet = c.resolveSet := rfl
@[simp] theorem Core.trigger_queue (c : Core) :
    (c.trigger).queue = c.queue := rfl
@[simp] theorem Core.trigger_slots (c : Core) :
    (c.trigger).slots = c.slots := rfl
@[simp] theorem Core.trigger_walkTriggered (c : Core) :
    (c.trigger).walkTriggered = true := rfl
@[simp] theorem Core.trigger_walkCount (c : Core) :
    (c.trigger).walkCount = c.walkCount := rfl
@[simp] theorem Core.trigger_segments (c : Core) :
    (c.trigger).segments = c.segments := rfl
@[simp] theorem Core.trigger_holds (c : Core) :
    (c.trigger).holds = c.holds := rfl
@[simp] theorem Core.trigger_notices (c : Core) :
    (c.trigger).notices = c.notices := rfl
@[simp] theorem Core.setSlot_openings (c : Core) (i : SlotId) (f : Slot → Slot) :
    (c.setSlot i f).openings = c.openings := rfl
@[simp] theorem Core.setSlot_resolveSet (c : Core) (i : SlotId) (f : Slot → Slot) :
    (c.setSlot i f).resolveSet = c.resolveSet := rfl
@[simp] theorem Core.setSlot_queue (c : Core) (i : SlotId) (f : Slot → Slot) :
    (c.setSlot i f).queue = c.queue := rfl
@[simp] theorem Core.setSlot_slots (c : Core) (i : SlotId) (f : Slot → Slot) :
    (c.setSlot i f).slots = put c.slots i ((look c.slots i).map f) := rfl
@[simp] theorem Core.setSlot_walkTriggered (c : Core) (i : SlotId) (f : Slot → Slot) :
    (c.setSlot i f).walkTriggered = c.walkTriggered := rfl
@[simp] theorem Core.setSlot_walkCount (c : Core) (i : SlotId) (f : Slot → Slot) :
    (c.setSlot i f).walkCount = c.walkCount := rfl
@[simp] theorem Core.setSlot_segments (c : Core) (i : SlotId) (f : Slot → Slot) :
    (c.setSlot i f).segments = c.segments := rfl
@[simp] theorem Core.setSlot_holds (c : Core) (i : SlotId) (f : Slot → Slot) :
    (c.setSlot i f).holds = c.holds := rfl
@[simp] theorem Core.setSlot_notices (c : Core) (i : SlotId) (f : Slot → Slot) :
    (c.setSlot i f).notices = c.notices := rfl
@[simp] theorem Core.removeJob_openings (c : Core) (o : OpeningId) :
    (c.removeJob o).openings = c.openings := rfl
@[simp] theorem Core.removeJob_resolveSet (c : Core) (o : OpeningId) :
    (c.removeJob o).resolveSet = c.resolveSet := rfl
@[simp] theorem Core.removeJob_queue (c : Core) (o : OpeningId) :
    (c.removeJob o).queue = dropJob o c.queue := rfl
@[simp] theorem Core.removeJob_slots (c : Core) (o : OpeningId) :
    (c.removeJob o).slots = c.slots := rfl
@[simp] theorem Core.removeJob_walkTriggered (c : Core) (o : OpeningId) :
    (c.removeJob o).walkTriggered = c.walkTriggered := rfl
@[simp] theorem Core.removeJob_walkCount (c : Core) (o : OpeningId) :
    (c.removeJob o).walkCount = c.walkCount := rfl
@[simp] theorem Core.removeJob_segments (c : Core) (o : OpeningId) :
    (c.removeJob o).segments = c.segments := rfl
@[simp] theorem Core.removeJob_holds (c : Core) (o : OpeningId) :
    (c.removeJob o).holds = c.holds := rfl
@[simp] theorem Core.removeJob_notices (c : Core) (o : OpeningId) :
    (c.removeJob o).notices = c.notices := rfl
@[simp] theorem Core.ask_openings (e : Env) (c : Core) (o : OpeningId) (b : RequestBody) :
    (c.ask e o b).openings = c.openings := rfl
@[simp] theorem Core.ask_resolveSet (e : Env) (c : Core) (o : OpeningId) (b : RequestBody) :
    (c.ask e o b).resolveSet = c.resolveSet := rfl
@[simp] theorem Core.ask_queue (e : Env) (c : Core) (o : OpeningId) (b : RequestBody) :
    (c.ask e o b).queue = c.queue := rfl
@[simp] theorem Core.ask_slots (e : Env) (c : Core) (o : OpeningId) (b : RequestBody) :
    (c.ask e o b).slots = c.slots := rfl
@[simp] theorem Core.ask_walkTriggered (e : Env) (c : Core) (o : OpeningId) (b : RequestBody) :
    (c.ask e o b).walkTriggered = c.walkTriggered := rfl
@[simp] theorem Core.ask_walkCount (e : Env) (c : Core) (o : OpeningId) (b : RequestBody) :
    (c.ask e o b).walkCount = c.walkCount := rfl
@[simp] theorem Core.ask_holds (e : Env) (c : Core) (o : OpeningId) (b : RequestBody) :
    (c.ask e o b).holds = c.holds := rfl
@[simp] theorem Core.ask_notices (e : Env) (c : Core) (o : OpeningId) (b : RequestBody) :
    (c.ask e o b).notices = c.notices := rfl
@[simp] theorem Core.withdraw_openings (e : Env) (c : Core) (o : OpeningId) (w : RequestBody → Bool) :
    (c.withdraw e o w).openings = c.openings := rfl
@[simp] theorem Core.withdraw_resolveSet (e : Env) (c : Core) (o : OpeningId) (w : RequestBody → Bool) :
    (c.withdraw e o w).resolveSet = c.resolveSet := rfl
@[simp] theorem Core.withdraw_queue (e : Env) (c : Core) (o : OpeningId) (w : RequestBody → Bool) :
    (c.withdraw e o w).queue = c.queue := rfl
@[simp] theorem Core.withdraw_slots (e : Env) (c : Core) (o : OpeningId) (w : RequestBody → Bool) :
    (c.withdraw e o w).slots = c.slots := rfl
@[simp] theorem Core.withdraw_walkTriggered (e : Env) (c : Core) (o : OpeningId) (w : RequestBody → Bool) :
    (c.withdraw e o w).walkTriggered = c.walkTriggered := rfl
@[simp] theorem Core.withdraw_walkCount (e : Env) (c : Core) (o : OpeningId) (w : RequestBody → Bool) :
    (c.withdraw e o w).walkCount = c.walkCount := rfl
@[simp] theorem Core.withdraw_holds (e : Env) (c : Core) (o : OpeningId) (w : RequestBody → Bool) :
    (c.withdraw e o w).holds = c.holds := rfl
@[simp] theorem Core.withdraw_notices (e : Env) (c : Core) (o : OpeningId) (w : RequestBody → Bool) :
    (c.withdraw e o w).notices = c.notices := rfl
@[simp] theorem Core.leaveList_openings (e : Env) (c : Core) (o : OpeningId) :
    (c.leaveList e o).openings = c.openings := rfl
@[simp] theorem Core.leaveList_resolveSet (e : Env) (c : Core) (o : OpeningId) :
    (c.leaveList e o).resolveSet = c.resolveSet := rfl
@[simp] theorem Core.leaveList_queue (e : Env) (c : Core) (o : OpeningId) :
    (c.leaveList e o).queue = c.queue := rfl
@[simp] theorem Core.leaveList_slots (e : Env) (c : Core) (o : OpeningId) :
    (c.leaveList e o).slots = c.slots := rfl
@[simp] theorem Core.leaveList_walkTriggered (e : Env) (c : Core) (o : OpeningId) :
    (c.leaveList e o).walkTriggered = c.walkTriggered := rfl
@[simp] theorem Core.leaveList_walkCount (e : Env) (c : Core) (o : OpeningId) :
    (c.leaveList e o).walkCount = c.walkCount := rfl
@[simp] theorem Core.leaveList_holds (e : Env) (c : Core) (o : OpeningId) :
    (c.leaveList e o).holds = c.holds := rfl
@[simp] theorem Core.leaveList_notices (e : Env) (c : Core) (o : OpeningId) :
    (c.leaveList e o).notices = c.notices := rfl
@[simp] theorem Core.setCount_openings (c : Core) (g : Segment) (a : NodeAddress) (n : Nat) :
    (c.setCount g a n).openings = c.openings := rfl
@[simp] theorem Core.setCount_resolveSet (c : Core) (g : Segment) (a : NodeAddress) (n : Nat) :
    (c.setCount g a n).resolveSet = c.resolveSet := rfl
@[simp] theorem Core.setCount_queue (c : Core) (g : Segment) (a : NodeAddress) (n : Nat) :
    (c.setCount g a n).queue = c.queue := rfl
@[simp] theorem Core.setCount_slots (c : Core) (g : Segment) (a : NodeAddress) (n : Nat) :
    (c.setCount g a n).slots = c.slots := rfl
@[simp] theorem Core.setCount_walkTriggered (c : Core) (g : Segment) (a : NodeAddress) (n : Nat) :
    (c.setCount g a n).walkTriggered = c.walkTriggered := rfl
@[simp] theorem Core.setCount_walkCount (c : Core) (g : Segment) (a : NodeAddress) (n : Nat) :
    (c.setCount g a n).walkCount = c.walkCount := rfl
@[simp] theorem Core.setCount_holds (c : Core) (g : Segment) (a : NodeAddress) (n : Nat) :
    (c.setCount g a n).holds = c.holds := rfl
@[simp] theorem Core.setCount_notices (c : Core) (g : Segment) (a : NodeAddress) (n : Nat) :
    (c.setCount g a n).notices = c.notices := rfl
@[simp] theorem Core.endTransaction_openings (e : Env) (c : Core) (g : Segment) :
    (c.endTransaction e g).openings = c.openings := rfl
@[simp] theorem Core.endTransaction_resolveSet (e : Env) (c : Core) (g : Segment) :
    (c.endTransaction e g).resolveSet = c.resolveSet := rfl
@[simp] theorem Core.endTransaction_queue (e : Env) (c : Core) (g : Segment) :
    (c.endTransaction e g).queue = c.queue := rfl
@[simp] theorem Core.endTransaction_slots (e : Env) (c : Core) (g : Segment) :
    (c.endTransaction e g).slots = c.slots := rfl
@[simp] theorem Core.endTransaction_walkTriggered (e : Env) (c : Core) (g : Segment) :
    (c.endTransaction e g).walkTriggered = c.walkTriggered := rfl
@[simp] theorem Core.endTransaction_walkCount (e : Env) (c : Core) (g : Segment) :
    (c.endTransaction e g).walkCount = c.walkCount := rfl
@[simp] theorem Core.endTransaction_holds (e : Env) (c : Core) (g : Segment) :
    (c.endTransaction e g).holds = c.holds := rfl
@[simp] theorem Core.endTransaction_notices (e : Env) (c : Core) (g : Segment) :
    (c.endTransaction e g).notices = c.notices := rfl
@[simp] theorem Core.makeDue_openings (c : Core) (g : Segment) :
    (c.makeDue g).openings = c.openings := rfl
@[simp] theorem Core.makeDue_resolveSet (c : Core) (g : Segment) :
    (c.makeDue g).resolveSet = c.resolveSet := rfl
@[simp] theorem Core.makeDue_queue (c : Core) (g : Segment) :
    (c.makeDue g).queue = c.queue := rfl
@[simp] theorem Core.makeDue_slots (c : Core) (g : Segment) :
    (c.makeDue g).slots = c.slots := rfl
@[simp] theorem Core.makeDue_walkTriggered (c : Core) (g : Segment) :
    (c.makeDue g).walkTriggered = c.walkTriggered := rfl
@[simp] theorem Core.makeDue_walkCount (c : Core) (g : Segment) :
    (c.makeDue g).walkCount = c.walkCount := rfl
@[simp] theorem Core.makeDue_holds (c : Core) (g : Segment) :
    (c.makeDue g).holds = c.holds := rfl
@[simp] theorem Core.makeDue_notices (c : Core) (g : Segment) :
    (c.makeDue g).notices = c.notices := rfl
@[simp] theorem Core.enterLockedOut_resolveSet (c : Core) (o : OpeningId) :
    (c.enterLockedOut o).resolveSet = c.resolveSet := rfl
@[simp] theorem Core.enterLockedOut_queue (c : Core) (o : OpeningId) :
    (c.enterLockedOut o).queue = c.queue := rfl
@[simp] theorem Core.enterLockedOut_slots (c : Core) (o : OpeningId) :
    (c.enterLockedOut o).slots = c.slots := rfl
@[simp] theorem Core.enterLockedOut_walkTriggered (c : Core) (o : OpeningId) :
    (c.enterLockedOut o).walkTriggered = c.walkTriggered := rfl
@[simp] theorem Core.enterLockedOut_walkCount (c : Core) (o : OpeningId) :
    (c.enterLockedOut o).walkCount = c.walkCount := rfl
@[simp] theorem Core.enterLockedOut_segments (c : Core) (o : OpeningId) :
    (c.enterLockedOut o).segments = c.segments := rfl
@[simp] theorem Core.enterLockedOut_holds (c : Core) (o : OpeningId) :
    (c.enterLockedOut o).holds = c.holds := rfl
@[simp] theorem Core.enterLockedOut_notices (c : Core) (o : OpeningId) :
    (c.enterLockedOut o).notices = c.notices := rfl
@[simp] theorem Core.enterIdle_resolveSet (c : Core) (o : OpeningId) :
    (c.enterIdle o).resolveSet = insertAscending o c.resolveSet := rfl
@[simp] theorem Core.enterIdle_queue (c : Core) (o : OpeningId) :
    (c.enterIdle o).queue = c.queue := rfl
@[simp] theorem Core.enterIdle_slots (c : Core) (o : OpeningId) :
    (c.enterIdle o).slots = c.slots := rfl
@[simp] theorem Core.enterIdle_walkTriggered (c : Core) (o : OpeningId) :
    (c.enterIdle o).walkTriggered = c.walkTriggered := rfl
@[simp] theorem Core.enterIdle_walkCount (c : Core) (o : OpeningId) :
    (c.enterIdle o).walkCount = c.walkCount := rfl
@[simp] theorem Core.enterIdle_segments (c : Core) (o : OpeningId) :
    (c.enterIdle o).segments = c.segments := rfl
@[simp] theorem Core.enterIdle_holds (c : Core) (o : OpeningId) :
    (c.enterIdle o).holds = c.holds := rfl
@[simp] theorem Core.enterIdle_notices (c : Core) (o : OpeningId) :
    (c.enterIdle o).notices = c.notices := rfl
@[simp] theorem Core.enterDwell_resolveSet (e : Env) (c : Core) (o : OpeningId) (r : DwellReason) :
    (c.enterDwell e o r).resolveSet = c.resolveSet := rfl
@[simp] theorem Core.enterDwell_queue (e : Env) (c : Core) (o : OpeningId) (r : DwellReason) :
    (c.enterDwell e o r).queue = c.queue := rfl
@[simp] theorem Core.enterDwell_slots (e : Env) (c : Core) (o : OpeningId) (r : DwellReason) :
    (c.enterDwell e o r).slots = c.slots := rfl
@[simp] theorem Core.enterDwell_walkTriggered (e : Env) (c : Core) (o : OpeningId) (r : DwellReason) :
    (c.enterDwell e o r).walkTriggered = c.walkTriggered := rfl
@[simp] theorem Core.enterDwell_walkCount (e : Env) (c : Core) (o : OpeningId) (r : DwellReason) :
    (c.enterDwell e o r).walkCount = c.walkCount := rfl
@[simp] theorem Core.enterDwell_segments (e : Env) (c : Core) (o : OpeningId) (r : DwellReason) :
    (c.enterDwell e o r).segments = c.segments := rfl
@[simp] theorem Core.enterDwell_holds (e : Env) (c : Core) (o : OpeningId) (r : DwellReason) :
    (c.enterDwell e o r).holds = c.holds := rfl
@[simp] theorem Core.enterDwell_notices (e : Env) (c : Core) (o : OpeningId) (r : DwellReason) :
    (c.enterDwell e o r).notices = c.notices := rfl
@[simp] theorem Core.enqueue_resolveSet (e : Env) (c : Core) (o : OpeningId) (t : Nat) (k : JobClass) (b : BandEnd) :
    (c.enqueue e o t k b).resolveSet = c.resolveSet := rfl
@[simp] theorem Core.enqueue_slots (e : Env) (c : Core) (o : OpeningId) (t : Nat) (k : JobClass) (b : BandEnd) :
    (c.enqueue e o t k b).slots = c.slots := rfl
@[simp] theorem Core.enqueue_walkTriggered (e : Env) (c : Core) (o : OpeningId) (t : Nat) (k : JobClass) (b : BandEnd) :
    (c.enqueue e o t k b).walkTriggered = true := rfl
@[simp] theorem Core.enqueue_walkCount (e : Env) (c : Core) (o : OpeningId) (t : Nat) (k : JobClass) (b : BandEnd) :
    (c.enqueue e o t k b).walkCount = c.walkCount := rfl
@[simp] theorem Core.enqueue_segments (e : Env) (c : Core) (o : OpeningId) (t : Nat) (k : JobClass) (b : BandEnd) :
    (c.enqueue e o t k b).segments = c.segments := rfl
@[simp] theorem Core.enqueue_holds (e : Env) (c : Core) (o : OpeningId) (t : Nat) (k : JobClass) (b : BandEnd) :
    (c.enqueue e o t k b).holds = c.holds := rfl
@[simp] theorem Core.enqueue_notices (e : Env) (c : Core) (o : OpeningId) (t : Nat) (k : JobClass) (b : BandEnd) :
    (c.enqueue e o t k b).notices = c.notices := rfl
@[simp] theorem Core.held_resolveSet (c : Core) (k : ResetKind) :
    (c.held k).resolveSet = c.resolveSet := rfl
@[simp] theorem Core.held_queue (c : Core) (k : ResetKind) :
    (c.held k).queue = c.queue := rfl
@[simp] theorem Core.held_slots (c : Core) (k : ResetKind) :
    (c.held k).slots = c.slots := rfl
@[simp] theorem Core.held_walkTriggered (c : Core) (k : ResetKind) :
    (c.held k).walkTriggered = c.walkTriggered := rfl
@[simp] theorem Core.held_walkCount (c : Core) (k : ResetKind) :
    (c.held k).walkCount = c.walkCount := rfl
@[simp] theorem Core.held_segments (c : Core) (k : ResetKind) :
    (c.held k).segments = c.segments := rfl

end Sys2Proof.Machine
end

