-- ==== Sys2Proof/Laws/Tables.lean ====
section
/-! SUPPORT. The small lemmas of tables, of the items of ports and segments, of numbers in range, of bytes and of
ascending sets. -/

namespace Sys2Proof.Machine

/-! ### Tables -/

@[simp] theorem look_put_same {α : Type} {n : Nat} (v : Vector α n) (i : Fin n) (x : α) : look (put v i x) i = x := by
  simp [look, put]

theorem look_put_ne {α : Type} {n : Nat} (v : Vector α n) (i j : Fin n) (x : α) (h : j ≠ i) :
    look (put v i x) j = look v j := by
  have h' : i.val ≠ j.val := fun e => h (Fin.ext e.symm)
  simp [look, put, Vector.getElem_set_ne, h']

theorem look_put {α : Type} {n : Nat} (v : Vector α n) (i j : Fin n) (x : α) :
    look (put v i x) j = if j = i then x else look v j := by
  by_cases h : j = i
  · subst h; simp
  · simp [look_put_ne, h]

@[simp] theorem look_replicate {α : Type} {n : Nat} (x : α) (i : Fin n) : look (Vector.replicate n x) i = x := by
  simp [look]

@[simp] theorem look_tabulate {α : Type} {n : Nat} (f : Fin n → α) (i : Fin n) : look (tabulate f) i = f i := by
  simp [look, tabulate]

@[simp] theorem look_map {α β : Type} {n : Nat} (f : α → β) (v : Vector α n) (i : Fin n) :
    look (v.map f) i = f (look v i) := by
  simp [look]

theorem table_ext {α : Type} {n : Nat} (v w : Vector α n) (h : ∀ i : Fin n, look v i = look w i) : v = w := by
  apply Vector.ext
  intro i hi
  exact h ⟨i, hi⟩

@[simp] theorem put_put {α : Type} {n : Nat} (v : Vector α n) (i : Fin n) (x y : α) :
    put (put v i x) i y = put v i y := by
  apply table_ext
  intro j
  simp only [look_put]
  split <;> rfl

@[simp] theorem put_look {α : Type} {n : Nat} (v : Vector α n) (i : Fin n) : put v i (look v i) = v := by
  apply table_ext
  intro j
  rw [look_put]
  split
  · next h => rw [h]
  · rfl

/-- The rows of a table as a list are its looked-up values. -/
theorem mem_toList_iff {α : Type} {n : Nat} (v : Vector α n) (x : α) : x ∈ v.toList ↔ ∃ i : Fin n, look v i = x := by
  rw [Vector.mem_toList_iff, Vector.mem_iff_getElem]
  constructor
  · rintro ⟨i, hi, h⟩
    exact ⟨⟨i, hi⟩, h⟩
  · rintro ⟨i, h⟩
    exact ⟨i.val, i.isLt, h⟩

/-- lowest gives none exactly when no row passes. -/
theorem lowest_eq_none {α : Type} {n : Nat} (v : Vector α n) (test : α → Bool) :
    lowest v test = none ↔ ∀ i : Fin n, test (look v i) = false := by
  simp [lowest, List.find?_eq_none]

/-- A row lowest gives passes the test. -/
theorem lowest_passes {α : Type} {n : Nat} (v : Vector α n) (test : α → Bool) (i : Fin n)
    (h : lowest v test = some i) : test (look v i) = true := by
  have := List.find?_some h
  simpa using this

/-- A row that passes and below which none does is the one lowest gives. -/
theorem lowest_eq_some {α : Type} {n : Nat} (v : Vector α n) (test : α → Bool) (i : Fin n)
    (hi : test (look v i) = true) (hlow : ∀ j : Fin n, j.val < i.val → test (look v j) = false) :
    lowest v test = some i := by
  unfold lowest
  rw [List.find?_eq_some_iff_getElem]
  refine ⟨hi, i.val, by simp, by simp, ?_⟩
  intro j hj
  have := hlow ⟨j, by have := i.isLt; omega⟩ hj
  simp [this]

/-- The one row that passes is the one lowest gives. -/
theorem lowest_eq_of_unique {α : Type} {n : Nat} (v : Vector α n) (test : α → Bool) (i : Fin n)
    (hi : test (look v i) = true) (huniq : ∀ j : Fin n, test (look v j) = true → j = i) :
    lowest v test = some i := by
  apply lowest_eq_some v test i hi
  intro j hj
  cases hb : test (look v j)
  · rfl
  · exact absurd (congrArg Fin.val (huniq j hb)) (by omega)

@[simp] theorem mem_allOpenings (o : OpeningId) : o ∈ allOpenings := List.mem_finRange o

@[simp] theorem mem_allSlots (i : SlotId) : i ∈ allSlots := List.mem_finRange i

/-! ### Ports and segments -/

@[simp] theorem PerPort.get_set_same {α : Type} (t : PerPort α) (p : Role) (x : α) : (t.set p x).get p = x := by
  cases p <;> rfl

theorem PerPort.get_set_ne {α : Type} (t : PerPort α) (p q : Role) (x : α) (h : q ≠ p) :
    (t.set p x).get q = t.get q := by
  cases p <;> cases q <;> first | rfl | exact absurd rfl h

@[simp] theorem PerPort.set_get {α : Type} (t : PerPort α) (p : Role) : t.set p (t.get p) = t := by
  cases p <;> rfl

@[simp] theorem PerPort.set_set {α : Type} (t : PerPort α) (p : Role) (x y : α) : (t.set p x).set p y = t.set p y := by
  cases p <;> rfl

@[simp] theorem PerPort.get_all {α : Type} (x : α) (p : Role) : (PerPort.all x).get p = x := by cases p <;> rfl

@[simp] theorem PerPort.get_mapWith {α β : Type} (t : PerPort α) (f : Role → α → β) (p : Role) :
    (t.mapWith f).get p = f p (t.get p) := by
  cases p <;> rfl

@[simp] theorem PerSegment.get_set_same {α : Type} (t : PerSegment α) (g : Segment) (x : α) :
    (t.set g x).get g = x := by
  cases g <;> rfl

theorem PerSegment.get_set_ne {α : Type} (t : PerSegment α) (g q : Segment) (x : α) (h : q ≠ g) :
    (t.set g x).get q = t.get q := by
  cases g <;> cases q <;> first | rfl | exact absurd rfl h

@[simp] theorem PerSegment.set_get {α : Type} (t : PerSegment α) (g : Segment) : t.set g (t.get g) = t := by
  cases g <;> rfl

@[simp] theorem PerSegment.set_set {α : Type} (t : PerSegment α) (g : Segment) (x y : α) :
    (t.set g x).set g y = t.set g y := by
  cases g <;> rfl

@[simp] theorem PerSegment.get_all {α : Type} (x : α) (g : Segment) : (PerSegment.all x).get g = x := by
  cases g <;> rfl

/-! ### Numbers in range -/

theorem finOf?_eq_some (n v : Nat) (i : Fin n) (h : v = i.val) : finOf? n v = some i := by
  subst h
  simp [finOf?]

theorem finOf?_eq_none (n v : Nat) (h : n ≤ v) : finOf? n v = none := by
  simp [finOf?, Nat.not_lt.mpr h]

theorem finOf?_val (n v : Nat) (i : Fin n) (h : finOf? n v = some i) : v = i.val := by
  unfold finOf? at h
  split at h
  · cases h; rfl
  · cases h

/-! ### Bytes -/

theorem joinBytes_high_low (w : Word16) : joinBytes (highByte w) (lowByte w) = w := by
  unfold joinBytes highByte lowByte
  apply BitVec.eq_of_getLsbD_eq
  intro i hi
  rw [BitVec.getLsbD_append]
  by_cases h : i < 8
  · simp [h]
  · have : 8 + (i - 8) = i := by omega
    simp [h, this, show i - 8 < 8 by omega]

theorem byteOf_toNat (n : Nat) (h : n < 256) : (byteOf n).toNat = n := by
  simp [byteOf, Nat.mod_eq_of_lt h]

theorem byteOf_eq (b : Byte) : byteOf b.toNat = b := by simp [byteOf]

/-! ### Ascending sets -/

@[simp] theorem mem_insertAscending (o p : OpeningId) (l : List OpeningId) :
    p ∈ insertAscending o l ↔ p = o ∨ p ∈ l := by
  induction l with
  | nil => simp [insertAscending]
  | cons x rest ih =>
    unfold insertAscending
    split
    · simp
    · split
      · next h => subst h; simp
      · simp only [List.mem_cons, ih]
        constructor
        · rintro (h | h | h) <;> simp [h]
        · rintro (h | h | h) <;> simp [h]

@[simp] theorem mem_joinAll (os : List OpeningId) (c : Core) (p : OpeningId) :
    p ∈ (c.joinAll os).resolveSet ↔ p ∈ c.resolveSet ∨ p ∈ os := by
  unfold Core.joinAll
  induction os generalizing c with
  | nil => simp
  | cons o rest ih =>
    simp only [List.foldl_cons, ih, Core.join_resolveSet, mem_insertAscending, List.mem_cons]
    constructor
    · rintro ((h | h) | h) <;> simp [h]
    · rintro (h | h | h) <;> simp [h]

/-- joinAll changes the pending-resolution set and nothing else. -/
theorem joinAll_eq (os : List OpeningId) (c : Core) :
    c.joinAll os = { c with resolveSet := (c.joinAll os).resolveSet } := by
  unfold Core.joinAll
  induction os generalizing c with
  | nil => rfl
  | cons o rest ih =>
    simp only [List.foldl_cons]
    rw [ih]
    rfl

end Sys2Proof.Machine
end

