-- ==== Sys2Proof/Laws/Requests.lean ====
section
/-! SUPPORT. What taking a request can do: nothing while the port is answering or the part is held in reset, else the
verdict of its block and a reply on its port. -/

namespace Sys2Proof.Machine

/-- A request row is the arrival of its request. -/
theorem exec_command (r : MasterRequest) (p : Role) (s : State) : exec (r.command p) s = .next (s.takeRequest p r) := by
  cases r <;> rfl

theorem takeRequest_held (s : State) (p : Role) (r : MasterRequest) (h : s.inReset = true) : s.takeRequest p r = s := by
  simp [State.takeRequest, h]

theorem takeRequest_answering (s : State) (p : Role) (r : MasterRequest) (h : (s.ports.get p).answering = true) :
    s.takeRequest p r = s := by
  simp [State.takeRequest, h]

theorem takeRequest_taken (s : State) (p : Role) (r : MasterRequest) (h : s.takes p) :
    s.takeRequest p r = s.answer p r := by
  simp [State.takeRequest, h.1, h.2]

theorem setPort_replying (s : State) (p : Role) (y : Reply) :
    (s.setPort p fun x => x.replying y) = s.sending p y := rfl

/-- A request that R176 does not permit. -/
theorem answer_forbidden (s : State) (p : Role) (r : MasterRequest) (h : r.permits p = false) :
    s.answer p r = s.sendingRefusal p r.code .notPermitted := by
  simp only [State.answer, h, Bool.false_eq_true, if_false, setPort_replying]
  rfl

/-- A permitted request: its block's verdict, sent. -/
theorem answer_served (s : State) (p : Role) (r : MasterRequest) (h : r.permits p = true) :
    s.answer p r = (r.serve p s).1.sending p ((r.serve p s).2.reply r.code) := by
  simp only [State.answer, h, if_true, setPort_replying]

/-- What exec gives for a permitted request with a known verdict. -/
theorem exec_served (r : MasterRequest) (p : Role) (s t : State) (v : Verdict) (h : s.takes p)
    (hp : r.permits p = true) (hv : r.serve p s = (t, v)) :
    exec (r.command p) s = .next (t.sending p (v.reply r.code)) := by
  rw [exec_command, takeRequest_taken s p r h, answer_served s p r hp, hv]

theorem sending_ok (s : State) (p : Role) (c : Byte) (fields : List Byte) :
    s.sending p ((Verdict.ok fields).reply c) = s.sendingOk p c fields := rfl

theorem sending_refused (s : State) (p : Role) (c : Byte) (st : Status) :
    s.sending p ((Verdict.refused st).reply c) = s.sendingRefusal p c st := rfl

theorem sending_outOfRange (s : State) (p : Role) (c : Byte) (i : Nat) :
    s.sending p ((Verdict.outOfRange i).reply c) = s.sendingRange p c (byteOf i) := rfl

/-- Taking a request either changes nothing or ends with a reply on its port over what its block left. -/
theorem takeRequest_cases (s : State) (p : Role) (r : MasterRequest) :
    s.takeRequest p r = s ∨
      (∃ y : Reply, s.takeRequest p r = s.sending p y) ∨
      ∃ y : Reply, r.permits p = true ∧ s.takeRequest p r = (r.serve p s).1.sending p y := by
  unfold State.takeRequest
  split
  · exact .inl rfl
  · cases h : r.permits p
    · exact .inr (.inl ⟨_, answer_forbidden s p r h⟩)
    · exact .inr (.inr ⟨_, rfl, answer_served s p r h⟩)

theorem received_value (bytes : List Byte) : (received bytes).map RxByte.value = bytes := by
  simp [received, Function.comp_def]

theorem received_noError (bytes : List Byte) : (received bytes).any RxByte.framingError = false := by
  simp [received, Function.comp_def]

end Sys2Proof.Machine
end

