-- ==== Sys2Proof/Laws/Events.lean ====
section
/-! SUPPORT. What an event can do around its operation: nothing in reset, nothing when its timer does not run, else the
operation at its moment; and what the checks at its end leave alone. -/

namespace Sys2Proof.Machine

theorem unlessHeld_running (s : State) (f : State → State) (h : s.inReset = false) : s.unlessHeld f = f s := by
  simp [State.unlessHeld, h]

theorem unlessHeld_held (s : State) (f : State → State) (h : s.inReset = true) : s.unlessHeld f = s := by
  simp [State.unlessHeld, h]

/-- An event of the drive core of a part that runs. -/
theorem coreEvent_running (s : State) (f : Env → Core → Core) (h : s.inReset = false) :
    s.coreEvent f = (s.within f).settled := unlessHeld_running s _ h

/-- The expiry of a timer that runs. -/
theorem expiry_running (s : State) (t : Timer) (f : State → State) (h : s.inReset = false) :
    s.expiry (some t) f = f (s.atMoment (t.start + t.length)) := by
  simp [State.expiry, State.unlessHeld, h, Timer.deadline]

/-- The expiry of a timer that does not run. -/
theorem expiry_stopped (s : State) (f : State → State) : s.expiry none f = s := by
  simp [State.expiry, State.unlessHeld]

theorem coreExpiry_running (s : State) (t : Timer) (f : Env → Core → Core) (h : s.inReset = false) :
    s.coreExpiry (some t) f = ((s.atMoment (t.start + t.length)).within f).settled := expiry_running s t _ h

theorem skyExpiry_running (s : State) (t : Timer) (f : Env → Sky → Sky) (h : s.inReset = false) :
    s.skyExpiry (some t) f = ((s.atMoment (t.start + t.length)).onSky f).settled := expiry_running s t _ h

/-- Every event either leaves the state or is its operation on it: a property of both is one of the event. -/
theorem unlessHeld_cases (s : State) (f : State → State) (P : State → Prop) (h0 : P s) (h1 : P (f s)) :
    P (s.unlessHeld f) := by
  unfold State.unlessHeld
  split
  · exact h0
  · exact h1

theorem expiry_cases (s : State) (t : Option Timer) (f : State → State) (P : State → Prop) (h0 : P s)
    (h1 : ∀ x : Timer, t = some x → P (f (s.atMoment x.deadline))) : P (s.expiry t f) := by
  unfold State.expiry
  apply unlessHeld_cases _ _ _ h0
  cases t with
  | none => exact h0
  | some x => exact h1 x rfl

/-! ### What an event of the core leaves alone -/

theorem agreesOutside_refl (s : State) : s.agreesOutside s := ⟨rfl, rfl, rfl, rfl, rfl, rfl, rfl⟩

theorem agreesOutside_trans (s t u : State) (h : s.agreesOutside t) (k : t.agreesOutside u) : s.agreesOutside u := by
  obtain ⟨a, b, c, d, e, f, g⟩ := h
  obtain ⟨a', b', c', d', e', f', g'⟩ := k
  exact ⟨a'.trans a, b'.trans b, c'.trans c, d'.trans d, e'.trans e, f'.trans f, g'.trans g⟩

theorem agreesOutside_within (s : State) (f : Env → Core → Core) : s.agreesOutside (s.within f) :=
  ⟨rfl, rfl, rfl, rfl, rfl, rfl, rfl⟩

theorem agreesOutside_onSky (s : State) (f : Env → Sky → Sky) : s.agreesOutside (s.onSky f) :=
  ⟨rfl, rfl, rfl, rfl, rfl, rfl, rfl⟩

theorem agreesOutside_atMoment (s : State) (m : Nat) : s.agreesOutside (s.atMoment m) :=
  ⟨rfl, rfl, rfl, rfl, rfl, rfl, rfl⟩

theorem agreesOutside_settled (s : State) : s.agreesOutside s.settled :=
  ⟨State.settled_pending s, State.settled_phase s, State.settled_inputs s, State.settled_ports s,
    State.settled_store s, State.settled_work s, State.settled_claims s⟩

/-- A drive event leaves every block but the drive core. -/
theorem coreEvent_leaves (s : State) (f : Env → Core → Core) :
    s.agreesOutside (s.coreEvent f) ∧ (s.coreEvent f).weather = s.weather ∧ (s.coreEvent f).supply = s.supply := by
  unfold State.coreEvent
  apply unlessHeld_cases s _ (fun t => s.agreesOutside t ∧ t.weather = s.weather ∧ t.supply = s.supply)
  · exact ⟨agreesOutside_refl s, rfl, rfl⟩
  · exact ⟨agreesOutside_trans _ _ _ (agreesOutside_within s f) (agreesOutside_settled _), by simp, by simp⟩

theorem coreExpiry_leaves (s : State) (t : Option Timer) (f : Env → Core → Core) :
    s.agreesOutside (s.coreExpiry t f) ∧ (s.coreExpiry t f).weather = s.weather ∧
      (s.coreExpiry t f).supply = s.supply := by
  unfold State.coreExpiry
  apply expiry_cases s t _ (fun u => s.agreesOutside u ∧ u.weather = s.weather ∧ u.supply = s.supply)
  · exact ⟨agreesOutside_refl s, rfl, rfl⟩
  · intro x _
    refine ⟨?_, by simp, by simp⟩
    exact agreesOutside_trans _ _ _ (agreesOutside_trans _ _ _ (agreesOutside_atMoment s _)
      (agreesOutside_within _ f)) (agreesOutside_settled _)

theorem skyExpiry_leaves (s : State) (t : Option Timer) (f : Env → Sky → Sky) :
    s.agreesOutside (s.skyExpiry t f) ∧ (s.skyExpiry t f).supply = s.supply := by
  unfold State.skyExpiry
  apply expiry_cases s t _ (fun u => s.agreesOutside u ∧ u.supply = s.supply)
  · exact ⟨agreesOutside_refl s, rfl⟩
  · intro x _
    refine ⟨?_, by simp⟩
    exact agreesOutside_trans _ _ _ (agreesOutside_trans _ _ _ (agreesOutside_atMoment s _)
      (agreesOutside_onSky _ f)) (agreesOutside_settled _)

end Sys2Proof.Machine
end

