-- ==== Sys2Proof/Laws/Holds.lean ====
section
/-! SUPPORT. Every operation of the resolver, the scheduler, the supervisor and the Segment Controllers leaves the Hold
Controllers as they are. -/

namespace Sys2Proof.Machine

/-- A fold of operations that leave the holds leaves them. -/
theorem foldl_holds {α : Type} (f : Core → α → Core) (hf : ∀ c x, (f c x).holds = c.holds) (l : List α) (c : Core) :
    (l.foldl f c).holds = c.holds := by
  induction l generalizing c with
  | nil => rfl
  | cons x rest ih => rw [List.foldl_cons, ih, hf]

@[simp] theorem joinAll_holds (os : List OpeningId) (c : Core) : (c.joinAll os).holds = c.holds :=
  foldl_holds (fun c o => c.join o) (fun _ _ => rfl) os c

@[simp] theorem writeTarget_holds (o : OpeningId) (t : Option Nat) (c : Core) : (c.writeTarget o t).holds = c.holds := rfl

@[simp] theorem startReProbe_holds (e : Env) (o : OpeningId) (c : Core) : (c.startReProbe e o).holds = c.holds := rfl

@[simp] theorem enterResting_holds (e : Env) (o : OpeningId) (c : Core) :
    (c.enterResting e o).holds = c.holds := by
  unfold Core.enterResting
  try dsimp only
  repeat' split
  all_goals simp

@[simp] theorem enterFaulted_holds (e : Env) (o : OpeningId) (r : FaultReason) (c : Core) :
    (c.enterFaulted e o r).holds = c.holds := by
  unfold Core.enterFaulted
  try dsimp only
  repeat' split
  all_goals simp

@[simp] theorem resubmit_holds (e : Env) (o : OpeningId) (t : Nat) (k : JobClass) (c : Core) :
    (c.resubmit e o t k).holds = c.holds := by
  unfold Core.resubmit
  try dsimp only
  repeat' split
  all_goals simp

@[simp] theorem freeSlot_holds (e : Env) (i : SlotId) (c : Core) :
    (c.freeSlot e i).holds = c.holds := by
  unfold Core.freeSlot
  try dsimp only
  repeat' split
  all_goals simp

@[simp] theorem takeFailure_holds (e : Env) (o : OpeningId) (f : Failure) (c : Core) :
    (c.takeFailure e o f).holds = c.holds := by
  unfold Core.takeFailure
  try dsimp only
  repeat' split
  all_goals simp

@[simp] theorem afterRetarget_holds (e : Env) (o : OpeningId) (c : Core) :
    (c.afterRetarget e o).holds = c.holds := by
  unfold Core.afterRetarget
  try dsimp only
  repeat' split
  all_goals simp

@[simp] theorem afterShedOrHold_holds (e : Env) (o : OpeningId) (k : JobClass) (c : Core) :
    (c.afterShedOrHold e o k).holds = c.holds := by
  unfold Core.afterShedOrHold
  try dsimp only
  repeat' split
  all_goals simp

@[simp] theorem completeStop_holds (o : OpeningId) (c : Core) : (c.completeStop o).holds = c.holds := rfl

@[simp] theorem settleStop_holds (e : Env) (o : OpeningId) (y : StopCause) (k : JobClass) (d : DriveOutcome) (c : Core) :
    (c.settleStop e o y k d).holds = c.holds := by
  unfold Core.settleStop
  try dsimp only
  repeat' split
  all_goals simp

@[simp] theorem confirmStop_holds (e : Env) (o : OpeningId) (l : Option Bool) (d : DriveOutcome) (c : Core) :
    (c.confirmStop e o l d).holds = c.holds := by
  unfold Core.confirmStop
  try dsimp only
  repeat' split
  all_goals simp

@[simp] theorem requestStop_holds (e : Env) (o : OpeningId) (y : StopCause) (c : Core) :
    (c.requestStop e o y).holds = c.holds := by
  unfold Core.requestStop
  try dsimp only
  repeat' split
  all_goals simp

@[simp] theorem takeOutcome_holds (e : Env) (o : OpeningId) (l : Option Bool) (d : DriveOutcome) (c : Core) :
    (c.takeOutcome e o l d).holds = c.holds := by
  unfold Core.takeOutcome
  try dsimp only
  repeat' split
  all_goals simp

@[simp] theorem recheckDrive_holds (e : Env) (o : OpeningId) (c : Core) :
    (c.recheckDrive e o).holds = c.holds := by
  unfold Core.recheckDrive
  try dsimp only
  repeat' split
  all_goals simp

@[simp] theorem storePosition_holds (e : Env) (o : OpeningId) (p : Position) (c : Core) :
    (c.storePosition e o p).holds = c.holds := by
  unfold Core.storePosition
  try dsimp only
  repeat' split
  all_goals simp

@[simp] theorem storeReport_holds (e : Env) (o : OpeningId) (p : Byte) (l : Option Bool) (c : Core) :
    (c.storeReport e o p l).holds = c.holds := by
  unfold Core.storeReport
  try dsimp only
  repeat' split
  all_goals simp

@[simp] theorem reDrive_holds (e : Env) (o : OpeningId) (i : SlotId) (t : Nat) (k : JobClass) (v : Speed) (c : Core) :
    (c.reDrive e o i t k v).holds = c.holds := by
  unfold Core.reDrive
  try dsimp only
  repeat' split
  all_goals simp

@[simp] theorem retarget_holds (e : Env) (o : OpeningId) (t : Nat) (k : JobClass) (c : Core) :
    (c.retarget e o t k).holds = c.holds := by
  unfold Core.retarget
  try dsimp only
  repeat' split
  all_goals simp

@[simp] theorem startDrive_holds (e : Env) (j : Job) (c : Core) :
    (c.startDrive e j).holds = c.holds := by
  unfold Core.startDrive
  try dsimp only
  repeat' split
  all_goals simp

@[simp] theorem recordWait_holds (o : OpeningId) (w : WaitReason) (c : Core) :
    (c.recordWait o w).holds = c.holds := by
  unfold Core.recordWait
  try dsimp only
  repeat' split
  all_goals simp

@[simp] theorem recordAll_holds (w : WaitReason) (js : List Job) (c : Core) :
    (c.recordAll w js).holds = c.holds :=
  foldl_holds (fun (c : Core) (j : Job) => c.recordWait j.opening w) (fun _ _ => rfl) js c

@[simp] theorem walkOne_holds (e : Env) (f : Option JobClass) (j : Job) (c : Core) :
    ((c.walkOne e f j).2).holds = c.holds := by
  unfold Core.walkOne
  try dsimp only
  repeat' split
  all_goals simp

@[simp] theorem walk_holds (e : Env) (f : Option JobClass) (js : List Job) (c : Core) :
    (c.walk e f js).holds = c.holds := by
  induction js generalizing f c with
  | nil => rfl
  | cons j rest ih =>
    unfold Core.walk
    repeat' split
    all_goals simp [ih]

@[simp] theorem startWalk_holds (e : Env) (c : Core) :
    (c.startWalk e).holds = c.holds := by
  unfold Core.startWalk
  try dsimp only
  repeat' split
  all_goals simp

@[simp] theorem handOn_holds (e : Env) (o : OpeningId) (r : Resolution) (c : Core) :
    (c.handOn e o r).holds = c.holds := by
  unfold Core.handOn
  try dsimp only
  repeat' split
  all_goals simp

@[simp] theorem resolveNext_holds (e : Env) (t : Claims) (c : Core) :
    (c.resolveNext e t).holds = c.holds := by
  unfold Core.resolveNext
  try dsimp only
  repeat' split
  all_goals simp

@[simp] theorem startPass_holds (e : Env) (g : Segment) (c : Core) :
    (c.startPass e g).holds = c.holds := by
  unfold Core.startPass
  rw [foldl_holds _ (fun c o => storePosition_holds e o .unknown c)]
  simp

@[simp] theorem triggerPass_holds (e : Env) (g : Segment) (c : Core) :
    (c.triggerPass e g).holds = c.holds := by
  unfold Core.triggerPass
  try dsimp only
  repeat' split
  all_goals simp

@[simp] theorem suspendPass_holds (g : Segment) (c : Core) :
    (c.suspendPass g).holds = c.holds := by
  unfold Core.suspendPass
  try dsimp only
  repeat' split
  all_goals simp

@[simp] theorem startDuePass_holds (e : Env) (g : Segment) (c : Core) :
    (c.startDuePass e g).holds = c.holds := by
  unfold Core.startDuePass
  try dsimp only
  repeat' split
  all_goals simp

@[simp] theorem passUpkeep_holds (e : Env) (g : Segment) (c : Core) :
    (c.passUpkeep e g).holds = c.holds := by
  unfold Core.passUpkeep
  try dsimp only
  repeat' split
  all_goals simp

@[simp] theorem stopTimers_holds (e : Env) (g : Segment) (c : Core) :
    (c.stopTimers e g).holds = c.holds := by
  unfold Core.stopTimers
  simp

@[simp] theorem suspend_holds (e : Env) (g : Segment) (c : Core) :
    (c.suspend e g).holds = c.holds := by
  unfold Core.suspend
  try dsimp only
  repeat' split
  all_goals simp

@[simp] theorem resume_holds (e : Env) (g : Segment) (c : Core) :
    (c.resume e g).holds = c.holds := by
  unfold Core.resume
  try dsimp only
  repeat' split
  all_goals simp

@[simp] theorem endOrphan_holds (e : Env) (i : SlotId) (c : Core) :
    (c.endOrphan e i).holds = c.holds := by
  unfold Core.endOrphan
  try dsimp only
  repeat' split
  all_goals simp

@[simp] theorem orphanSlot_holds (e : Env) (i : SlotId) (c : Core) :
    (c.orphanSlot e i).holds = c.holds := by
  unfold Core.orphanSlot
  try dsimp only
  repeat' split
  all_goals simp

@[simp] theorem declareLost_holds (e : Env) (o : OpeningId) (c : Core) :
    (c.declareLost e o).holds = c.holds := by
  unfold Core.declareLost
  try dsimp only
  repeat' split
  all_goals simp

@[simp] theorem send_holds (e : Env) (g : Segment) (r : Request) (c : Core) :
    (c.send e g r).holds = c.holds := by
  unfold Core.send
  try dsimp only
  repeat' split
  all_goals simp

@[simp] theorem arbitrate_holds (e : Env) (g : Segment) (c : Core) :
    (c.arbitrate e g).holds = c.holds := by
  unfold Core.arbitrate
  try dsimp only
  repeat' split
  all_goals simp

@[simp] theorem restartProgress_holds (e : Env) (o : OpeningId) (c : Core) :
    (c.restartProgress e o).holds = c.holds := by
  unfold Core.restartProgress
  try dsimp only
  repeat' split
  all_goals simp

@[simp] theorem failStart_holds (e : Env) (o : OpeningId) (c : Core) :
    (c.failStart e o).holds = c.holds := by
  unfold Core.failStart
  try dsimp only
  repeat' split
  all_goals simp

@[simp] theorem missedOnce_holds (e : Env) (o : OpeningId) (b : RequestBody) (c : Core) :
    (c.missedOnce e o b).holds = c.holds := by
  unfold Core.missedOnce
  try dsimp only
  repeat' split
  all_goals simp

@[simp] theorem takeTimeout_holds (e : Env) (g : Segment) (t : Transaction) (c : Core) :
    (c.takeTimeout e g t).holds = c.holds := by
  unfold Core.takeTimeout
  try dsimp only
  repeat' split
  all_goals simp

@[simp] theorem startReply_holds (e : Env) (o : OpeningId) (r : NodeReply) (c : Core) :
    (c.startReply e o r).holds = c.holds := by
  unfold Core.startReply
  try dsimp only
  repeat' split
  all_goals simp

@[simp] theorem stopRefused_holds (e : Env) (o : OpeningId) (c : Core) :
    (c.stopRefused e o).holds = c.holds := by
  unfold Core.stopRefused
  try dsimp only
  repeat' split
  all_goals simp

theorem confirmIfOutcome_holds (e : Env) (o : OpeningId) (r : NodeReply) (f : Core → Core)
    (hf : ∀ c, (f c).holds = c.holds) (c : Core) : (c.confirmIfOutcome e o r f).holds = c.holds := by
  unfold Core.confirmIfOutcome
  repeat' split
  all_goals simp [hf]

@[simp] theorem confirmIfOutcome_holds_id (e : Env) (o : OpeningId) (r : NodeReply) (c : Core) :
    (c.confirmIfOutcome e o r id).holds = c.holds := confirmIfOutcome_holds e o r id (fun _ => rfl) c

@[simp] theorem confirmIfOutcome_holds_stop (e : Env) (o : OpeningId) (r : NodeReply) (y : StopCause) (c : Core) :
    (c.confirmIfOutcome e o r fun c => c.requestStop e o y).holds = c.holds :=
  confirmIfOutcome_holds e o r _ (fun c => requestStop_holds e o y c) c

@[simp] theorem confirmIfOutcome_holds_refused (e : Env) (o : OpeningId) (r : NodeReply) (c : Core) :
    (c.confirmIfOutcome e o r fun c => c.stopRefused e o).holds = c.holds :=
  confirmIfOutcome_holds e o r _ (fun c => stopRefused_holds e o c) c

@[simp] theorem reDriveReply_holds (e : Env) (o : OpeningId) (r : NodeReply) (c : Core) :
    (c.reDriveReply e o r).holds = c.holds := by
  unfold Core.reDriveReply
  try dsimp only
  repeat' split
  all_goals simp

@[simp] theorem stopReply_holds (e : Env) (o : OpeningId) (r : NodeReply) (c : Core) :
    (c.stopReply e o r).holds = c.holds := by
  unfold Core.stopReply
  try dsimp only
  repeat' split
  all_goals simp

@[simp] theorem progressReply_holds (e : Env) (o : OpeningId) (r : NodeReply) (c : Core) :
    (c.progressReply e o r).holds = c.holds := by
  unfold Core.progressReply
  try dsimp only
  repeat' split
  all_goals simp

@[simp] theorem idleReply_holds (e : Env) (o : OpeningId) (b : Position) (r : NodeReply) (c : Core) :
    (c.idleReply e o b r).holds = c.holds := by
  unfold Core.idleReply
  try dsimp only
  repeat' split
  all_goals simp

@[simp] theorem acceptEnroll_holds (e : Env) (o : OpeningId) (a : AbilityReport) (r : NodeReply) (c : Core) :
    (c.acceptEnroll e o a r).holds = c.holds := by
  unfold Core.acceptEnroll
  try dsimp only
  repeat' split
  all_goals simp

@[simp] theorem refuseEnroll_holds (e : Env) (o : OpeningId) (w : FaultReason) (r : NodeReply) (c : Core) :
    (c.refuseEnroll e o w r).holds = c.holds := by
  unfold Core.refuseEnroll
  try dsimp only
  repeat' split
  all_goals simp

@[simp] theorem enrollRefusedNow_holds (e : Env) (o : OpeningId) (r : NodeReply) (c : Core) :
    (c.enrollRefusedNow e o r).holds = c.holds := by
  unfold Core.enrollRefusedNow
  try dsimp only
  repeat' split
  all_goals simp

@[simp] theorem enrollReply_holds (e : Env) (o : OpeningId) (p a : Bool) (r : NodeReply) (c : Core) :
    (c.enrollReply e o p a r).holds = c.holds := by
  unfold Core.enrollReply
  try dsimp only
  repeat' split
  all_goals simp

@[simp] theorem takeReply_holds (e : Env) (g : Segment) (t : Transaction) (r : NodeReply) (c : Core) :
    (c.takeReply e g t r).holds = c.holds := by
  unfold Core.takeReply
  try dsimp only
  repeat' split
  all_goals simp

@[simp] theorem replyArrives_holds (e : Env) (g : Segment) (r : NodeReply) (c : Core) :
    (c.replyArrives e g r).holds = c.holds := by
  unfold Core.replyArrives
  try dsimp only
  repeat' split
  all_goals simp

@[simp] theorem busyArrives_holds (e : Env) (g : Segment) (a : NodeAddress) (c : Core) :
    (c.busyArrives e g a).holds = c.holds := by
  unfold Core.busyArrives
  try dsimp only
  repeat' split
  all_goals simp

@[simp] theorem frameArrives_holds (e : Env) (g : Segment) (bs : List Byte) (gap : Bool) (c : Core) :
    (c.frameArrives e g bs gap).holds = c.holds := by
  unfold Core.frameArrives
  try dsimp only
  repeat' split
  all_goals simp

@[simp] theorem frameSent_holds (e : Env) (g : Segment) (c : Core) :
    (c.frameSent e g).holds = c.holds := by
  unfold Core.frameSent
  try dsimp only
  repeat' split
  all_goals simp

@[simp] theorem pollRound_holds (e : Env) (g : Segment) (c : Core) :
    (c.pollRound e g).holds = c.holds := by
  unfold Core.pollRound
  rw [foldl_holds _ (fun c o => by split <;> simp)]
  simp

@[simp] theorem outageSlot_holds (e : Env) (i : SlotId) (c : Core) :
    (c.outageSlot e i).holds = c.holds := by
  unfold Core.outageSlot
  try dsimp only
  repeat' split
  all_goals simp

@[simp] theorem forgetQueued_holds (o : OpeningId) (c : Core) :
    (c.forgetQueued o).holds = c.holds := by
  unfold Core.forgetQueued
  repeat' split
  all_goals simp

@[simp] theorem outageDrives_holds (e : Env) (c : Core) :
    (c.outageDrives e).holds = c.holds := by
  unfold Core.outageDrives
  rw [foldl_holds _ (fun c o => forgetQueued_holds o c), foldl_holds _ (fun c i => outageSlot_holds e i c)]

@[simp] theorem outage_holds (e : Env) (c : Core) :
    (c.outage e).holds = c.holds := by
  unfold Core.outage
  rw [suspend_holds, suspend_holds, outageDrives_holds]

@[simp] theorem supplyNormal_holds (e : Env) (b : Bool) (c : Core) :
    (c.supplyNormal e b).holds = c.holds := by
  unfold Core.supplyNormal
  try dsimp only
  repeat' split
  all_goals simp

@[simp] theorem shed_holds (e : Env) (c : Core) :
    (c.shed e).holds = c.holds := by
  unfold Core.shed
  try dsimp only
  repeat' split
  all_goals simp

@[simp] theorem clearFault_holds (e : Env) (o : OpeningId) (c : Core) :
    (c.clearFault e o).holds = c.holds := by
  unfold Core.clearFault
  try dsimp only
  repeat' split
  all_goals simp

@[simp] theorem forgetOpening_holds (e : Env) (o : OpeningId) (c : Core) :
    (c.forgetOpening e o).holds = c.holds := by
  unfold Core.forgetOpening
  try dsimp only
  repeat' split
  all_goals simp

@[simp] theorem keepInList_holds (e : Env) (o : OpeningId) (m : Commissioned) (c : Core) :
    (c.keepInList e o m).holds = c.holds := by
  unfold Core.keepInList
  try dsimp only
  repeat' split
  all_goals simp

@[simp] theorem claimRemoved_holds (e : Env) (y : ExpiryReason) (x : Claim) (c : Core) :
    (c.claimRemoved e y x).holds = c.holds := by
  unfold Core.claimRemoved
  try dsimp only
  repeat' split
  all_goals simp

@[simp] theorem recheckAll_holds (e : Env) (os : List OpeningId) (c : Core) :
    (c.recheckAll e os).holds = c.holds :=
  foldl_holds _ (fun c o => recheckDrive_holds e o c) os c

end Sys2Proof.Machine
end

