-- ==== Sys2Proof/Laws/Core.lean ====
section
/-! SUPPORT. Reading the drive core after an update: a record, a slot's opening, a pending request. -/

namespace Sys2Proof.Machine

@[simp] theorem live_setLive_same (c : Core) (o : OpeningId) (f : Live → Live) :
    (c.setLive o f).live o = f (c.live o) := by
  simp [Core.live]

theorem live_setLive_ne (c : Core) (o q : OpeningId) (f : Live → Live) (h : q ≠ o) :
    (c.setLive o f).live q = c.live q := by
  simp [Core.live, look_put_ne _ _ _ _ h]

theorem live_setLive (c : Core) (o q : OpeningId) (f : Live → Live) :
    (c.setLive o f).live q = if q = o then f (c.live o) else c.live q := by
  by_cases h : q = o
  · subst h; simp
  · simp [live_setLive_ne _ _ _ _ h, h]

@[simp] theorem live_setSegment (c : Core) (g : Segment) (f : SegmentCtl → SegmentCtl) (o : OpeningId) : (c.setSegment g f).live o = c.live o := rfl

@[simp] theorem live_setHold (c : Core) (g : Segment) (f : Hold → Hold) (o : OpeningId) : (c.setHold g f).live o = c.live o := rfl

@[simp] theorem live_hand (c : Core) (h : Happening) (o : OpeningId) : (c.hand h).live o = c.live o := rfl

@[simp] theorem live_join (c : Core) (p : OpeningId) (o : OpeningId) : (c.join p).live o = c.live o := rfl

@[simp] theorem live_trigger (c : Core) (o : OpeningId) : (c.trigger).live o = c.live o := rfl

@[simp] theorem live_setSlot (c : Core) (i : SlotId) (f : Slot → Slot) (o : OpeningId) : (c.setSlot i f).live o = c.live o := rfl

@[simp] theorem live_removeJob (c : Core) (p : OpeningId) (o : OpeningId) : (c.removeJob p).live o = c.live o := rfl

@[simp] theorem live_ask (c : Core) (e : Env) (p : OpeningId) (b : RequestBody) (o : OpeningId) : (c.ask e p b).live o = c.live o := rfl

@[simp] theorem live_withdraw (c : Core) (e : Env) (p : OpeningId) (w : RequestBody → Bool) (o : OpeningId) : (c.withdraw e p w).live o = c.live o := rfl

@[simp] theorem live_leaveList (c : Core) (e : Env) (p : OpeningId) (o : OpeningId) : (c.leaveList e p).live o = c.live o := rfl

@[simp] theorem live_setCount (c : Core) (g : Segment) (a : NodeAddress) (n : Nat) (o : OpeningId) : (c.setCount g a n).live o = c.live o := rfl

@[simp] theorem live_endTransaction (c : Core) (e : Env) (g : Segment) (o : OpeningId) : (c.endTransaction e g).live o = c.live o := rfl

@[simp] theorem live_makeDue (c : Core) (g : Segment) (o : OpeningId) : (c.makeDue g).live o = c.live o := rfl

@[simp] theorem slotOf_setSegment (c : Core) (g : Segment) (f : SegmentCtl → SegmentCtl) (o : OpeningId) : (c.setSegment g f).slotOf o = c.slotOf o := rfl

@[simp] theorem slotOf_setHold (c : Core) (g : Segment) (f : Hold → Hold) (o : OpeningId) : (c.setHold g f).slotOf o = c.slotOf o := rfl

@[simp] theorem slotOf_hand (c : Core) (h : Happening) (o : OpeningId) : (c.hand h).slotOf o = c.slotOf o := rfl

@[simp] theorem slotOf_join (c : Core) (p : OpeningId) (o : OpeningId) : (c.join p).slotOf o = c.slotOf o := rfl

@[simp] theorem slotOf_trigger (c : Core) (o : OpeningId) : (c.trigger).slotOf o = c.slotOf o := rfl

@[simp] theorem slotOf_removeJob (c : Core) (p : OpeningId) (o : OpeningId) : (c.removeJob p).slotOf o = c.slotOf o := rfl

@[simp] theorem slotOf_ask (c : Core) (e : Env) (p : OpeningId) (b : RequestBody) (o : OpeningId) : (c.ask e p b).slotOf o = c.slotOf o := rfl

@[simp] theorem slotOf_withdraw (c : Core) (e : Env) (p : OpeningId) (w : RequestBody → Bool) (o : OpeningId) : (c.withdraw e p w).slotOf o = c.slotOf o := rfl

@[simp] theorem slotOf_leaveList (c : Core) (e : Env) (p : OpeningId) (o : OpeningId) : (c.leaveList e p).slotOf o = c.slotOf o := rfl

@[simp] theorem slotOf_setCount (c : Core) (g : Segment) (a : NodeAddress) (n : Nat) (o : OpeningId) : (c.setCount g a n).slotOf o = c.slotOf o := rfl

@[simp] theorem slotOf_endTransaction (c : Core) (e : Env) (g : Segment) (o : OpeningId) : (c.endTransaction e g).slotOf o = c.slotOf o := rfl

@[simp] theorem slotOf_makeDue (c : Core) (g : Segment) (o : OpeningId) : (c.makeDue g).slotOf o = c.slotOf o := rfl

@[simp] theorem slotOf_setLive (c : Core) (p o : OpeningId) (f : Live → Live) :
    (c.setLive p f).slotOf o = c.slotOf o := rfl

/-- The slot slotOf gives is occupied by the opening. -/
theorem slotOf_occupied (c : Core) (o : OpeningId) (i : SlotId) (h : c.slotOf o = some i) :
    ∃ x : Slot, look c.slots i = some x ∧ x.opening = o := by
  have := lowest_passes _ _ _ h
  cases hx : look c.slots i with
  | none => simp [hx] at this
  | some x => exact ⟨x, rfl, by simpa [hx] using this⟩

/-- An opening without a slot occupies none. -/
theorem slotOf_none (c : Core) (o : OpeningId) (h : c.slotOf o = none) (i : SlotId) (x : Slot)
    (hx : look c.slots i = some x) : x.opening ≠ o := by
  have := (lowest_eq_none _ _).1 h i
  simpa [hx] using this

/-- A request asked for is pending. -/
theorem find_addRequest (r : Request) (rs : List Request) :
    ((addRequest r rs).find? fun x => decide (x.opening = r.opening) && x.body.kind == r.body.kind).isSome = true := by
  induction rs with
  | nil => simp [addRequest]
  | cons x rest ih =>
    unfold addRequest
    split
    · next h =>
      have hk : (x.body.merge r.body).kind = x.body.kind := by
        cases hx : x.body <;> cases hr : r.body <;> first | rfl | simp [hx, hr, RequestBody.kind] at h
      simp [h.1, hk, h.2]
    · next h =>
      rw [List.find?_cons]
      split
      · rfl
      · exact ih

theorem pendingOf_ask (e : Env) (c : Core) (o : OpeningId) (b : RequestBody) :
    ((c.ask e o b).pendingOf e o b.kind).isSome = true := by
  simp only [Core.pendingOf, Core.ask, Core.setSegment_segments, PerSegment.get_set_same]
  exact find_addRequest { opening := o, body := b, stamp := e.now } _

/-- A slot freed: it is empty, its opening's drive requests are gone, and a start walk is triggered (R98). -/
theorem freeSlot_eq (e : Env) (c : Core) (i : SlotId) (x : Slot) (h : look c.slots i = some x) :
    c.freeSlot e i = ({ c with slots := put c.slots i none }.withdraw e x.opening RequestBody.ofDrive).trigger := by
  unfold Core.freeSlot
  rw [h]

@[simp] theorem live_freeSlot (e : Env) (c : Core) (i : SlotId) (o : OpeningId) :
    (c.freeSlot e i).live o = c.live o := by
  unfold Core.freeSlot
  split <;> rfl

theorem look_freeSlot_same (e : Env) (c : Core) (i : SlotId) : look (c.freeSlot e i).slots i = none := by
  unfold Core.freeSlot
  split
  · assumption
  · simp

theorem look_freeSlot_ne (e : Env) (c : Core) (i j : SlotId) (h : j ≠ i) :
    look (c.freeSlot e i).slots j = look c.slots j := by
  unfold Core.freeSlot
  split
  · rfl
  · simp [look_put_ne _ _ _ _ h]

/-! ### What the core reads of the other blocks -/

@[simp] theorem env_atMoment (s : State) (m : Nat) : (s.atMoment m).env = { s.env with now := max s.clock m } := rfl

@[simp] theorem com_atMoment (s : State) (m : Nat) (o : OpeningId) : (s.atMoment m).env.com o = s.env.com o := rfl

@[simp] theorem segment_atMoment (s : State) (m : Nat) (o : OpeningId) :
    (s.atMoment m).env.segment o = s.env.segment o := rfl

/-- The pending request of an opening depends on the moment in no way. -/
@[simp] theorem pendingOf_atMoment (s : State) (m : Nat) (c : Core) (o : OpeningId) (k : Nat) :
    c.pendingOf (s.atMoment m).env o k = c.pendingOf s.env o k := rfl

/-! ### Invariants of parts that an update leaves alone -/

/-- A command that leaves the claims keeps the table's invariant. -/
theorem ClaimsWf_of_eq (s t : State) (h : t.claims = s.claims) (w : ClaimsWf s) : ClaimsWf t := by
  unfold ClaimsWf
  rw [h]
  exact w

theorem WorkWf_of_eq (s t : State) (h : t.work = s.work) (w : WorkWf s) : WorkWf t := by
  unfold WorkWf
  rw [h]
  exact w

theorem SectorWf_of_eq (s t : State) (h : t.weather = s.weather) (w : SectorWf s) : SectorWf t := by
  unfold SectorWf
  rw [h]
  exact w

theorem LatchesWf_of_eq (s t : State) (h : t.weather = s.weather) (w : LatchesWf s) : LatchesWf t := by
  unfold LatchesWf
  rw [h]
  exact w

theorem AttnWf_of_eq (s t : State) (hp : t.phase = s.phase) (h : t.core.notices = s.core.notices) (w : AttnWf s) :
    AttnWf t := by
  unfold AttnWf
  rw [h, show t.inReset = s.inReset by unfold State.inReset; rw [hp]]
  exact w

theorem HoldsWf_of_eq (s t : State) (hp : t.phase = s.phase) (h : t.core.holds = s.core.holds) (w : HoldsWf s) :
    HoldsWf t := by
  unfold HoldsWf
  rw [h, show t.inReset = s.inReset by unfold State.inReset; rw [hp]]
  exact w

/-- A happening derives ATTN again on the ports it is latched on, so ports that are as derived stay so (R185). -/
theorem hand_derived (n : Notices) (h : Happening)
    (w : ∀ p : Role, (n.ports.get p).attn = (((n.ports.get p).latch &&& (n.ports.get p).mask) != 0#11)) (p : Role) :
    ((n.hand h).ports.get p).attn = ((((n.hand h).ports.get p).latch &&& ((n.hand h).ports.get p).mask) != 0#11) := by
  simp only [Notices.hand, PerPort.get_mapWith]
  split
  · rfl
  · exact w p

/-- A latched kind stays latched through a happening (R184). -/
theorem hand_keeps (n : Notices) (h : Happening) (p : Role) (k : EventKind)
    (w : hasKind (n.ports.get p).latch k = true) : hasKind ((n.hand h).ports.get p).latch k = true := by
  simp only [Notices.hand, PerPort.get_mapWith]
  split
  · simp only [hasKind] at w
    simp [NoticePort.latchEvent, NoticePort.deriveAttn, hasKind, w]
  · exact w

end Sys2Proof.Machine
end

