-- ==== Sys2Proof/Laws/Exec.lean ====
section
/-! SUPPORT. What exec answers for each event: always a next state, that of the event's meaning. -/

namespace Sys2Proof.Machine

theorem exec_requestFrameArrival (p : Role) (frame : List RxByte) (s : State) :
    exec (.requestFrameArrival p frame) s =
      .next (s.unlessHeld fun s =>
        let r := s.completeFrame p frame
        r.1.takeBytes p r.2) := rfl

theorem exec_frameGapTimeout (p : Role) (s : State) :
    exec (.frameGapTimeout p) s =
      .next (s.unlessHeld fun s => s.frameGap p) := rfl

theorem exec_replySent (p : Role) (s : State) :
    exec (.replySent p) s =
      .next (s.unlessHeld fun s => s.replyLeaves p) := rfl

theorem exec_byteReceived (p : Role) (b : RxByte) (s : State) :
    exec (.byteReceived p b) s =
      .next (s.unlessHeld fun s =>
        let r := s.takeByte p b
        r.1.takeBytes p r.2) := rfl

theorem exec_powerOnReset (s : State) :
    exec .powerOnReset s =
      .next (s.enterReset .powerOn) := rfl

theorem exec_logicSupplyFall (micros : Nat) (s : State) :
    exec (.logicSupplyFall micros) s =
      .next (if logicFallMicros < micros then s.enterReset .powerOn else s) := rfl

theorem exec_resetPinAssert (s : State) :
    exec .resetPinAssert s =
      .next (s.enterReset .pin) := rfl

theorem exec_loadEvent (s : State) :
    exec .loadEvent s =
      .next (if s.inReset then s.load else s) := rfl

theorem exec_noticeEvent (s : State) :
    exec .noticeEvent s =
      .next (match s.phase with
        | .loaded => s.announce
        | .held _ => s
        | .running => s) := rfl

theorem exec_saveCompletion (intact : Bool) (s : State) :
    exec (.saveCompletion intact) s =
      .next (s.unlessHeld fun s => if s.store.state = .saving then s.saveEnds intact else s) := rfl

theorem exec_rainContactChange (x : RainContact) (raw : Wetness) (s : State) :
    exec (.rainContactChange x raw) s =
      .next (({ s with inputs := s.inputs.setRain x raw } : State).unlessHeld fun s =>
        let f := (s.weather.filter x).take s.clock (seconds s.work.settings.rainFilterTime) raw
        { s with weather := s.weather.setFilter x f }) := rfl

theorem exec_rainFilterExpiry (x : RainContact) (s : State) :
    exec (.rainFilterExpiry x) s =
      .next (s.skyExpiry (s.weather.filter x).timer fun e k => k.rainFilterEnds e x) := rfl

theorem exec_dryOutExpiry (s : State) :
    exec .dryOutExpiry s =
      .next (s.skyExpiry s.weather.dryOut Sky.dryOutEnds) := rfl

theorem exec_anemometerPulse (micros : Nat) (s : State) :
    exec (.anemometerPulse micros) s =
      .next (s.unlessHeld fun s =>
        if pulseMinMicros ≤ micros then { s with weather := { s.weather with pulses := s.weather.pulses + 1 } } else s) := rfl

theorem exec_gustWindowEnd (s : State) :
    exec .gustWindowEnd s =
      .next (s.skyExpiry (startTimer s.weather.windowFrom gustWindowMs) Sky.gustEnds) := rfl

theorem exec_vaneChange (lines : BitVec 3) (s : State) :
    exec (.vaneChange lines) s =
      .next (if s.inputs.vane = lines then s
        else
          ({ s with inputs := { s.inputs with vane := lines } } : State).unlessHeld fun s =>
            (s.onSky fun e k => k.vaneReads e (sectorOf lines)).settled) := rfl

theorem exec_stabilityTimerExpiry (s : State) :
    exec .stabilityTimerExpiry s =
      .next (s.skyExpiry (s.weather.stability.map Stability.timer) Sky.sectorSettles) := rfl

theorem exec_advisoryMinuteMark (s : State) :
    exec .advisoryMinuteMark s =
      .next (s.skyExpiry (s.weather.advisory.bind fun a => startTimer a.markFrom minuteMs) Sky.minuteMark) := rfl

theorem exec_standDownExpiry (s : State) :
    exec .standDownExpiry s =
      .next (s.skyExpiry s.weather.standDown Sky.standDownEnds) := rfl

theorem exec_warmUpExpiry (s : State) :
    exec .warmUpExpiry s =
      .next (s.skyExpiry s.weather.warmUp Sky.warmUpEnds) := rfl

theorem exec_agingSweep (s : State) :
    exec .agingSweep s =
      .next (s.expiry (startTimer s.claims.sweepFrom (seconds s.work.settings.agingPeriod)) State.agingSweep) := rfl

theorem exec_resolveOpening (s : State) :
    exec .resolveOpening s =
      .next (s.coreEvent fun e c => c.resolveNext e s.claims) := rfl

theorem exec_startWalk (s : State) :
    exec .startWalk s =
      .next (s.coreEvent Core.startWalk) := rfl

theorem exec_runLimitExpiry (i : SlotId) (s : State) :
    exec (.runLimitExpiry i) s =
      .next (s.coreExpiry (s.core.runTimerOf i) fun e c => c.runLimitEnds e i) := rfl

theorem exec_orphanHoldEnd (i : SlotId) (s : State) :
    exec (.orphanHoldEnd i) s =
      .next (s.coreExpiry (s.core.orphanTimerOf i) fun e c => c.endOrphan e i) := rfl

theorem exec_restTimerExpiry (o : OpeningId) (s : State) :
    exec (.restTimerExpiry o) s =
      .next (s.coreExpiry (s.core.live o).restTimer fun _ c => c.enterIdle o) := rfl

theorem exec_dwellTimerExpiry (o : OpeningId) (s : State) :
    exec (.dwellTimerExpiry o) s =
      .next (s.coreExpiry (s.core.live o).dwellTimer fun _ c => c.enterIdle o) := rfl

theorem exec_turnaroundEnd (g : Segment) (s : State) :
    exec (.turnaroundEnd g) s =
      .next (s.coreExpiry (s.core.segments.get g).turnaround fun _ c =>
        c.setSegment g fun x => { x with turnaround := none }) := rfl

theorem exec_nodeFrameSent (g : Segment) (s : State) :
    exec (.nodeFrameSent g) s =
      .next (s.coreEvent fun e c => c.frameSent e g) := rfl

theorem exec_nodeReply (g : Segment) (r : NodeReply) (s : State) :
    exec (.nodeReply g r) s =
      .next (s.coreEvent fun e c => c.replyArrives e g r) := rfl

theorem exec_nodeReplyBusy (g : Segment) (a : NodeAddress) (s : State) :
    exec (.nodeReplyBusy g a) s =
      .next (s.coreEvent fun e c => c.busyArrives e g a) := rfl

theorem exec_invalidNodeFrame (g : Segment) (bytes : List Byte) (gap : Bool) (s : State) :
    exec (.invalidNodeFrame g bytes gap) s =
      .next (s.coreEvent fun e c => c.frameArrives e g bytes gap) := rfl

theorem exec_replyWindowExpiry (g : Segment) (s : State) :
    exec (.replyWindowExpiry g) s =
      .next (s.coreExpiry (s.core.segments.get g).window fun e c => c.windowEnds e g) := rfl

theorem exec_progressPollTimerExpiry (i : SlotId) (s : State) :
    exec (.progressPollTimerExpiry i) s =
      .next (s.coreExpiry ((look s.core.slots i).bind Slot.progressPoll) fun e c => c.progressDue e i) := rfl

theorem exec_idlePollRound (g : Segment) (s : State) :
    exec (.idlePollRound g) s =
      .next (s.coreExpiry (s.core.segments.get g).roundTimer fun e c => c.pollRound e g) := rfl

theorem exec_followPollTimerExpiry (o : OpeningId) (s : State) :
    exec (.followPollTimerExpiry o) s =
      .next (s.coreExpiry (s.core.live o).followPoll fun e c =>
        (c.setLive o fun l => { l with followPoll := none }).ask e o .idlePoll) := rfl

theorem exec_reProbeTimerExpiry (o : OpeningId) (s : State) :
    exec (.reProbeTimerExpiry o) s =
      .next (s.coreExpiry (s.core.live o).reProbeTimer fun e c => c.reProbeDue e o) := rfl

theorem exec_enrollmentRetry (o : OpeningId) (s : State) :
    exec (.enrollmentRetry o) s =
      .next (s.coreExpiry (s.core.live o).retryTimer fun e c =>
        (c.setLive o fun l => { l with reProbe := none }).ask e o (.enroll false true false)) := rfl

theorem exec_holdreqChange (g : Segment) (raw : Bool) (s : State) :
    exec (.holdreqChange g raw) s =
      .next (({ s with inputs := { s.inputs with holdreq := s.inputs.holdreq.set g raw } } : State).unlessHeld fun s =>
        { s with core := s.core.setHold g fun h => h.take s.clock raw }) := rfl

theorem exec_holdreqFilterExpiry (g : Segment) (s : State) :
    exec (.holdreqFilterExpiry g) s =
      .next (s.coreExpiry (s.core.holds.get g).filterTimer fun e c => c.holdreqSettles e g) := rfl

theorem exec_reclaimTimerExpiry (g : Segment) (s : State) :
    exec (.reclaimTimerExpiry g) s =
      .next (s.coreExpiry (s.core.holds.get g).reclaimTimer fun e c => c.revoke e g) := rfl

theorem exec_returningTimerExpiry (g : Segment) (s : State) :
    exec (.returningTimerExpiry g) s =
      .next (s.coreExpiry (s.core.holds.get g).returningTimer fun e c => c.returned e g) := rfl

theorem exec_motorVoltageChange (v : Nat) (s : State) :
    exec (.motorVoltageChange v) s =
      .next (({ s with inputs := { s.inputs with voltage := min v 600 } } : State).unlessHeld fun s =>
        s.judgeSupply.settled) := rfl

theorem exec_rideThroughExpiry (s : State) :
    exec .rideThroughExpiry s =
      .next (s.expiry s.supply.rideThrough fun s => (s.enterSupply .out).settled) := rfl

theorem exec_mainsLineChange (raw : MainsState) (s : State) :
    exec (.mainsLineChange raw) s =
      .next (({ s with inputs := { s.inputs with mainsLine := raw } } : State).unlessHeld fun s =>
        { s with supply := s.supply.takeMains s.clock raw }) := rfl

theorem exec_mainsFilterExpiry (s : State) :
    exec .mainsFilterExpiry s =
      .next (s.expiry s.supply.mainsFilter State.mainsChanges) := rfl

theorem exec_measuredCurrentChange (i : Nat) (s : State) :
    exec (.measuredCurrentChange i) s =
      .next (({ s with inputs := { s.inputs with current := min i 999 } } : State).unlessHeld fun s =>
        s.judgePause.judgeTrip) := rfl

theorem exec_pauseLimitExpiry (s : State) :
    exec .pauseLimitExpiry s =
      .next (s.expiry s.supply.pauseLimit State.pauseLimitEnds) := rfl

theorem exec_tripTimerExpiry (s : State) :
    exec .tripTimerExpiry s =
      .next (s.expiry s.supply.trip fun s => s.tripEnds.settled) := rfl

/-- Every command answers a next state: nothing stops the part. -/
theorem exec_next (c : Instr) (s : State) : ∃ t : State, exec c s = .next t := by
  cases c <;> exact ⟨_, rfl⟩

end Sys2Proof.Machine
end

