-- ==== Sys2Proof/Laws/Passes.lean ====
section
/-! SUPPORT. What shared operations of the drive core can do, each said once: the withdrawal test of R90, the start of a
pass, a failure, and the states a confirmed stop leads to. -/

namespace Sys2Proof.Machine

/-! ### The withdrawal test of R90 -/

/-- A stop request taken for a DRIVING opening whose DRIVE has been sent. -/
theorem requestStop_driving (e : Env) (o : OpeningId) (cause : StopCause) (c : Core) (i : SlotId)
    (hd : (c.live o).state = .driving) (hi : c.slotOf o = some i) (hu : c.startUnsent e o = false) :
    c.requestStop e o cause =
      (((c.setLive o fun l => { l with state := .stopping, stopCause := some cause }).setSlot i Slot.stopped).withdraw
        e o RequestBody.ofRunning).ask e o .stop := by
  unfold Core.requestStop
  simp only [hd, hi, hu, Bool.false_eq_true, if_false]
  rfl

/-- The withdrawal test of R90 leaves the core as it is, returns a withdrawn start's job to the head of its band, asks
for a STOP, or changes the cause of a pending stop. -/
theorem recheckDrive_cases (e : Env) (o : OpeningId) (c : Core) (P : Core → Prop) (stays : P c)
    (returns : ∀ (i : SlotId) (x : Slot), c.slotOf o = some i → look c.slots i = some x →
      P ((c.freeSlot e i).enqueue e o x.target x.cls .head))
    (stops : ∀ (i : SlotId) (cause : StopCause), (c.live o).state = .driving → c.slotOf o = some i →
      P ((((c.setLive o fun l => { l with state := .stopping, stopCause := some cause }).setSlot i
        Slot.stopped).withdraw e o RequestBody.ofRunning).ask e o .stop))
    (changes : ∀ cause : StopCause, (c.live o).state = .stopping →
      P (c.setLive o fun l => { l with stopCause := l.stopCause.map fun held => held.overtake cause })) :
    P (c.recheckDrive e o) := by
  unfold Core.recheckDrive
  split
  · exact stays
  · next r hr =>
    split
    · next t v start hb =>
      split
      · exact stays
      · next cause _ =>
        split
        · split
          · exact stays
          · next i hi =>
            split
            · exact stays
            · next x hx => exact returns i x hi hx
        · next hst =>
          have hu : c.startUnsent e o = false := by simpa [Core.startUnsent, hr, hb] using hst
          cases hs : (c.live o).state with
          | driving =>
            cases hi : c.slotOf o with
            | none => simpa only [Core.requestStop, hs, hi] using stays
            | some i =>
              rw [requestStop_driving e o cause c i hs hi hu]
              exact stops i cause hs hi
          | stopping => simpa only [Core.requestStop, hs] using changes cause hs
          | _ => simpa only [Core.requestStop, hs] using stays
    · exact stays

/-- What the withdrawal test of R90 for one opening leaves: the other records, the position, the pending-resolution set,
the other segment, of its own segment all but the requests, the notices and the holds. -/
structure RecheckLeaves (e : Env) (o : OpeningId) (c d : Core) : Prop where
  live : ∀ q : OpeningId, q ≠ o → d.live q = c.live q
  position : (d.live o).position = (c.live o).position
  resolveSet : d.resolveSet = c.resolveSet
  segment : ∀ g : Segment, g ≠ e.segment o → d.segments.get g = c.segments.get g
  pass : ∀ g : Segment, (d.segments.get g).pass = (c.segments.get g).pass
  resync : ∀ g : Segment, (d.segments.get g).resync = (c.segments.get g).resync
  turnaround : ∀ g : Segment, (d.segments.get g).turnaround = (c.segments.get g).turnaround
  roundTimer : ∀ g : Segment, (d.segments.get g).roundTimer = (c.segments.get g).roundTimer
  counts : ∀ g : Segment, (d.segments.get g).counts = (c.segments.get g).counts
  notices : d.notices = c.notices
  holds : d.holds = c.holds

theorem RecheckLeaves_refl (e : Env) (o : OpeningId) (c : Core) : RecheckLeaves e o c c :=
  ⟨fun _ _ => rfl, rfl, rfl, fun _ _ => rfl, fun _ => rfl, fun _ => rfl, fun _ => rfl, fun _ => rfl, fun _ => rfl, rfl,
    rfl⟩

/-- A Segment Controller after a change of one. -/
theorem segments_get_setSegment (c : Core) (g h : Segment) (f : SegmentCtl → SegmentCtl) :
    (c.setSegment g f).segments.get h = if h = g then f (c.segments.get g) else c.segments.get h := by
  by_cases e : h = g
  · subst e; simp
  · simp [e, PerSegment.get_set_ne _ _ _ _ e]

theorem recheckDrive_leaves (e : Env) (o : OpeningId) (c : Core) : RecheckLeaves e o c (c.recheckDrive e o) := by
  apply recheckDrive_cases e o c (RecheckLeaves e o c)
  · exact RecheckLeaves_refl e o c
  · intro i x hi hx
    obtain ⟨y, hy, ho⟩ := slotOf_occupied _ _ _ hi
    rw [hx] at hy; cases hy
    rw [freeSlot_eq _ _ _ _ hx, ho]
    refine ⟨fun q hq => ?_, ?_, by simp, fun g hg => ?_, fun g => ?_, fun g => ?_, fun g => ?_, fun g => ?_, fun g => ?_,
      by simp, by simp⟩
    · simp [Core.enqueue, live_setLive_ne _ _ _ _ hq]; rfl
    · simp [Core.enqueue]; rfl
    all_goals simp only [Core.enqueue_segments, Core.trigger_segments, Core.withdraw, segments_get_setSegment]
    · rw [if_neg hg]
    all_goals (split <;> simp_all)
  · intro i cause _ _
    refine ⟨fun q hq => ?_, ?_, by simp, fun g hg => ?_, fun g => ?_, fun g => ?_, fun g => ?_, fun g => ?_, fun g => ?_,
      by simp, by simp⟩
    · simp [live_setLive_ne _ _ _ _ hq]
    · simp
    all_goals simp only [Core.ask, Core.withdraw, segments_get_setSegment]
    · rw [if_neg hg, if_neg hg]; rfl
    all_goals (split <;> simp_all)
  · intro cause _
    refine ⟨fun q hq => ?_, ?_, rfl, fun _ _ => rfl, fun _ => rfl, fun _ => rfl, fun _ => rfl, fun _ => rfl, fun _ => rfl,
      rfl, rfl⟩
    · simp [live_setLive_ne _ _ _ _ hq]
    · simp

/-- The slot a re-drive leaves (R93): target, class, speed, direction and deadline new, the rest kept. -/
theorem reDrive_slot (e : Env) (o : OpeningId) (i : SlotId) (target : Nat) (cls : JobClass) (speed : Speed) (c : Core)
    (x : Slot) (hx : look c.slots i = some x) :
    look (c.reDrive e o i target cls speed).slots i =
      some { x with target := target, cls := cls, speed := speed,
                    direction := directionOf (c.live o).position target,
                    runDeadline := e.now + runLimit (((c.live o).ability.map Ability.stroke).getD 0) speed } := by
  simp [Core.reDrive, Core.ask, Core.setSlot, hx]

/-- Two changes of one record are one. -/
theorem setLive_setLive (c : Core) (o : OpeningId) (f g : Live → Live) :
    (c.setLive o f).setLive o g = c.setLive o fun l => g (f l) := by
  unfold Core.setLive
  dsimp only
  congr 1
  apply table_ext
  intro i
  simp only [Core.live, look_put]
  split <;> simp_all

/-- With no DRIVE unsent the withdrawal test of R90 changes nothing. -/
theorem recheckDrive_quiet (e : Env) (o : OpeningId) (c : Core) (h : c.pendingOf e o 1 = none) :
    c.recheckDrive e o = c := by unfold Core.recheckDrive; rw [h]

/-- With no DRIVE unsent a good reply's position and lock are stored and nothing else happens (R8, R10). -/
theorem storeReport_quiet (e : Env) (o : OpeningId) (position : Byte) (locked : Option Bool) (c : Core)
    (h : c.pendingOf e o 1 = none) :
    c.storeReport e o position locked = c.setLive o fun l =>
      { l with locked := storedLock l locked, position := storedPosition l.ability position } := by
  unfold Core.storeReport Core.storePosition
  split
  · next hp =>
    have hp' : (c.live o).position = storedPosition (c.live o).ability position := by simpa using hp
    unfold Core.setLive
    dsimp only
    rw [← hp']
  · rw [recheckDrive_quiet _ _ _ (by exact h), setLive_setLive]
    unfold Core.setLive
    dsimp only

/-! ### The start of a pass (R136) -/

theorem storePosition_unknown_leaves (e : Env) (o : OpeningId) (c : Core) :
    RecheckLeaves e o (c.setLive o fun l => { l with position := .unknown }) (c.storePosition e o .unknown) := by
  unfold Core.storePosition
  split
  · next h =>
    have same : (c.setLive o fun l => { l with position := .unknown }) = c := by
      have : ({ c.live o with position := .unknown } : Live) = look c.openings o := by rw [← h]; rfl
      unfold Core.setLive
      dsimp only
      rw [this, put_look]
    rw [same]
    exact RecheckLeaves_refl e o c
  · exact recheckDrive_leaves e o _

/-- What the positions of several openings, made UNKNOWN in turn, leave. -/
structure SweepLeaves (e : Env) (os : List OpeningId) (c d : Core) : Prop where
  live : ∀ q : OpeningId, q ∉ os → d.live q = c.live q
  position : ∀ q ∈ os, (d.live q).position = .unknown
  resolveSet : d.resolveSet = c.resolveSet
  segment : ∀ g : Segment, (∀ o ∈ os, g ≠ e.segment o) → d.segments.get g = c.segments.get g
  pass : ∀ g : Segment, (d.segments.get g).pass = (c.segments.get g).pass
  resync : ∀ g : Segment, (d.segments.get g).resync = (c.segments.get g).resync
  turnaround : ∀ g : Segment, (d.segments.get g).turnaround = (c.segments.get g).turnaround
  roundTimer : ∀ g : Segment, (d.segments.get g).roundTimer = (c.segments.get g).roundTimer
  counts : ∀ g : Segment, (d.segments.get g).counts = (c.segments.get g).counts
  notices : d.notices = c.notices
  holds : d.holds = c.holds

theorem sweep_leaves (e : Env) (os : List OpeningId) (c : Core) :
    SweepLeaves e os c (os.foldl (fun c o => c.storePosition e o .unknown) c) := by
  induction os generalizing c with
  | nil =>
    exact ⟨fun _ _ => rfl, fun _ h => by simp at h, rfl, fun _ _ => rfl, fun _ => rfl, fun _ => rfl, fun _ => rfl,
      fun _ => rfl, fun _ => rfl, rfl, rfl⟩
  | cons o rest ih =>
    rw [List.foldl_cons]
    have a := storePosition_unknown_leaves e o c
    have b := ih (c.storePosition e o .unknown)
    refine ⟨fun q hq => ?_, fun q hq => ?_, ?_, fun g hg => ?_, fun g => ?_, fun g => ?_, fun g => ?_, fun g => ?_,
      fun g => ?_, ?_, ?_⟩
    · simp at hq
      rw [b.live q hq.2, a.live q hq.1, live_setLive_ne _ _ _ _ hq.1]
    · by_cases h : q ∈ rest
      · exact b.position q h
      · have : q = o := by simpa [h] using hq
        subst this
        rw [b.live q h, a.position]; simp
    · rw [b.resolveSet, a.resolveSet]; rfl
    · rw [b.segment g (fun x hx => hg x (by simp [hx])), a.segment g (hg o (by simp))]; rfl
    · rw [b.pass, a.pass]; rfl
    · rw [b.resync, a.resync]; rfl
    · rw [b.turnaround, a.turnaround]; rfl
    · rw [b.roundTimer, a.roundTimer]; rfl
    · rw [b.counts, a.counts]; rfl
    · rw [b.notices, a.notices]; rfl
    · rw [b.holds, a.holds]; rfl

/-- A pass begun on a segment: the list, the positions, and what it leaves. -/
structure PassStarts (e : Env) (g : Segment) (c d : Core) : Prop where
  pass : (d.segments.get g).pass = .running
  resync : ∀ o : OpeningId, o ∈ (d.segments.get g).resync ↔
    (e.com o).present = true ∧ (e.com o).segment = g ∧ (c.live o).state ≠ .faulted
  position : ∀ o : OpeningId, (e.com o).present = true → (e.com o).segment = g → (d.live o).position = .unknown
  live : ∀ o : OpeningId, (e.com o).segment ≠ g → d.live o = c.live o
  segment : ∀ h : Segment, h ≠ g → d.segments.get h = c.segments.get h
  turnaround : (d.segments.get g).turnaround = (c.segments.get g).turnaround
  roundTimer : (d.segments.get g).roundTimer = (c.segments.get g).roundTimer
  resolveSet : d.resolveSet = c.resolveSet
  notices : d.notices = c.notices
  holds : d.holds = c.holds

@[simp] theorem mem_presentOn (e : Env) (g : Segment) (o : OpeningId) :
    o ∈ e.presentOn g ↔ (e.com o).present = true ∧ (e.com o).segment = g := by
  simp [Env.presentOn]

theorem startPass_starts (e : Env) (g : Segment) (c : Core) : PassStarts e g c (c.startPass e g) := by
  have on : ∀ o ∈ e.presentOn g, e.segment o = g := fun o ho => ((mem_presentOn e g o).1 ho).2
  unfold Core.startPass
  dsimp only
  have w := sweep_leaves e (e.presentOn g) (c.setSegment g fun s =>
    { s.dropPass .running with resync := (e.presentOn g).filter fun o => decide ((c.live o).state ≠ .faulted) })
  refine ⟨?_, fun o => ?_, fun o p q => w.position o ((mem_presentOn e g o).2 ⟨p, q⟩), fun o h => ?_, fun h hg => ?_, ?_,
    ?_, w.resolveSet, w.notices, w.holds⟩
  · rw [w.pass]; simp [SegmentCtl.dropPass]
  · rw [w.resync]; simp [and_assoc]
  · rw [w.live o fun hh => h ((mem_presentOn e g o).1 hh).2]; rfl
  · rw [w.segment h fun o ho => by rw [on o ho]; exact hg, segments_get_setSegment, if_neg hg]
  · rw [w.turnaround]; simp [SegmentCtl.dropPass]
  · rw [w.roundTimer]; simp [SegmentCtl.dropPass]

/-! ### Failures and confirmed stops -/

/-- A happening handed over is latched on every port it is latched on (R183, R184). -/
theorem hand_latches (n : Notices) (h : Happening) (p : Role) (hp : h.latchedOn p = true) :
    hasKind ((n.hand h).ports.get p).latch h.kind = true := by
  simp only [Notices.hand, PerPort.get_mapWith, hp, if_true, NoticePort.latchEvent, NoticePort.deriveAttn, hasKind]
  cases h <;> simp [Happening.kind, EventKind.bit, EventKind.index]

/-- R16 note 1. -/
theorem afterRetarget_done (e : Env) (o : OpeningId) (c : Core) :
    retargetDone e o (c.live o) (c.afterRetarget e o) := by
  unfold retargetDone Core.afterRetarget
  refine ⟨fun ⟨t, h1, h2⟩ => ?_, fun h => ?_⟩
  · simp only [h1, h2, if_true]
    simp [Core.enterIdle, Core.join, Core.setLive, Core.live]
  · split
    · next t ht =>
      rw [h t ht]
      simp [Core.enterDwell, Core.setLive, Core.live, startTimer, dwellLength, reversalDwellMs]
    · simp [Core.enterDwell, Core.setLive, Core.live, startTimer, dwellLength, reversalDwellMs]

theorem foldl_min_le (l : List Int) (a : Int) : l.foldl min a ≤ a ∧ ∀ x ∈ l, l.foldl min a ≤ x := by
  induction l generalizing a with
  | nil => simp
  | cons y r ih =>
    simp only [List.foldl_cons]
    have h := ih (min a y)
    refine ⟨by omega, fun x hx => ?_⟩
    rcases List.mem_cons.1 hx with rfl | hx
    · omega
    · exact h.2 x hx

/-- A mark for the head of a band lies below every mark of the band (R74). -/
theorem markFor_head_lt (q : List Job) (b : Nat) (k : Job) (hk : k ∈ q) (hb : k.band = b) :
    markFor q b .head < k.mark := by
  have mem : k.mark ∈ (q.filter fun j => j.band == b).map Job.mark := List.mem_map.2 ⟨k, by simp [hk, hb], rfl⟩
  unfold markFor
  dsimp only
  cases hm : (q.filter fun j => j.band == b).map Job.mark with
  | nil => rw [hm] at mem; simp at mem
  | cons m rest =>
    rw [hm] at mem
    have low := foldl_min_le rest m
    rcases List.mem_cons.1 mem with h | h
    · rw [h]; dsimp only; omega
    · have := low.2 _ h; dsimp only; omega

@[simp] theorem mem_insertJob (j k : Job) (q : List Job) : k ∈ insertJob j q ↔ k = j ∨ k ∈ q := by
  induction q with
  | nil => simp [insertJob]
  | cons x r ih =>
    unfold insertJob
    split
    · simp
    · simp only [List.mem_cons, ih]
      constructor <;> rintro (h | h | h) <;> simp [h]

/-- R16 note 2. -/
theorem afterShedOrHold_requeued (e : Env) (o : OpeningId) (cls : JobClass) (c : Core) :
    requeued e o cls (c.live o) c (c.afterShedOrHold e o cls) := by
  unfold requeued Core.afterShedOrHold
  refine ⟨fun t h1 h2 => ?_, fun h => ?_⟩
  · simp only [h1, h2, Bool.false_eq_true, if_false]
    exact ⟨by simp [Core.enqueue], _, (mem_insertJob _ _ _).2 (.inl rfl), rfl, rfl, rfl, rfl,
      fun k hk hb => markFor_head_lt _ _ k hk hb⟩
  · rcases h with h | ⟨t, h1, h2⟩
    · simp only [h]; simp [Core.enterIdle]
    · simp only [h1, h2, if_true]; simp [Core.enterIdle]

end Sys2Proof.Machine
end

