-- ==== Sys2Proof/Tests/Slice0.lean ====
section
/-! SUPPORT. The model's own tests: the checks of well-formedness on ill-formed terms, the checksums and codes of the
spec's tables, a few commands on small states, and for each statement states and operands that meet its hypotheses. -/

namespace Sys2Proof.Tests

open Sys2Proof.Machine

/-! ### Well-formedness: an ill-formed term for each check -/

theorem test_frame_without_sync_is_ill_formed :
    (Instr.requestFrameArrival .service (received [0x5B, 5, 4, 0, 0])).wellFormed = false := by decide

theorem test_frame_with_wrong_length_is_ill_formed :
    (Instr.requestFrameArrival .service (received [0x5A, 6, 4, 0, 0])).wellFormed = false := by decide

theorem test_short_frame_is_ill_formed :
    (Instr.requestFrameArrival .service (received [0x5A, 2])).wellFormed = false := by decide

theorem test_wide_setting_is_ill_formed :
    (Instr.settingsWrite .service { Settings.default with agingPeriod := 65536 }).wellFormed = false := by decide

theorem test_one_byte_setting_is_ill_formed :
    (Instr.settingsWrite .service { Settings.default with highMark := 256 }).wellFormed = false := by decide

theorem test_voltage_above_range_is_ill_formed : (Instr.motorVoltageChange 601).wellFormed = false := by decide

theorem test_current_above_range_is_ill_formed : (Instr.measuredCurrentChange 1000).wellFormed = false := by decide

theorem test_good_operands_are_well_formed :
    (Instr.motorVoltageChange 600).wellFormed = true ∧ (Instr.measuredCurrentChange 999).wellFormed = true ∧
      (Instr.settingsWrite .service Settings.default).wellFormed = true := by decide

theorem test_no_row_gives_bits : decodeTableWord 8 0 = none := by decide

/-! ### Checksums, codes and settings -/

theorem test_crc16_of_the_nine_digits :
    crc16 [0x31, 0x32, 0x33, 0x34, 0x35, 0x36, 0x37, 0x38, 0x39] = 0x29B1#16 := by decide +kernel

theorem test_crc8_of_the_nine_digits :
    crc8 [0x31, 0x32, 0x33, 0x34, 0x35, 0x36, 0x37, 0x38, 0x39] = 0xF4#8 := by decide +kernel

theorem test_vane_codes :
    [0b000#3, 0b001#3, 0b011#3, 0b010#3, 0b110#3, 0b111#3, 0b101#3, 0b100#3].map sectorOf =
      [0, 1, 2, 3, 4, 5, 6, 7] := by decide

theorem test_default_settings_are_valid : settingsValid Settings.default = true := by decide

theorem test_broken_supply_relation_names_its_field :
    settingsFault { Settings.default with sagSet := 230 } = some 23 := by decide

/-- READ_STATUS on the line: sync, length 5, code 4, CRC-16 (R199, R200). -/
theorem test_read_status_frame_reads_back :
    requestOf (frameParts (received MasterRequest.readStatus.frame)).1
      (frameParts (received MasterRequest.readStatus.frame)).2 = some .readStatus ∧
      frameCrcOk (received MasterRequest.readStatus.frame) = true := by decide +kernel

theorem test_unknown_code_is_no_request : knownCode 0 = false ∧ knownCode 26 = false ∧ requestOf 1 [] = none := by
  decide

/-! ### Small states -/

/-- The part running after its start-up. -/
def running : State := { State.reset with phase := .running }

/-- A present WINDOW in zone 0 on segment 0. -/
def window : Commissioned := { Commissioned.default with present := true }

/-- A zone that admits both claimants. -/
def openZone : Zone := { valid := true, admitVentilation := true, admitSecurity := true, ceiling := 100, fallback := .stay }

/-- An enrolled record that is closed and IDLE. -/
def idleLive : Live := { Live.blank with ability := some ⟨30, 10, .fine, false, false⟩, state := .idle, position := .percent 0 }

/-- A state whose opening 0 is a window with a record, in a zone. -/
def building (z : Zone) (l : Live) : State :=
  ({ running with work := { Content.default with openings := put Content.default.openings 0 window,
                                                 zones := put Content.default.zones 0 z } } : State).withLive 0 l

/-- A state with its first dynamic claim. -/
def claimed (x : Claim) (s : State) : State := { s with claims := { s.claims with slots := put s.claims.slots 0 (some x) } }

/-- A state with its first slot occupied. -/
def slotted (x : Slot) (s : State) : State := { s with core := { s.core with slots := put s.core.slots 0 (some x) } }

/-- A running slot of opening 0. -/
def slot0 : Slot :=
  { opening := 0, phase := .running, direction := .toOpen, target := 50, cls := .ventilation, speed := .full,
    reserved := 10, runDeadline := 50000, startTime := 0, startWalk := 1, stopNaks := 0, runTimer := true,
    orphanEnd := none, progressPoll := some ⟨0, 1000⟩ }

/-- A state with one transaction of opening 0 in flight on segment 0. -/
def inFlight (body : RequestBody) (window : Option Timer) (s : State) : State :=
  s.withSegment .seg0 { SegmentCtl.fresh 0 with
    inFlight := some { opening := 0, body := body, address := 0, busyCount := 0, window := window, leftover := false } }

/-- A good reply at a position. -/
def goodReply (outcome : DriveOutcome) (position : Byte) : NodeReply :=
  { address := 0, answer := .ack, moving := false, outcome := outcome, position := position, locked := none, ability := none }

theorem running_takes (p : Role) : running.takes p := ⟨rfl, by cases p <;> rfl⟩

theorem building_takes (z : Zone) (l : Live) (p : Role) : (building z l).takes p := ⟨rfl, by cases p <;> rfl⟩

@[simp] theorem live_building (z : Zone) (l : Live) : (building z l).core.live 0 = l := by
  simp [building, Core.live, State.withLive]

@[simp] theorem opening_building (z : Zone) (l : Live) : look (building z l).work.openings 0 = window := by
  simp [building, State.withLive]

@[simp] theorem zone_building (z : Zone) (l : Live) : look (building z l).work.zones 0 = z := by
  simp [building, State.withLive]

/-- A state whose set holds opening 0. -/
def waiting (s : State) : State := { s with core := { s.core with resolveSet := [0] } }

/-- A state with a LOCKOUT on opening 0. -/
def lockedOut0 (s : State) : State :=
  { s with work := { s.work with statics := put s.work.statics 0 (some ⟨.opening 0, .lockout⟩) } }

/-- A state whose static table holds a PIN on opening 0. -/
def pinned0 (p : Nat) (s : State) : State :=
  { s with work := { s.work with statics := put s.work.statics 0 (some ⟨.opening 0, .pin p⟩) } }

/-- A state whose opening 0 has its weather latch set. -/
def latched0 (s : State) : State := { s with weather := { s.weather with latches := put s.weather.latches 0 true } }

/-- An enrolled opening below CLOSE_EXPOSED, with no watch cap. -/
def calm (s : State) : State := { s with weather := { s.weather with level := .calm } }

/-- A record in a state. -/
def inState (x : OpeningState) : Live := { idleLive with state := x }

/-- A VENTILATION job of opening 0 to 50. -/
def job0 : Job := ⟨0, 50, .ventilation, 0, .seg0, 0, none⟩

/-- A state whose queue holds the job of opening 0. -/
def queued0 (s : State) : State := { s with core := { s.core with queue := [job0] } }

/-! ### A few commands on small states -/

theorem test_read_status_answers_52_fields : running.statusView.length = 52 := by decide +kernel

theorem test_weather_page_has_50_fields : (running.weatherView 7).length = 50 := by decide +kernel

theorem test_step_takes_the_front : step { running with pending := [.powerOnReset] } = exec .powerOnReset running := rfl

theorem test_step_idles : step running = .next { running with clock := 1 } := by rfl

theorem test_claim_without_zone_is_refused :
    (serveClaim .security 0 0 50 (building { openZone with valid := false } idleLive)).2 = .refused .zoneInvalid := by
  decide +kernel

theorem test_service_may_not_claim :
    exec (.claim .service 2 0 50) running = .next (running.sendingRefusal .service 8 .notPermitted) := rfl

theorem test_unknown_position_counts_as_below : directionOf .unknown 0 = .toClose ∧ directionOf .unknown 1 = .toOpen := by
  decide

theorem test_run_limit_of_30_s : runLimit 30 .full = 50000 ∧ runLimit 30 .quiet = 95000 := by decide

/-! ### Hypotheses met: steps, resets, ports -/

theorem test_met_StepRunsTheFrontCommand : State.reset.pending = [] := rfl

theorem test_met_ResetsHoldThePart : 50 < 51 ∧ 50 ≤ 50 := by decide

theorem test_met_StartUpEvents :
    (State.reset.enterReset .pin).inReset = true ∧ State.reset.phase = .loaded ∧
      Settings.default.sagSet ≤ 210 ∧ (209 < Settings.default.sagSet ∧ Settings.default.outSet ≤ 180) ∧
      179 < Settings.default.outSet := ⟨rfl, rfl, by decide, by decide, by decide⟩

theorem test_met_RequestsAreGated :
    ((running.sendingOk .security 4 []).inReset = false ∧
      ((running.sendingOk .security 4 []).ports.get .security).answering = true) ∧
    (running.takes .service ∧ (MasterRequest.claim 2 0 0).permits .service = false) :=
  ⟨⟨rfl, rfl⟩, running_takes _, rfl⟩

theorem test_met_RequestsLeaveTheRest :
    MasterRequest.readStatus.writesWork = false ∧ MasterRequest.readStatus.writesStore = false ∧
      MasterRequest.readStatus.writesClaims = false ∧ MasterRequest.readStatus.writesWeather = false ∧
      MasterRequest.readStatus.writesSupply = false ∧ MasterRequest.readStatus.leavesCore = true ∧
      Role.service ≠ .security := by decide

theorem test_met_FrameArrivalTakesItsRequest :
    running.takes .service ∧ (running.ports.get .service).assembly = .hunting ∧
      (running.ports.get .service).buffer = none ∧
      ∀ x : Settings, MasterRequest.settingsWrite Settings.default = .settingsWrite x → x.fits = true := by
  refine ⟨running_takes _, rfl, rfl, fun x h => ?_⟩
  cases h
  decide

/-- A port that has taken some bytes of a frame. -/
def assembling (bytes : List Byte) : State :=
  running.setPort .service fun x => { x with assembly := .assembling (received bytes) }

theorem test_met_PortLinesHuntAndReply :
    running.inReset = false ∧ (running.ports.get .service).assembly = .hunting ∧ (0x5A#8 : Byte) ≠ 0x5B#8 ∧
      (assembling [0x5A]).inReset = false ∧
      ((assembling [0x5A]).ports.get .service).assembly = .assembling (received [0x5A]) ∧
      (received [0x5A]).length = 1 ∧ (4 : Byte).toNat < 5 ∧ 49 < (50 : Byte).toNat ∧ 5 ≤ (5 : Byte).toNat ∧
      (49 : Byte).toNat ≤ 49 ∧
      ((assembling [0x5A, 5, 4, 0]).ports.get .service).assembly = .assembling (received [0x5A, 5, 4, 0]) ∧
      (received [0x5A, 5, 4, 0])[1]? = some ⟨5, false⟩ ∧ (5 : Byte).toNat = (received [0x5A, 5, 4, 0]).length + 1 ∧
      (5 : Byte).toNat ≠ (received [0x5A, 5, 4]).length + 1 ∧
      (running.ports.get .service).reply.any Reply.isReset = false ∧ running.takes .service :=
  ⟨rfl, rfl, by decide, rfl, rfl, rfl, by decide, by decide, by decide, by decide, rfl, rfl, rfl, by decide, rfl,
    running_takes _⟩

theorem test_met_ReadsReturnTheirFields :
    running.takes .service ∧ names 0 0 ∧ names 112 112 ∧ (112 : OpeningId).val % 16 = 0 ∧
      (7 : Byte).toNat = (7 : Fin 8).val ∧ (31 : Byte).toNat = (31 : Fin 32).val ∧
      (running.core.live 0).state ≠ .lost ∧
      ((building openZone { idleLive with state := .lost }).core.live 0).state = .lost := by
  refine ⟨running_takes _, rfl, rfl, rfl, rfl, rfl, ?_, by simp⟩
  simp [running, State.reset, Core.live, Live.blank, Live.afterReset]

/-- A latched opening under each mark, the bytes that carry marks and counts, and a queue with and without a head. -/
theorem test_met_ReadsReturnTheirFields_marks :
    look (latched0 (building openZone idleLive)).weather.latches 0 = true ∧ look running.weather.latches 0 = false ∧
      (inState .lockedOut).state = .lockedOut ∧ (inState .idle).position = .percent 0 ∧
      (latched0 (building openZone { inState .dwell with position := .unknown })).unclosed 0 ∧
      ({ inState .dwell with dwellReason := some .reversal } : Live).dwellReason = some .reversal ∧
      ({ inState .dwell with dwellReason := some .obstruction } : Live).dwellReason = some .obstruction ∧
      (running.weatherView 7)[49]?.isSome = true ∧ (127 : OpeningId).val = (7 : Fin 8).val * 16 + (15 : Fin 16).val ∧
      (queued0 running).core.queue = job0 :: [] ∧ running.core.queue = [] ∧
      (127 : OpeningId).val = (112 : OpeningId).val + (15 : Fin 16).val := by
  refine ⟨by simp [latched0], by decide +kernel, rfl, rfl, ⟨by simp [latched0], ?_, fun p h => ?_⟩, rfl, rfl,
    by decide +kernel, rfl, rfl, rfl, rfl⟩
  · show ((building openZone { inState .dwell with position := .unknown }).core.live 0).state ≠ .lockedOut
    simp [inState]
  · have hp : ((building openZone { inState .dwell with position := .unknown }).core.live 0).position = .percent p := h
    simp at hp

/-- Every kind of timer a view reports, and a view without one. -/
theorem test_met_ReadsReturnTheirFields_timers :
    ((building openZone { inState .resting with restTimer := some ⟨0, 5⟩ }).core.live 0).state = .resting ∧
      ((building openZone { inState .resting with restTimer := some ⟨0, 5⟩ }).core.live 0).restTimer = some ⟨0, 5⟩ ∧
      ((building openZone { inState .dwell with dwellTimer := some ⟨0, 5⟩ }).core.live 0).dwellTimer = some ⟨0, 5⟩ ∧
      (building openZone idleLive).core.slotOf 0 = none ∧ (inState .lost).state ≠ .resting ∧
      (inState .lost).state ≠ .dwell ∧ (slotted slot0 (building openZone (inState .driving))).core.slotOf 0 = some 0 ∧
      look (slotted slot0 (building openZone (inState .driving))).core.slots 0 = some slot0 ∧ slot0.orphanEnd = none ∧
      slot0.runTimer = true ∧ ({ slot0 with orphanEnd := some 55000 } : Slot).orphanEnd = some 55000 := by
  refine ⟨by simp [inState], by simp, by simp, by decide +kernel, by decide, by decide, by decide +kernel,
    by simp [slotted], rfl, rfl, rfl⟩

theorem test_met_ReadCountersReturnsAndClears :
    running.takes .service ∧ names 127 127 ∧ 128 ≤ (128 : Byte).toNat ∧ Role.security ≠ .service ∧
      running.takes .security :=
  ⟨running_takes _, rfl, by decide, by decide, running_takes _⟩

theorem test_met_ZoneReadReturnsTheRecord :
    running.takes .service ∧ (15 : Byte).toNat = (15 : ZoneId).val ∧ 16 ≤ (16 : Byte).toNat ∧
      Role.ventilation ≠ .service ∧ running.takes .ventilation :=
  ⟨running_takes _, rfl, by decide, by decide, running_takes _⟩

/-- A claim of SECURITY on opening 0, of age 3. -/
def oldClaim : Claim := { claimant := .security, scope := .opening 0, position := 40, age := 3 }

theorem test_met_ReadClaimReturnsTheSlot :
    running.takes .service ∧ (191 : Byte).toNat = (191 : Fin 192).val ∧ 192 ≤ (192 : Byte).toNat ∧
      look (claimed oldClaim running).claims.slots 0 = some oldClaim ∧ look running.claims.slots 191 = none :=
  ⟨running_takes _, rfl, by decide, by simp [claimed], by simp [running, State.reset, Claims.fresh]⟩

theorem test_met_ReadEventsClearsTheSendersLatch : running.takes .ventilation := running_takes _

theorem test_met_MaskAndForceActOnTheSender :
    running.takes .security ∧ (2047 : Word16).toNat < 2048 ∧ 2048 ≤ (2048 : Word16).toNat :=
  ⟨running_takes _, by decide, by decide⟩

/-! ### Hypotheses met: claims -/

theorem claimed_only (x y : Claim) (s : State) (h : ∀ i : Fin 192, look s.claims.slots i = none) (i : Fin 192)
    (hy : look (claimed x s).claims.slots i = some y) : i = 0 ∧ y = x := by
  simp only [claimed, look_put] at hy
  split at hy
  · next e => exact ⟨e, (Option.some.inj hy).symm⟩
  · rw [h i] at hy; cases hy

theorem claimed_wf (x : Claim) (s : State) (h : ∀ i : Fin 192, look s.claims.slots i = none) (ha : x.age ≤ 3)
    (hp : x.position ≤ 100) : ClaimsWf (claimed x s) := by
  intro i y hy
  obtain ⟨rfl, rfl⟩ := claimed_only x y s h i hy
  exact ⟨ha, hp, fun j z hz _ _ => (claimed_only _ z s h j hz).1.symm⟩

theorem no_claims (z : Zone) (l : Live) (i : Fin 192) : look (building z l).claims.slots i = none := by
  simp [building, State.withLive, running, State.reset, Claims.fresh]

/-- A table with every slot claimed. -/
def crowded (s : State) : State :=
  { s with claims := { s.claims with slots := Vector.replicate 192 (some ⟨.ventilation, .all, 0, 0⟩) } }

theorem test_met_ClaimAddsAnEntry :
    Role.security ≠ .service ∧ (building openZone idleLive).takes .security ∧ spellsScope 0 0 (.opening 0) ∧
      spellsScope 1 15 (.zone 15) ∧ spellsScope 2 77 .all ∧ (100 : Byte).toNat ≤ 100 ∧
      (building openZone idleLive).admitsClaim .security (.opening 0) ∧
      (building openZone idleLive).admitsClaim .security (.zone 0) ∧
      (building openZone idleLive).admitsClaim .security .all ∧
      (∀ k : ClaimScope, (building openZone idleLive).claims.lacks (claimantOf .security) k) ∧
      lowestEmpty (building openZone idleLive).claims.slots 0 ∧
      (crowded running).claims.lacks (claimantOf .security) .all ∧
      ∀ i : Fin 192, (look (crowded running).claims.slots i).isSome = true := by
  refine ⟨by decide, building_takes _ _ _, ⟨rfl, rfl⟩, ⟨rfl, rfl⟩, rfl, by decide, ⟨by simp [window], ?_⟩, ?_, trivial,
    fun k i => by simp [no_claims, hasKey], ⟨no_claims _ _ 0, fun j hj => by simp at hj⟩, fun i => ?_, fun i => ?_⟩
  · simp [window]; rfl
  · simp [State.admitsClaim]; rfl
  · simp [crowded, hasKey, claimantOf]
  · simp [crowded]

theorem test_met_ClaimRefreshesAnEntry :
    Role.security ≠ .service ∧ (claimed oldClaim (building openZone idleLive)).takes .security ∧
      ClaimsWf (claimed oldClaim (building openZone idleLive)) ∧ spellsScope 0 0 (.opening 0) ∧ (40 : Byte).toNat ≤ 100 ∧
      (claimed oldClaim (building openZone idleLive)).admitsClaim (claimantOf .security) (.opening 0) ∧
      look (claimed oldClaim (building openZone idleLive)).claims.slots 0 = some oldClaim ∧
      oldClaim.claimant = claimantOf .security ∧ oldClaim.scope = .opening 0 ∧
      oldClaim.position = (40 : Byte).toNat ∧ oldClaim.position ≠ (41 : Byte).toNat := by
  refine ⟨by decide, building_takes openZone idleLive .security, claimed_wf _ _ (no_claims _ _) (by decide) (by decide),
    ⟨rfl, rfl⟩, by decide, ⟨?_, ?_⟩, by simp [claimed], rfl, rfl, rfl, by decide⟩
  · simp [claimed, window]
  · simp [claimed]; rfl

/-- Entries of scope ZONE and ALL to be refreshed. -/
theorem test_met_ClaimRefreshesAnEntry_scopes :
    spellsScope 1 0 (.zone 0) ∧ spellsScope 2 77 .all ∧
      (claimed { oldClaim with scope := .zone 0 } (building openZone idleLive)).admitsClaim (claimantOf .security)
        (.zone 0) ∧
      ClaimsWf (claimed { oldClaim with scope := .zone 0 } (building openZone idleLive)) ∧
      ({ oldClaim with scope := .zone 0 } : Claim).scope = .zone 0 ∧
      (claimed { oldClaim with scope := .all } running).admitsClaim (claimantOf .security) .all ∧
      ClaimsWf (claimed { oldClaim with scope := .all } (building openZone idleLive)) := by
  refine ⟨⟨rfl, rfl⟩, rfl, ?_, claimed_wf _ _ (no_claims _ _) (by decide) (by decide), rfl, trivial,
    claimed_wf _ _ (no_claims _ _) (by decide) (by decide)⟩
  simp [State.admitsClaim, claimed]; rfl

theorem test_met_ClaimRefusalsInOrder :
    names 0 0 ∧ 100 < (101 : Byte).toNat ∧ (100 : Byte).toNat ≤ 100 ∧
      (look running.work.openings 0).present = false ∧
      (look (building openZone idleLive).work.openings 0).present = true ∧
      (look (building { openZone with valid := false } idleLive).work.zones 0).valid = false ∧
      (look (building { openZone with admitSecurity := false } idleLive).work.zones 0).valid = true ∧
      (look (building { openZone with admitSecurity := false } idleLive).work.zones 0).admits .security = false := by
  refine ⟨rfl, by decide, by decide, ?_, ?_, by simp, by simp [openZone], by simp [Zone.admits]⟩
  · simp [running, State.reset, Content.default, Commissioned.default]
  · simp [window]

theorem test_met_ReleaseEmptiesTheSlot :
    Role.security ≠ .service ∧ running.takes .security ∧ spellsScope 0 0 (.opening 0) ∧ spellsScope 1 15 (.zone 15) ∧
      (look running.work.openings 0).present = false ∧
      (look (claimed oldClaim (building openZone idleLive)).work.openings 0).present = true ∧
      running.claims.lacks (claimantOf .security) (.zone 15) ∧
      ClaimsWf (claimed oldClaim (building openZone idleLive)) ∧
      look (claimed oldClaim (building openZone idleLive)).claims.slots 0 = some oldClaim ∧
      oldClaim.claimant = claimantOf .security ∧ oldClaim.scope = .opening 0 ∧
      look (claimed { oldClaim with scope := .all } running).claims.slots 0 = some { oldClaim with scope := .all } := by
  refine ⟨by decide, running_takes _, ⟨rfl, rfl⟩, ⟨rfl, rfl⟩, ?_, ?_, fun i => ?_,
    claimed_wf _ _ (no_claims _ _) (by decide) (by decide), by simp [claimed], rfl, rfl, by simp [claimed]⟩
  · simp [running, State.reset, Content.default, Commissioned.default]
  · simp [claimed, window]
  · simp [running, State.reset, Claims.fresh, hasKey]

theorem test_met_AgingSweepRemovesAgeThree :
    running.inReset = false ∧ look (claimed oldClaim running).claims.slots 0 = some oldClaim ∧ oldClaim.age = 3 ∧
      look (claimed { oldClaim with age := 2 } running).claims.slots 0 = some { oldClaim with age := 2 } ∧
      look running.claims.slots 0 = none :=
  ⟨rfl, by simp [claimed], rfl, by simp [claimed], by simp [running, State.reset, Claims.fresh]⟩

/-- A state whose static table holds a PIN on zone 0. -/
def pinned : State :=
  { running with work := { running.work with statics := put running.work.statics 0 (some ⟨.zone 0, .pin 50⟩) } }

/-- A state whose static slots are all taken by one key. -/
def allPinned : State :=
  { running with work := { running.work with statics := Vector.replicate 32 (some ⟨.zone 15, .lockout⟩) } }

theorem test_met_StaticEntriesAreSetAndCleared :
    running.takes .service ∧ spellsKey 0 0 (.opening 0) ∧ spellsKey 1 0 (.zone 0) ∧ spellsKind 0 255 .lockout ∧
      spellsKind 1 100 (.pin 100) ∧ 100 < (101 : Byte).toNat ∧ running.store.state = .idle ∧
      ({ running with store := { running.store with state := .saving } } : State).store.state = .saving ∧
      (look running.work.openings 0).present = false ∧
      (look (building openZone idleLive).work.openings 0).present = true ∧
      (∀ j : Fin 32, hasStaticKey (.zone 0) (look running.work.statics j) = false) ∧
      lowestEmpty running.work.statics 0 ∧ WorkWf pinned ∧
      look pinned.work.statics 0 = some ⟨.zone 0, .pin 50⟩ ∧
      (∀ j : Fin 32, hasStaticKey (.zone 0) (look allPinned.work.statics j) = false) ∧
      ∀ j : Fin 32, (look allPinned.work.statics j).isSome = true := by
  refine ⟨running_takes _, ⟨rfl, rfl⟩, ⟨rfl, rfl⟩, rfl, ⟨rfl, rfl, by decide⟩, by decide, rfl, rfl, ?_, ?_, fun j => ?_,
    ⟨?_, fun j hj => ?_⟩, ?_, ?_, fun j => ?_, fun j => ?_⟩
  · simp [running, State.reset, Content.default, Commissioned.default]
  · simp [window]
  · simp [running, State.reset, Content.default, hasStaticKey]
  · simp [running, State.reset, Content.default]
  · simp at hj
  · unfold WorkWf; decide +kernel
  · simp [pinned]
  · simp [allPinned, hasStaticKey]
  · simp [allPinned]

/-- A DRIVE of opening 0, unsent, on a RUNNING or a STARTING slot. -/
def waitingDrive (start : Bool) (s : State) : State :=
  s.withSegment .seg0 { SegmentCtl.fresh 0 with requests := [⟨0, .drive 50 .full start, 0⟩] }

/-- One drive, in one slot, keeps the invariant of the drives. -/
theorem driving_drives (x : OpeningState) (hx : x = .driving ∨ x = .stopping) :
    DrivesWf (slotted slot0 (building openZone (inState x))) := by
  have hl : ∀ o : OpeningId, (slotted slot0 (building openZone (inState x))).core.live o =
      if o = 0 then inState x else Live.blank := fun o => by
    show look (put running.core.openings 0 (inState x)) o = _
    rw [look_put]
    split
    · rfl
    · simp [running, State.reset]
  have hs : ∀ (i : SlotId) (y : Slot), look (slotted slot0 (building openZone (inState x))).core.slots i = some y →
      i = 0 ∧ y = slot0 := fun i y h => by
    change look (put running.core.slots 0 (some slot0)) i = some y at h
    rw [look_put] at h
    split at h
    · next e => exact ⟨e, (Option.some.inj h).symm⟩
    · simp [running, State.reset] at h
  refine ⟨by show List.Nodup []; simp, fun o => ?_, fun i y h => ?_, fun i j y z h k _ => ?_, fun o h => ?_, fun o => ?_⟩
  · rw [hl]
    show _ ↔ ∃ j ∈ ([] : List Job), _
    by_cases h : o = 0
    · rcases hx with rfl | rfl <;> simp [h, inState]
    · simp [h, Live.blank, Live.afterReset]
  · obtain ⟨rfl, rfl⟩ := hs i y h
    refine ⟨(fun h => by cases h), (fun _ => ?_), (fun h => by cases h)⟩
    rw [hl]
    rcases hx with rfl | rfl <;> simp [slot0, inState]
  · rw [(hs i y h).1, (hs j z k).1]
  · rw [hl] at h
    by_cases e : o = 0
    · exact ⟨0, slot0, by simp [slotted], by simp [e, slot0]⟩
    · simp [e, Live.blank, Live.afterReset] at h
  · rw [hl]
    split <;> simp [inState, idleLive, Live.blank, Live.afterReset]

/-- A LOCKOUT on opening 0 while its DRIVE is unsent. -/
theorem test_met_StaticEntriesAreSetAndCleared_drives (start : Bool) :
    DrivesWf (waitingDrive start (slotted slot0 (building openZone (inState .driving)))) ∧
      (waitingDrive start (slotted slot0 (building openZone (inState .driving)))).coveredByKey (.opening 0) 0 ∧
      (waitingDrive start (slotted slot0 (building openZone (inState .driving)))).coveredByKey (.zone 0) 0 ∧
      unsentDrive (building openZone (inState .driving)).env
        (waitingDrive start (slotted slot0 (building openZone (inState .driving)))).core 0 50 start 0 slot0 ∧
      (slotted slot0 (building openZone (inState .driving))).core.pendingOf (building openZone (inState .driving)).env 0 1 =
        none := by
  refine ⟨driving_drives .driving (.inl rfl), ⟨?_, rfl⟩, ⟨?_, ?_⟩, ⟨⟨⟨0, .drive 50 .full start, 0⟩, .full, ?_, rfl⟩, ?_, ?_⟩, ?_⟩
  · show (look (building openZone (inState .driving)).work.openings 0).present = true
    simp [window]
  · show (look (building openZone (inState .driving)).work.openings 0).present = true
    simp [window]
  · show (look (building openZone (inState .driving)).work.openings 0).zone = 0
    simp [window, Commissioned.default]
  · cases start <;> decide +kernel
  · cases start <;> decide +kernel
  · show look (slotted slot0 (building openZone (inState .driving))).core.slots 0 = some slot0
    simp [slotted]
  · decide +kernel

/-! ### Hypotheses met: commissioning -/

theorem test_met_CommissioningIsGuarded :
    ({ running with store := { running.store with mode := .operate } } : State).takes .service ∧
      ({ running with store := { running.store with mode := .operate } } : State).store.mode = .operate ∧
      ({ running with store := { running.store with state := .saving } } : State).takes .service ∧
      ({ running with store := { running.store with state := .saving } } : State).store.mode = .commission ∧
      ({ running with store := { running.store with state := .saving } } : State).store.state = .saving :=
  ⟨running_takes .service, rfl, running_takes .service, rfl, rfl⟩

/-- The running part keeps the invariant of the drives: no job, no slot, every record ABSENT. -/
theorem running_drives : DrivesWf running := by
  have hl : ∀ o : OpeningId, running.core.live o = Live.blank := fun o => by simp [running, State.reset, Core.live]
  have hs : ∀ i : SlotId, look running.core.slots i = none := fun i => by simp [running, State.reset]
  refine ⟨by decide, fun o => ?_, fun i x h => ?_, fun i j x y h => ?_, fun o h => ?_, fun o => ?_⟩
  · rw [hl]; simp [Live.blank, Live.afterReset, running, State.reset]
  · rw [hs] at h; cases h
  · rw [hs] at h; cases h
  · rw [hl] at h; simp [Live.blank, Live.afterReset] at h
  · rw [hl]; simp [Live.blank, Live.afterReset]

theorem test_met_OpeningWriteReplacesTheRecord :
    running.takes .service ∧ running.store.mode = .commission ∧ running.store.state = .idle ∧
      openingFields 0 1 0 0 0 0 0 0 0 = .ok (0, window) ∧ window.paired = true ∧ window.present = true ∧
      (running.core.live 0).state.bars = false ∧
      (window.present = true → addressTaken running.work.openings 0 window = false) ∧ DrivesWf running ∧
      openingFields 0 0 0 0 0 0 0 0 0 = .ok (0, Commissioned.default) ∧ Commissioned.default.paired = true ∧
      Commissioned.default.present = false := by
  refine ⟨running_takes _, rfl, rfl, rfl, by decide, rfl, by decide +kernel, fun _ => by decide +kernel, running_drives,
    rfl, by decide, rfl⟩

theorem test_met_ZoneWriteEndsAdmission :
    running.takes .service ∧ running.store.mode = .commission ∧ running.store.state = .idle ∧
      zoneFields 15 1 1 1 100 0 = .ok (15, openZone) ∧
      zoneFields 0 1 0 0 100 0 = .ok (0, { openZone with admitVentilation := false, admitSecurity := false }) :=
  ⟨running_takes _, rfl, rfl, rfl, rfl⟩

/-- A claim that the end of an admission removes, and one that it keeps. -/
theorem test_met_ZoneWriteEndsAdmission_claims :
    look (claimed oldClaim (building openZone idleLive)).claims.slots 0 = some oldClaim ∧
      (look (claimed oldClaim (building openZone idleLive)).work.zones 0).admits oldClaim.claimant = true ∧
      ({ openZone with admitSecurity := false } : Zone).admits oldClaim.claimant = false ∧
      oldClaim.scope = .opening 0 ∧ (look (claimed oldClaim (building openZone idleLive)).work.openings 0).zone = 0 ∧
      ({ oldClaim with scope := .all } : Claim).scope ≠ .zone 0 ∧
      (∀ o : OpeningId, ({ oldClaim with scope := .all } : Claim).scope = .opening o → False) ∧
      openZone.admits oldClaim.claimant = true := by
  refine ⟨by simp [claimed], ?_, by decide, rfl, ?_, by decide, (fun o h => by cases h), by decide⟩
  · simp [claimed]; rfl
  · simp [claimed]; rfl

theorem test_met_SettingsWriteIsWholeOrNothing :
    running.takes .service ∧ running.store.mode = .commission ∧ running.store.state = .idle ∧
      settingsValid Settings.default = true ∧ settingsValid { Settings.default with highMark := 101 } = false :=
  ⟨running_takes _, rfl, rfl, by decide, by decide⟩

theorem test_met_SavesBeginAndEnd :
    running.takes .service ∧ running.store.state = .idle ∧ running.inReset = false ∧
      ({ running with store := { running.store with state := .saving } } : State).store.state = .saving ∧
      ({ running with store := { running.store with state := .saving } } : State).takes .service :=
  ⟨running_takes _, rfl, rfl, rfl, running_takes .service⟩

theorem test_met_ModeFollowsItsTable :
    running.takes .service ∧ running.store.mode = .commission ∧ running.store.imageValid = false ∧
      ({ running with store := { running.store with mode := .operate } } : State).store.mode = .operate ∧
      2 ≤ (2 : Byte).toNat :=
  ⟨running_takes _, rfl, rfl, rfl, by decide⟩

theorem test_met_ClearFaultByState :
    names 0 0 ∧ (look running.work.openings 0).present = false ∧
      (look (building openZone idleLive).work.openings 0).present = true ∧
      ((building openZone idleLive).core.live 0).state ≠ .faulted ∧
      ((building openZone { idleLive with state := .faulted }).core.live 0).state = .faulted ∧
      ((building openZone { idleLive with state := .faulted }).core.live 0).ability.isSome = true ∧
      ((building openZone { Live.blank with state := .faulted }).core.live 0).ability = none ∧
      (building openZone idleLive).takes .service := by
  refine ⟨rfl, ?_, ?_, ?_, by simp, by simp [idleLive], ?_, building_takes _ _ _⟩
  · simp [running, State.reset, Content.default, Commissioned.default]
  · simp [window]
  · simp [idleLive]
  · simp [Live.blank, Live.afterReset]

/-- A state whose supply is OUT. -/
def outage : State := { running with supply := { running.supply with state := .out } }

theorem test_met_ResyncWaitsForTheSegment :
    running.takes .service ∧ 2 < (3 : Byte).toNat ∧ (2 : Byte).toNat ≤ 2 ∧ (1 : Byte).toNat ≤ 2 ∧
      outage.takes .service ∧ (∀ g : Segment, outage.core.carries outage.env g = false) ∧
      ∀ g : Segment, running.core.carries running.env g = true :=
  ⟨running_takes _, by decide, by decide, by decide, running_takes .service, fun g => by cases g <;> rfl,
    fun g => by cases g <;> rfl⟩

/-! ### Hypotheses met: weather -/

/-- The Weather Assessor and the core of a state, with a gust and a level. -/
def skyAt (gust : Nat) (level : Level) : Sky := ⟨{ running.weather with gust := gust, level := level }, running.core⟩

theorem test_met_EvaluationRaisesOrKeepsTheLevel :
    (skyAt 170 .watch).weather.level.height < (riseTarget running.env.work.settings (skyAt 170 .watch).weather).height ∧
      (skyAt 170 .watch).weather.level = .watch ∧
      ¬ (skyAt 0 .watch).weather.level.height < (riseTarget running.env.work.settings (skyAt 0 .watch).weather).height ∧
      (skyAt 80 .watch).weather.level.height ≤ (holdTarget running.env.work.settings (skyAt 80 .watch).weather).height ∧
      (skyAt 0 .watch).weather.warmUp.isSome = true ∧
      (holdTarget running.env.work.settings (skyAt 79 .watch).weather).height < (skyAt 79 .watch).weather.level.height ∧
      ({ (skyAt 79 .watch).weather with warmUp := none } : Weather).warmUp = none ∧
      (skyAt 79 .watch).weather.standDown = none ∧
      ({ (skyAt 79 .watch).weather with standDown := some ⟨0, 9⟩ } : Weather).standDown = some ⟨0, 9⟩ ∧
      look (skyAt 170 .watch).weather.latches 0 = false ∧ settingsValid Settings.default = true := by decide

/-- A state whose roof contact filters a wet reading. -/
def wetting : State :=
  { running with weather := { running.weather with roof := ⟨.dry, some ⟨0, 2000⟩⟩, dryOut := some ⟨0, 600000⟩,
                                                   standDown := some ⟨0, 900000⟩ } }

/-- A state whose roof contact filters a dry reading, in rain, with the other contact's level. -/
def drying (other : Wetness) (dryOut : Option Timer) : State :=
  { running with weather := { running.weather with roof := ⟨.wet, some ⟨0, 2000⟩⟩, facade := ⟨other, none⟩, rain := .wet,
                                                   dryOut := dryOut } }

theorem test_met_RainAndWeatherTimers :
    running.inReset = false ∧ Wetness.dry = (running.weather.filter .roof).level ∧
      Wetness.wet ≠ (running.weather.filter .roof).level ∧ (running.weather.filter .roof).timer = none ∧
      RainContact.facade ≠ .roof ∧ wetting.inReset = false ∧ (wetting.weather.filter .roof).timer = some ⟨0, 2000⟩ ∧
      (wetting.weather.filter .roof).level = .dry ∧ wetting.weather.rain = .dry ∧
      ({ wetting.weather with rain := .wet } : Weather).rain = .wet ∧
      ((drying .dry none).weather.filter .roof).timer = some ⟨0, 2000⟩ ∧
      ((drying .dry none).weather.filter .roof).level = .wet ∧ (drying .dry none).weather.rain = .wet ∧
      ((drying .wet none).weather.filter .facade).level = .wet ∧
      ((drying .dry none).weather.filter .facade).level = .dry ∧ (drying .dry none).weather.dryOut = none ∧
      (drying .dry (some ⟨0, 9⟩)).weather.dryOut.isSome = true ∧ wetting.weather.dryOut = some ⟨0, 600000⟩ ∧
      wetting.weather.warmUp = some ⟨0, 60000⟩ ∧ wetting.weather.standDown = some ⟨0, 900000⟩ :=
  ⟨rfl, rfl, by decide, rfl, by decide, rfl, rfl, rfl, rfl, rfl, rfl, rfl, rfl, rfl, rfl, rfl, rfl, rfl, rfl, rfl⟩

theorem test_met_GustWindowsCountPulses : running.inReset = false ∧ 2000 ≤ 2000 ∧ 1999 < 2000 := ⟨rfl, by decide, by decide⟩

theorem test_met_VaneAndStableSector :
    running.inReset = false ∧ running.inputs.vane = 0 ∧ running.inputs.vane ≠ 1 ∧
      ({ running with weather := { running.weather with stable := some 1 } } : State).weather.stable =
        some (sectorOf 1) ∧
      running.weather.stable ≠ some (sectorOf 1) ∧
      running.weather.stability = some { timer := ⟨0, 5000⟩, candidate := 0 } := by
  refine ⟨rfl, rfl, by decide, rfl, by decide, rfl⟩

/-- A state with an advisory of some minutes. -/
def advised (minutes : Nat) : State :=
  { running with weather := { running.weather with advisory := some ⟨.rain, 0, minutes, 0⟩ } }

theorem test_met_AdvisoryLife :
    advisoryKindOf? 0 = some .rain ∧ advisoryKindOf? 1 = some .wind ∧ 240 < (241 : Byte).toNat ∧
      (240 : Byte).toNat ≤ 240 ∧ 720 < (721 : Word16).toNat ∧ running.takes .ventilation ∧ 1 ≤ (1 : Word16).toNat ∧
      (720 : Word16).toNat ≤ 720 ∧ (0 : Word16).toNat = 0 ∧ running.weather.advisory = none ∧
      (advised 2).weather.advisory.isSome = true ∧ (advised 2).inReset = false ∧
      (advised 2).weather.advisory = some ⟨.rain, 0, 2, 0⟩ ∧ (advised 1).weather.advisory = some ⟨.rain, 0, 1, 0⟩ :=
  ⟨by decide, by decide, by decide, by decide, by decide, running_takes _, by decide, by decide, by decide, rfl, rfl, rfl,
    rfl, rfl⟩

/-! ### Hypotheses met: resolution and drives -/

theorem test_met_ResolutionTakesTheLowest :
    running.inReset = false ∧ running.core.resolveSet = [] ∧
      (waiting (building openZone idleLive)).core.resolveSet = [0] ∧
      ((waiting (building openZone idleLive)).core.live 0).state = .idle ∧ OrderWf running ∧
      resolve (lockedOut0 (building openZone idleLive)).env running.claims idleLive.ability 0 = .lockout ∧
      resolve (building openZone idleLive).env running.claims idleLive.ability 0 = .noTarget ∧
      resolve (calm (pinned0 50 (building openZone idleLive))).env running.claims idleLive.ability 0 =
        .target 50 .service ∧
      idleLive.position.reached 2 = true ∧ idleLive.position.reached 3 = false ∧
      job0 ∈ (queued0 running).core.queue ∧ job0.cls ≠ .service ∧ job0.cls = .ventilation := by
  refine ⟨rfl, rfl, rfl, ?_, ⟨?_, ?_⟩, by decide +kernel, by decide +kernel, by decide +kernel, by decide, by decide,
    by simp [queued0], by decide, rfl⟩
  · show ((building openZone idleLive).core.live 0).state = .idle
    simp [idleLive]
  · exact List.Pairwise.nil
  · exact List.Pairwise.nil

theorem test_met_ResolutionTakesTheLowest_order :
    (latched0 (building openZone idleLive)).env.lockedOut 0 = false ∧
      look (latched0 (building openZone idleLive)).weather.latches 0 = true ∧
      look (pinned0 50 (building openZone idleLive)).weather.latches 0 = false ∧
      pinOf (pinned0 50 (building openZone idleLive)).env 0 = some 50 ∧ WorkWf pinned ∧
      look pinned.work.statics 0 = some ⟨.zone 0, .pin 50⟩ ∧
      look (pinned0 50 running).work.statics 0 = some ⟨.opening 0, .pin 50⟩ ∧
      pinOf (building openZone idleLive).env 0 = none ∧ ClaimsWf (claimed oldClaim (building openZone idleLive)) ∧
      look (claimed oldClaim (building openZone idleLive)).claims.slots 0 = some oldClaim ∧
      oldClaim.applies (claimed oldClaim (building openZone idleLive)).env 0 ∧
      (∀ (j : Fin 192) (y : Claim), look (claimed oldClaim (building openZone idleLive)).claims.slots j = some y →
        oldClaim.place ≤ y.place) ∧
      (∀ (j : Fin 192) (y : Claim), look (building openZone idleLive).claims.slots j = some y → False) ∧
      openZone.fallback = .stay ∧ ({ openZone with fallback := .close } : Zone).fallback = .close ∧
      openZone.valid = true ∧ running.weather.level = .watch ∧ (calm running).weather.level ≠ .watch := by
  refine ⟨by decide +kernel, by simp [latched0], ?_, by decide +kernel, ?_, by simp [pinned], by simp [pinned0],
    by decide +kernel, claimed_wf _ _ (no_claims _ _) (by decide) (by decide), by simp [claimed], ?_, ?_, ?_, rfl, rfl,
    rfl, rfl, by decide⟩
  · decide +kernel
  · unfold WorkWf; decide +kernel
  · refine ⟨?_, rfl⟩
    decide +kernel
  · intro j y hy
    obtain ⟨_, rfl⟩ := claimed_only _ _ _ (no_claims _ _) j hy
    exact Nat.le_refl _
  · intro j y hy
    rw [no_claims] at hy; cases hy

/-- Opening 0 QUEUED with its job, to be resolved under a PIN at 60. -/
def requeuing : State := waiting (queued0 (calm (pinned0 60 (building openZone (inState .queued)))))

theorem live_requeuing (o : OpeningId) : requeuing.core.live o = if o = 0 then inState .queued else Live.blank := by
  show look (put running.core.openings 0 (inState .queued)) o = _
  rw [look_put]
  split
  · rfl
  · simp [running, State.reset]

theorem test_met_ResolutionTakesTheLowest_queued :
    requeuing.inReset = false ∧ requeuing.core.resolveSet = [0] ∧ DrivesWf requeuing ∧ OrderWf requeuing ∧
      job0 ∈ requeuing.core.queue ∧ job0.opening = 0 ∧ (requeuing.core.live 0).state = .queued ∧
      resolve requeuing.env requeuing.claims (requeuing.core.live 0).ability 0 = .target 60 .service ∧
      job0.cls ≠ .service ∧ ({ job0 with cls := .service } : Job).cls = .service ∧
      (requeuing.core.live 0).position.reached 60 = false := by
  have hs : ∀ i : SlotId, look requeuing.core.slots i = none := fun i => by
    show look running.core.slots i = none
    simp [running, State.reset]
  refine ⟨rfl, rfl, ⟨by decide, fun o => ?_, fun i x h => ?_, fun i j x y h => ?_, fun o h => ?_, fun o => ?_⟩,
    ⟨by decide, by decide⟩, by decide, rfl, by decide +kernel, by decide +kernel, by decide, rfl, by decide +kernel⟩
  · rw [live_requeuing]
    by_cases h : o = 0
    · subst h; simp [inState, requeuing, waiting, queued0, job0]
    · simp [h, Live.blank, Live.afterReset, requeuing, waiting, queued0, job0, Ne.symm h]
  · rw [hs] at h; cases h
  · rw [hs] at h; cases h
  · rw [live_requeuing] at h
    split at h <;> simp [inState, Live.blank, Live.afterReset] at h
  · rw [live_requeuing]
    split <;> simp [inState, idleLive, Live.blank, Live.afterReset]

/-- Every state in which a record is met by a resolution. -/
theorem test_met_ResolutionTakesTheLowest_states :
    (inState .queued).state = .queued ∧ (inState .stopping).state = .stopping ∧ (inState .lockedOut).state = .lockedOut ∧
      (inState .resting).state = .resting ∧ (inState .dwell).state = .dwell ∧ (inState .lost).state = .lost ∧
      (inState .faulted).state = .faulted ∧ (inState .absent).state = .absent ∧
      (inState .unenrolled).state = .unenrolled := ⟨rfl, rfl, rfl, rfl, rfl, rfl, rfl, rfl, rfl⟩

theorem test_met_StartWalkKeepsTheBudget :
    running.inReset = false ∧ outage.inReset = false ∧ outage.supply.state ≠ .normal ∧ running.core.walkTriggered = true ∧
      (queued0 (building openZone (inState .queued))).core.walkTriggered = true ∧
      (queued0 (building openZone (inState .queued))).core.queue = job0 :: [] ∧
      ((queued0 (building openZone (inState .queued))).core.queue.map Job.opening).Nodup ∧
      (∀ i : SlotId, look (building openZone (inState .queued)).core.slots i = none) ∧ running.supply.state = .normal ∧
      running.supply.pause ≠ .paused ∧ (running.core.holds.get .seg0).state = .owned ∧
      (running.core.segments.get .seg0).pass ≠ .running ∧ running.supply.mains ≠ .battery ∧
      look running.weather.latches 0 = false ∧ (building openZone (inState .queued)).env.lockedOut 0 = false ∧
      (building openZone (inState .queued)).core.reservationSum + 10 ≤ running.budget := by
  refine ⟨rfl, rfl, by decide, rfl, rfl, rfl, by decide, fun i => ?_, rfl, by decide, rfl, by decide, by decide,
    by decide +kernel, by decide +kernel, by decide +kernel⟩
  simp [building, State.withLive, running, State.reset]

/-- A core whose slots are all taken, a segment that is held, and the conditions under which a walk halts and skips. -/
theorem test_met_StartWalkKeepsTheBudget_rules :
    (∀ i : SlotId, (look ({ running.core with slots := Vector.replicate 8 (some slot0) } : Core).slots i).isSome = true) ∧
      outage.env.supply ≠ .normal ∧ running.env.supply = .normal ∧ ({ running.env with paused := true } : Env).paused = true ∧
      running.env.paused = false ∧ HoldState.granted ≠ .owned ∧ running.env.mains = .mains ∧
      ({ running.env with mains := .battery } : Env).mains = .battery ∧
      (lockedOut0 running).env.lockedOut 0 = true ∧ look (latched0 running).env.latches 0 = true ∧
      directionOf (.percent 0) 50 = .toOpen ∧ directionOf (.percent 50) 0 = .toClose ∧
      JobClass.security.urgency < JobClass.ventilation.urgency ∧ JobClass.weather.urgency ≤ JobClass.security.urgency := by
  refine ⟨fun i => by simp, by decide, rfl, rfl, rfl, by decide, rfl, rfl, by decide +kernel, by decide +kernel, by decide,
    by decide, by decide, by decide⟩

theorem test_met_StartsTakeTheLowestSlot :
    lowestEmpty (building openZone idleLive).core.slots 0 ∧
      ((building openZone idleLive).core.live 0).ability = some ⟨30, 10, .fine, false, false⟩ ∧
      (waiting (slotted slot0 (building openZone (inState .driving)))).inReset = false ∧
      (waiting (slotted slot0 (building openZone (inState .driving)))).core.resolveSet = [0] ∧
      ((waiting (slotted slot0 (building openZone (inState .driving)))).core.live 0).state = .driving ∧
      (waiting (slotted slot0 (building openZone (inState .driving)))).core.slotOf 0 = some 0 ∧
      look (waiting (slotted slot0 (building openZone (inState .driving)))).core.slots 0 = some slot0 ∧
      (slotted slot0 (building openZone (inState .driving))).core.startUnsent running.env 0 = false ∧
      (waitingDrive true (building openZone (inState .driving))).core.startUnsent (building openZone idleLive).env 0 = true ∧
      (inState .driving).position.reached 50 = false ∧ (inState .driving).position.reached 2 = true ∧
      speedOf (inState .driving).ability .ventilation = slot0.speed ∧ (51 : Nat) ≠ slot0.target ∧
      (inState .driving).position ≠ .unknown ∧ directionOf (inState .driving).position 51 = slot0.direction ∧
      directionOf (.percent 90) 51 ≠ slot0.direction := by
  refine ⟨⟨?_, fun j hj => ?_⟩, by simp [idleLive], rfl, rfl, ?_, by decide +kernel, by simp [waiting, slotted],
    by decide +kernel, by decide +kernel, by decide, by decide, by decide, by decide, by decide, by decide, by decide⟩
  · simp [building, State.withLive, running, State.reset]
  · simp at hj
  · show ((building openZone (inState .driving)).core.live 0).state = .driving
    simp [inState]

/-- A re-drive at an UNKNOWN position to a target above 0 turns a CLOSE slot to OPEN (R81, R93). -/
theorem test_redrive_judges_direction_again (e : Env) (c : Core) (x : Slot) (hp : (c.live 0).position = .unknown)
    (hx : look c.slots 0 = some x) :
    (look (c.reDrive e 0 0 50 .weather .full).slots 0).map Slot.direction = some .toOpen := by
  rw [reDrive_slot e 0 0 50 .weather .full c x hx]
  simp [hp, directionOf]

/-- The replies to a DRIVE of opening 0 in flight, each judged. -/
theorem test_met_StartsTakeTheLowestSlot_replies (start : Bool) :
    ((inFlight (.drive 50 .full start) none running).core.segments.get .seg0).inFlight =
        some ⟨0, .drive 50 .full start, 0, 0, none, false⟩ ∧
      (RequestBody.drive 50 .full start) = .drive 50 .full start ∧
      judgedOutcome { inState .driving with position := .percent 20 } slot0 none .none = .none ∧
      judgedOutcome { inState .driving with position := .percent 50 } slot0 none .reached = .reached ∧
      judgedOutcome (inState .driving) slot0 none .stalled ≠ .none ∧
      (goodReply .none 20).answer = .ack ∧ ({ goodReply .none 20 with answer := .nak } : NodeReply).answer = .nak ∧
      ({ inState .stopping with stopCause := some .shed } : Live).stopCause = some .shed ∧ slot0.phase = .running :=
  ⟨rfl, rfl, rfl, rfl, by decide, rfl, rfl, rfl, rfl⟩

/-- The conditions of R90 for a DRIVE to 50, from above and from below. -/
theorem test_met_StartsTakeTheLowestSlot_unsent :
    unsentDrive (building openZone (inState .driving)).env
        (waitingDrive true (slotted slot0 (building openZone (inState .driving)))).core 0 50 true 0 slot0 ∧
      ((true = true) ↔ ((inState .driving).position = .unknown ∧ 0 < 50) ∨
        ∃ p : Nat, (inState .driving).position = .percent p ∧ p < 50) ∧
      ((false = true) ↔ ((Position.percent 50) = .unknown ∧ 0 < 50) ∨
        ∃ p : Nat, (Position.percent 50) = .percent p ∧ p < 50) ∧
      (lockedOut0 (building openZone idleLive)).env.lockedOut 0 = true ∧
      (building openZone idleLive).env.lockedOut 0 = false ∧
      look (latched0 (building openZone idleLive)).env.latches 0 = true ∧
      look (building openZone idleLive).env.latches 0 = false := by
  refine ⟨(test_met_StaticEntriesAreSetAndCleared_drives true).2.2.2.1, ⟨fun _ => .inr ⟨0, rfl, by decide⟩, fun _ => rfl⟩,
    ⟨(fun h => by cases h), ?_⟩, by decide +kernel, by decide +kernel, by decide +kernel, by decide +kernel⟩
  rintro (⟨h, _⟩ | ⟨p, h, k⟩)
  · cases h
  · cases h; omega

theorem test_met_StopCausesOvertake :
    (StopCause.retarget = .retarget ∨ StopCause.retarget = .shed ∨ StopCause.retarget = .hold) ∧
      slot0.direction = .toOpen ∧ Direction.toClose ≠ slot0.direction ∧ StopCause.shed ≠ .retarget ∧
      StopCause.shed ≠ .lockout ∧ Failure.cutOff ≠ .failedStart ∧ Failure.obstruction ≠ .failedStart ∧
      (inState .stopping).position.reached 2 = true ∧ (inState .stopping).position.reached 3 = false :=
  ⟨.inl rfl, rfl, by decide, by decide, by decide, by decide, by decide, by decide, by decide⟩

/-- A good reply of opening 0 whose transaction is in flight, its slot occupied and no DRIVE pending. -/
theorem test_met_StopCausesOvertake_replies (body : RequestBody) (x : OpeningState) :
    (slotted slot0 (inFlight body none (building openZone (inState x)))).inReset = false ∧
      ((slotted slot0 (inFlight body none (building openZone (inState x)))).core.segments.get .seg0).inFlight =
        some ⟨0, body, 0, 0, none, false⟩ ∧
      (goodReply .none 30).address = 0 ∧ (goodReply .none 30).ability = none ∧ (goodReply .none 30).answer = .ack ∧
      (slotted slot0 (inFlight body none (building openZone (inState x)))).core.pendingOf
        (building openZone (inState x)).env 0 1 = none ∧
      (slotted slot0 (inFlight body none (building openZone (inState x)))).core.slotOf 0 = some 0 ∧
      look (slotted slot0 (inFlight body none (building openZone (inState x)))).core.slots 0 = some slot0 ∧
      ((slotted slot0 (inFlight body none (building openZone (inState x)))).core.live 0).state = x ∧
      ({ inState x with stopCause := some .retarget } : Live).stopCause = some .retarget ∧
      judgedOutcome (inState x) slot0 none .stalled = .stalled ∧
      judgedOutcome (inState x) { slot0 with direction := .toClose } none .obstructed = .obstructed := by
  have hs : (building openZone (inState x)).env.segment 0 = .seg0 := by cases x <;> decide +kernel
  have hi : (slotted slot0 running).core.slotOf 0 = some 0 := by decide +kernel
  refine ⟨rfl, rfl, rfl, rfl, rfl, ?_, hi, by simp [slotted], ?_, rfl, rfl, rfl⟩
  · simp only [Core.pendingOf, hs]
    rfl
  · show ((building openZone (inState x)).core.live 0).state = x
    simp [inState]

theorem test_met_SupervisorTimersExpire :
    running.inReset = false ∧
      ((building openZone { inState .resting with restTimer := some ⟨0, 5⟩ }).core.live 0).restTimer = some ⟨0, 5⟩ ∧
      ((building openZone { inState .dwell with dwellTimer := some ⟨0, 5⟩ }).core.live 0).dwellTimer = some ⟨0, 5⟩ ∧
      look (slotted slot0 (building openZone (inState .stopping))).core.slots 0 = some slot0 ∧ slot0.runTimer = true ∧
      ((slotted slot0 (building openZone (inState .stopping))).core.live slot0.opening).state = .stopping ∧
      ((slotted slot0 (building openZone (inState .driving))).core.live slot0.opening).state = .driving ∧
      (slotted slot0 (building openZone (inState .driving))).core.slotOf slot0.opening = some 0 ∧
      (slotted slot0 (building openZone (inState .driving))).core.startUnsent
        (slotted slot0 (building openZone (inState .driving))).env slot0.opening = false ∧
      ({ slot0 with orphanEnd := some 55000 } : Slot).orphanEnd = some 55000 := by
  refine ⟨rfl, by simp, by simp, by simp [slotted], rfl, ?_, ?_, by decide +kernel, by decide +kernel, rfl⟩
  · show ((building openZone (inState .stopping)).core.live 0).state = .stopping
    simp [inState]
  · show ((building openZone (inState .driving)).core.live 0).state = .driving
    simp [inState]

/-! ### Hypotheses met: segments -/

/-- Segment 0 with an idle POLL of opening 0 in flight after some BUSYs. -/
def busied (n : Nat) : Transaction := ⟨0, .idlePoll, 0, n, none, false⟩

theorem test_met_LineEventsOfASegment :
    running.inReset = false ∧
      ((running.withSegment .seg0 { SegmentCtl.fresh 0 with turnaround := some ⟨0, 2⟩ }).core.segments.get
        .seg0).turnaround = some ⟨0, 2⟩ ∧
      ((inFlight .idlePoll none running).core.segments.get .seg0).inFlight = some (busied 0) ∧
      (busied 0).window = none ∧ (busied 0).leftover = false ∧ (busied 7).busyCount < 8 ∧ 8 ≤ (busied 8).busyCount ∧
      (running.core.segments.get .seg0).inFlight = none ∧ (busied 0).address ≠ 1 ∧
      readNodeFrame [0x3C, 0x40] = none :=
  ⟨rfl, rfl, rfl, rfl, rfl, by decide, by decide, rfl, by decide, by decide⟩

theorem test_met_IdlePollReplyIsStored :
    (inFlight .idlePoll none (building openZone idleLive)).inReset = false ∧
      (((inFlight .idlePoll none (building openZone idleLive)).core.segments.get .seg0).inFlight.map fun t =>
        (t.opening, t.body, t.leftover, t.address)) = some (0, .idlePoll, false, (goodReply .none 0).address) ∧
      (goodReply .none 0).ability = none ∧ (building openZone idleLive).env.segment 0 = .seg0 ∧
      (inFlight .idlePoll none (building openZone idleLive)).core.pendingOf (building openZone idleLive).env 0 1 = none := by
  refine ⟨rfl, rfl, rfl, by decide +kernel, by decide +kernel⟩

/-- A reply from an opening that moved, and from one whose position was not known. -/
theorem test_met_IdlePollReplyIsStored_moves :
    (inState .idle).state = .idle ∧ (inState .idle).position = .percent 0 ∧
      (storedPosition (inState .idle).ability (goodReply .none 3).position).reached 0 = false ∧
      (storedPosition (inState .idle).ability (goodReply .none 2).position).reached 0 = true ∧
      ({ inState .idle with position := .unknown } : Live).position = .unknown ∧
      ({ goodReply .none 3 with moving := true } : NodeReply).moving = true ∧ (goodReply .none 3).moving = false := by
  decide

theorem test_met_ReachedCompletesTheDrive :
    (slotted slot0 (inFlight .progressPoll none (building openZone (inState .driving)))).inReset = false ∧
      ((slotted slot0 (inFlight .progressPoll none (building openZone (inState .driving)))).core.live 0).state = .driving ∧
      (slotted slot0 (inFlight .progressPoll none (building openZone (inState .driving)))).core.slotOf 0 = some 0 ∧
      look (slotted slot0 (inFlight .progressPoll none (building openZone (inState .driving)))).core.slots 0 = some slot0 ∧
      slot0.direction = .toOpen ∧ (goodReply .reached 48).outcome = .reached ∧
      (storedPosition (inState .driving).ability (goodReply .reached 48).position).reached slot0.target = true ∧
      (slotted slot0 (inFlight .progressPoll none (building openZone (inState .driving)))).core.pendingOf
        (building openZone (inState .driving)).env 0 1 = none := by
  refine ⟨rfl, ?_, by decide +kernel, by simp [slotted], rfl, rfl, by decide, by decide +kernel⟩
  show ((building openZone (inState .driving)).core.live 0).state = .driving
  simp [inState]

/-- A closing drive to 0 of an opening with a lock contact. -/
def locking : Live := { inState .driving with ability := some ⟨30, 10, .fine, true, false⟩, position := .percent 50 }

theorem test_met_ReachedCompletesTheDrive_lock :
    ({ slot0 with direction := .toClose, target := 0 } : Slot).direction = .toClose ∧
      (∃ a : Ability, locking.ability = some a ∧ a.lockContact = true) ∧
      (storedPosition locking.ability (goodReply .reached 0).position).reached 0 = true ∧
      ({ goodReply .reached 0 with locked := some true } : NodeReply).locked = some true ∧
      (goodReply .reached 0).locked ≠ some true ∧
      ¬ (slot0.direction = .toClose ∧ slot0.target = 0 ∧ ∃ a : Ability, locking.ability = some a ∧ a.lockContact = true) :=
  ⟨rfl, ⟨_, rfl, rfl⟩, by decide, rfl, by decide, fun h => by cases h.1⟩

/-- Opening 0 polled, with its node's count. -/
def silent (n : Nat) : State :=
  (building openZone idleLive).withSegment .seg0 { SegmentCtl.fresh 0 with
    counts := put (SegmentCtl.fresh 0).counts 0 n
    inFlight := some ⟨0, .idlePoll, 0, 0, some ⟨0, 20⟩, false⟩ }

theorem test_met_SilenceIsCounted :
    (silent 1).inReset = false ∧ ((silent 1).core.segments.get .seg0).inFlight = some ⟨0, .idlePoll, 0, 0, some ⟨0, 20⟩, false⟩ ∧
      (silent 1).env.segment 0 = .seg0 ∧ ((silent 1).env.com 0).node = 0 ∧ ((silent 1).core.live 0).state = .idle ∧
      (silent 1).core.slotOf 0 = none ∧ look ((silent 1).core.segments.get .seg0).counts 0 + 1 < 3 ∧
      3 ≤ look ((silent 2).core.segments.get .seg0).counts 0 + 1 := by
  refine ⟨rfl, rfl, by decide +kernel, by decide +kernel, by decide +kernel, by decide +kernel, by decide +kernel,
    by decide +kernel⟩

/-- A transaction of opening 0 in flight whose window runs, its node's count given, its slot occupied. -/
def silentIn (body : RequestBody) (n : Nat) (x : OpeningState) : State :=
  slotted slot0 ((building openZone (inState x)).withSegment .seg0 { SegmentCtl.fresh 0 with
    counts := put (SegmentCtl.fresh 0).counts 0 n, inFlight := some ⟨0, body, 0, 0, some ⟨0, 20⟩, false⟩ })

theorem test_met_SilenceIsCounted_kinds (body : RequestBody) (x : OpeningState) :
    (silentIn body 1 x).inReset = false ∧
      ((silentIn body 1 x).core.segments.get .seg0).inFlight = some ⟨0, body, 0, 0, some ⟨0, 20⟩, false⟩ ∧
      ((silentIn body 1 x).core.live 0).state = x ∧ (silentIn body 1 x).core.slotOf 0 = some 0 ∧
      look (silentIn body 1 x).core.slots 0 = some slot0 ∧
      look ((silentIn body 1 x).core.segments.get .seg0).counts 0 + 1 < 3 ∧
      3 ≤ look ((silentIn body 2 x).core.segments.get .seg0).counts 0 + 1 ∧ OpeningState.driving ≠ .lost ∧
      ({ inState .stopping with stopCause := some .hold } : Live).stopCause = some .hold ∧
      20 < slot0.runDeadline + 5000 ∧ ({ slot0 with runDeadline := 0 } : Slot).runDeadline + 5000 ≤ 5000 ∧
      slot0.stopNaks + 1 < 3 ∧ 3 ≤ ({ slot0 with stopNaks := 2 } : Slot).stopNaks + 1 := by
  have hi : (slotted slot0 running).core.slotOf 0 = some 0 := by decide +kernel
  refine ⟨rfl, rfl, ?_, hi, by simp [silentIn, slotted], ?_, ?_, by decide, rfl, by decide, by decide, by decide, by decide⟩
  · show ((building openZone (inState x)).core.live 0).state = x
    simp [inState]
  · simp [silentIn, slotted]
  · simp [silentIn, slotted]

/-- A report of a stroke time and a rated current. -/
def report (stroke rated : Byte) : AbilityReport := ⟨stroke, rated, .fine, false, false, .window⟩

theorem test_met_AbilityChecksInOrder :
    (report 30 10).kind ≠ .skylight ∧ (report 30 10).kind = .window ∧ (report 30 0).rated.toNat = 0 ∧
      60 < (report 30 61).rated.toNat ∧ (report 4 60).rated.toNat ≤ 60 ∧ (report 4 60).stroke.toNat < 5 ∧
      (report 5 1).rated.toNat ≠ 0 ∧ 5 ≤ (report 5 1).stroke.toNat := by decide

/-- The replies to an ENROLL of opening 0 in each state, with an ability that passes, one that fails, and a NAK. -/
theorem test_met_AbilityChecksInOrder_replies (x : OpeningState) :
    (inFlight (.enroll true false false) none (building openZone (inState x))).inReset = false ∧
      ((inFlight (.enroll true false false) none (building openZone (inState x))).core.segments.get .seg0).inFlight =
        some ⟨0, .enroll true false false, 0, 0, none, false⟩ ∧
      (building openZone (inState x)).env.segment 0 = .seg0 ∧
      (inFlight (.enroll true false false) none (building openZone (inState x))).core.pendingOf
        (building openZone (inState x)).env 0 1 = none ∧
      ((inFlight (.enroll true false false) none (building openZone (inState x))).core.live 0).state = x ∧
      (building openZone (inState x)).core.orphaned 0 = false ∧
      (slotted { slot0 with phase := .orphan } (building openZone (inState .lost))).core.orphaned 0 = true ∧
      ({ goodReply .none 30 with ability := some (report 30 10) } : NodeReply).ability.isSome = true ∧
      ({ goodReply .none 30 with answer := .nak } : NodeReply).ability.isSome = false ∧
      refusalOf window.kind (report 30 10) = none ∧ refusalOf window.kind (report 4 10) = some .rating := by
  refine ⟨rfl, rfl, ?_, ?_, ?_, ?_, by decide +kernel, rfl, rfl, rfl, rfl⟩
  · cases x <;> decide +kernel
  · cases x <;> decide +kernel
  · show ((building openZone (inState x)).core.live 0).state = x
    simp [inState]
  · cases x <;> decide +kernel

/-- An orphan slot of opening 0. -/
def orphan0 : Slot := { slot0 with phase := .orphan, runTimer := false, orphanEnd := some 55000, progressPoll := none }

theorem test_met_PollAndProbeTimersAsk :
    running.inReset = false ∧ look (slotted slot0 running).core.slots 0 = some slot0 ∧
      slot0.progressPoll = some ⟨0, 1000⟩ ∧ (running.core.segments.get .seg1).roundTimer = some ⟨0, 30000⟩ ∧
      (building openZone idleLive).env.segment 0 = .seg0 ∧ polledInRound (building openZone idleLive) .seg0 0 ∧
      ¬ polledInRound (building openZone (inState .queued)) .seg0 0 ∧
      ((building openZone { idleLive with followPoll := some ⟨0, 1000⟩ }).core.live 0).followPoll = some ⟨0, 1000⟩ ∧
      ((building openZone { inState .lost with reProbe := some ⟨0, 9⟩ }).core.live 0).reProbe = some ⟨0, 9⟩ ∧
      ((building openZone { inState .lost with reProbe := some ⟨0, 9⟩ }).core.live 0).state = .lost ∧
      (slotted orphan0 running).core.orphaned 0 = true ∧ running.core.orphaned 0 = false ∧
      ((building openZone { inState .unenrolled with reProbe := some ⟨0, 9⟩ }).core.live 0).state = .unenrolled := by
  refine ⟨rfl, by simp [slotted], rfl, rfl, by decide +kernel, ?_, ?_, by simp, by simp, by simp [inState],
    by decide +kernel, by decide +kernel, by simp [inState]⟩
  · refine ⟨by simp [window], by simp [idleLive], .inl (by simp [idleLive]), ?_⟩
    decide +kernel
  · rintro ⟨_, _, h, _⟩
    simp [inState] at h

/-! ### Hypotheses met: holds and supply -/

/-- A state whose segment 0 has a Hold Controller. -/
def holding (h : Hold) (s : State) : State := { s with core := { s.core with holds := s.core.holds.set .seg0 h } }

/-- A granted segment with its request asserted. -/
def granted : Hold :=
  { filtered := true, filterTimer := some ⟨0, 10⟩, rearm := false, state := .granted, grantLine := true,
    reclaimLine := false, reclaimTimer := some ⟨0, 20000⟩, returningTimer := none, driversOff := true }

/-- A segment that returns. -/
def returning : Hold :=
  { Hold.fresh false with state := .returning, returningTimer := some ⟨0, 50⟩ }

theorem test_met_HoldRequestsAreFiltered :
    running.inReset = false ∧ (running.core.holds.get .seg0).filtered = false ∧
      (running.core.holds.get .seg0).filterTimer = none ∧
      ((holding { Hold.fresh false with filterTimer := some ⟨0, 10⟩ } running).core.holds.get .seg0).filterTimer =
        some ⟨0, 10⟩ ∧
      ((holding { Hold.fresh false with filterTimer := some ⟨0, 10⟩ } running).core.holds.get .seg0).state = .owned ∧
      (Hold.fresh false).rearm = false ∧ running.weather.level ≠ .closeAll ∧
      ((holding granted running).core.holds.get .seg0).filterTimer = some ⟨0, 10⟩ ∧
      ((holding granted running).core.holds.get .seg0).filtered = true ∧
      ((holding granted running).core.holds.get .seg0).state = .granted :=
  ⟨rfl, rfl, rfl, rfl, rfl, rfl, by decide, rfl, rfl, rfl⟩

/-- A segment that begins RELEASING under one drive, RUNNING, STARTING or STOPPING, and the holds a rise to CLOSE_ALL and
a descent from it meet. -/
theorem test_met_HoldRequestsAreFiltered_stops :
    DrivesWf (slotted slot0 (building openZone (inState .driving))) ∧
      DrivesWf (slotted slot0 (building openZone (inState .stopping))) ∧
      look (slotted slot0 (building openZone (inState .driving))).core.slots 0 = some slot0 ∧
      (building openZone (inState .driving)).env.segment slot0.opening = .seg0 ∧ Segment.seg0 ≠ .seg1 ∧
      slot0.phase ≠ .orphan ∧
      (waitingDrive false (building openZone (inState .driving))).core.startUnsent
        (building openZone (inState .driving)).env 0 = false ∧
      (waitingDrive true (building openZone (inState .driving))).core.startUnsent
        (building openZone (inState .driving)).env 0 = true ∧
      (skyAt 170 .watch).weather.level ≠ .closeAll ∧
      riseTarget running.env.work.settings (skyAt 170 .watch).weather = .closeAll ∧
      (skyAt 170 .closeAll).weather.level = .closeAll ∧ ({ Hold.fresh false with state := .releasing } : Hold).state = .releasing ∧
      granted.state = .granted ∧ returning.state = .returning ∧
      (running.core.segments.get .seg0).pass ≠ .due ∧ ({ Hold.fresh false with filtered := true } : Hold).filtered = true := by
  refine ⟨driving_drives _ (.inl rfl), driving_drives _ (.inr rfl), by simp [slotted], by decide +kernel, by decide,
    by decide, by decide +kernel, by decide +kernel, by decide, by decide, rfl, rfl, rfl, rfl, by decide, rfl⟩

theorem test_met_GrantsRevocationsAndReturns :
    running.inReset = false ∧
      ((holding { Hold.fresh false with filtered := true, state := .releasing } running).core.holds.get .seg0).state =
        .releasing ∧
      (holding { Hold.fresh false with filtered := true, state := .releasing } running).core.releaseComplete
        running.env .seg0 = true ∧
      running.weather.level ≠ .closeAll ∧
      ((holding granted running).core.holds.get .seg0).reclaimTimer = some ⟨0, 20000⟩ ∧
      ((holding returning running).core.holds.get .seg0).returningTimer = some ⟨0, 50⟩ ∧
      ((holding returning running).core.holds.get .seg0).filtered = false ∧ running.supply.state ≠ .out ∧
      outage.supply.state = .out ∧
      ((holding { returning with filtered := true } running).core.holds.get .seg0).filtered = true ∧
      ((holding { returning with filtered := true } running).core.holds.get .seg0).rearm = false := by
  refine ⟨rfl, rfl, by decide +kernel, by decide, rfl, rfl, rfl, by decide, rfl, rfl, rfl⟩

/-- A state with a supply. -/
def supplied (u : Supply) : State := { running with supply := u }

theorem test_met_VoltageAndOutage :
    settingsValid Settings.default = true ∧ 179 < Settings.default.outSet ∧ Settings.default.sagRelease < 226 ∧
      Settings.default.outSet ≤ 225 ∧ 225 ≤ Settings.default.sagRelease ∧ Settings.default.outRelease < 201 ∧
      200 ≤ Settings.default.outRelease ∧ running.inReset = false ∧ 600 ≤ 600 ∧ running.supply.state ≠ .outPending ∧
      judgeVoltage Settings.default 179 .normal = .outPending ∧
      (supplied { running.supply with state := .outPending, rideThrough := some ⟨0, 300⟩ }).supply.rideThrough =
        some ⟨0, 300⟩ ∧
      outage.supply.state = .out ∧ outage.work.settings.sagRelease < 226 ∧ (outage.core.holds.get .seg0).state = .owned ∧
      ((holding granted outage).core.holds.get .seg0).state ≠ .owned :=
  ⟨by decide, by decide, by decide, by decide, by decide, by decide, by decide, rfl, by decide, by decide, by decide, rfl,
    rfl, by decide, rfl, by decide⟩

theorem test_met_MainsChangesTheBudget :
    running.inReset = false ∧ MainsState.mains = running.supply.mains ∧ MainsState.battery ≠ running.supply.mains ∧
      running.supply.mainsFilter = none ∧
      (supplied { running.supply with mainsFilter := some ⟨0, 1000⟩ }).supply.mainsFilter = some ⟨0, 1000⟩ :=
  ⟨rfl, rfl, by decide, rfl, rfl⟩

theorem test_met_StartPause :
    running.inReset = false ∧ 999 ≤ 999 ∧ running.supply.pause = .none ∧
      running.budget * running.work.settings.highMark ≤ 190 * 100 ∧
      (supplied { running.supply with pause := .paused }).supply.pause = .paused ∧
      160 * 100 ≤ running.budget * running.work.settings.lowMark ∧
      (supplied { running.supply with pause := .barred }).supply.pause = .barred ∧
      running.budget * running.work.settings.lowMark < 161 * 100 ∧
      (supplied { running.supply with pause := .paused, pauseLimit := some ⟨0, 10000⟩ }).supply.pauseLimit =
        some ⟨0, 10000⟩ :=
  ⟨rfl, by decide, rfl, by decide, rfl, by decide, rfl, by decide, rfl⟩

theorem test_met_TripSheds :
    running.inReset = false ∧ 250 * 100 ≤ running.budget * 125 ∧ running.budget * 125 < 251 * 100 ∧
      running.supply.trip = none ∧
      (supplied { running.supply with trip := some ⟨0, 1000⟩ }).supply.trip = some ⟨0, 1000⟩ ∧
      (slotted slot0 (building openZone (inState .driving))).core.youngest = some (0, slot0) ∧
      (slotted slot0 (building openZone (inState .driving))).core.startUnsent
        (slotted slot0 (building openZone (inState .driving))).env slot0.opening = false := by
  refine ⟨rfl, by decide, by decide, rfl, rfl, by decide +kernel, by decide +kernel⟩

theorem test_met_EventsLeaveTheOtherBlocks :
    driveEvent .startWalk = true ∧ weatherEvent .gustWindowEnd = true ∧ supplyEvent .tripTimerExpiry = true := by decide

/-! ### Hypotheses met: frames and invariants -/

theorem test_met_RequestFramesReadBack :
    ∀ x : Settings, MasterRequest.settingsWrite Settings.default = .settingsWrite x → x.fits = true := by
  intro x h
  cases h
  decide

theorem running_step : step running = .next { running with clock := 1 } := rfl

theorem test_met_StepKeepsTheClaimTable : ClaimsWf (claimed oldClaim running) ∧ step running = .next { running with clock := 1 } :=
  ⟨claimed_wf _ _ (fun i => by simp [running, State.reset, Claims.fresh]) (by decide) (by decide), rfl⟩

theorem test_met_StepKeepsTheWorkingCopiesValid : WorkWf pinned ∧ step pinned = .next { pinned with clock := 1 } := by
  refine ⟨?_, rfl⟩
  unfold WorkWf
  decide +kernel

theorem test_met_StepKeepsWeatherInAgreement :
    SectorWf running ∧ LatchesWf running ∧ step running = .next { running with clock := 1 } := by
  refine ⟨⟨rfl, rfl, ?_, fun x h => ?_⟩, fun _ o => ?_, rfl⟩
  · exact ⟨(fun h => by cases h), (fun h => by cases h)⟩
  · cases h; rfl
  · simp [running, State.reset, Weather.fresh]

theorem test_met_StepKeepsAttnDerived :
    AttnWf running ∧ BuildingWf running ∧ step running = .next { running with clock := 1 } ∧
      (building openZone (inState .idle)).settled.core.notices.buildingClosed = true ∧
      (building openZone { inState .idle with position := .unknown }).settled.core.notices.buildingClosed ≠
        (building openZone { inState .idle with position := .unknown }).core.notices.buildingClosed := by
  refine ⟨fun p => ?_, fun _ => ⟨fun _ o h => ?_, fun _ => rfl⟩, rfl, by decide +kernel, by decide +kernel⟩
  · cases p <;> decide
  · simp [running, State.reset, Content.default, Commissioned.default] at h

theorem test_met_StepKeepsHoldOutputs :
    HoldsWf (holding granted running) ∧ step (holding granted running) = .next { holding granted running with clock := 1 } := by
  refine ⟨fun g => ?_, rfl⟩
  have h : (holding granted running).inReset = false := rfl
  rw [h]
  cases g <;> (simp only [Bool.false_eq_true, if_false]; exact ⟨by decide, by decide, by decide, by decide, by decide⟩)

theorem test_met_StepKeepsDrivesInAgreement :
    DrivesWf running ∧ OrderWf running ∧ OrderWf (queued0 (waiting running)) ∧
      step running = .next { running with clock := 1 } :=
  ⟨running_drives, ⟨List.Pairwise.nil, List.Pairwise.nil⟩, ⟨by decide, by decide⟩, rfl⟩

end Sys2Proof.Tests
end

section
/-! SUPPORT. What a reset does when it begins, and the requests that are refused, read the counters or clear a fault;
the statements on resets, READ_COUNTERS, the bar on commissioning and CLEAR_FAULT. -/

namespace Sys2Proof.Machine

/-! ### Resets -/

/-- What every kind of reset does when it begins. -/
theorem enterReset_cutOff (s : State) (k : ResetKind) : s.cutOff k (s.enterReset k) := by
  refine ⟨rfl, rfl, rfl, rfl, rfl, fun p => ⟨by simp [Port.hunting], ?_, fun g => ?_⟩⟩
  · simp [Core.held, NoticePort.held]
  · cases g <;> exact ⟨rfl, rfl, rfl⟩

/-- A power-on reset clears the counters of each record and makes its link-drop latch intact (R22, R23). -/
theorem live_held_powerOn (c : Core) (o : OpeningId) :
    (c.held .powerOn).live o = { (c.live o).counted0 with linkDropped := false } := by
  simp [Core.held, Core.live, Live.powerOn, Live.counted0, Counter.zero]

/-- A fall of the logic supply resets the part when it lasts longer than 50 µs (R168). -/
theorem exec_logicSupplyFall_long (s : State) (micros : Nat) (h : 50 < micros) :
    exec (.logicSupplyFall micros) s = .next (s.enterReset .powerOn) := by
  rw [exec_logicSupplyFall, if_pos (by simpa [logicFallMicros] using h)]

theorem exec_logicSupplyFall_short (s : State) (micros : Nat) (h : micros ≤ 50) :
    exec (.logicSupplyFall micros) s = .next s := by
  rw [exec_logicSupplyFall, if_neg (by simpa [logicFallMicros] using h)]

/-! ### Requests refused before their block looks at them -/

/-- A commissioning request in OPERATE (R176). -/
theorem editBarred_operate (s : State) (h : s.store.mode = .operate) : s.editBarred = some .wrongMode := by
  simp [State.editBarred, h]

/-- A commissioning request in COMMISSION while a save runs (R176). -/
theorem editBarred_saving (s : State) (hm : s.store.mode = .commission) (hs : s.store.state = .saving) :
    s.editBarred = some .busy := by
  simp [State.editBarred, hm, hs]

/-- A commissioning request in COMMISSION with the store IDLE (R176). -/
theorem editBarred_open (s : State) (hm : s.store.mode = .commission) (hs : s.store.state = .idle) :
    s.editBarred = none := by
  simp [State.editBarred, hm, hs]

/-- The three commissioning writes while the store bars them: each is refused with the store's status. -/
theorem commissioning_refused (a b c d e f g h i : Byte) (r : Settings) (s : State) (st : Status)
    (ht : s.takes .service) (hb : s.editBarred = some st) :
    exec (.openingWrite .service a b c d e f g h i) s = .next (s.sendingRefusal .service 19 st) ∧
      exec (.zoneWrite .service a b c d e f) s = .next (s.sendingRefusal .service 20 st) ∧
      exec (.settingsWrite .service r) s = .next (s.sendingRefusal .service 21 st) := by
  refine ⟨exec_served (.openingWrite a b c d e f g h i) .service s s (.refused st) ht rfl ?_,
    exec_served (.zoneWrite a b c d e f) .service s s (.refused st) ht rfl ?_,
    exec_served (.settingsWrite r) .service s s (.refused st) ht rfl ?_⟩
  · simp [MasterRequest.serve, serveOpeningWrite, hb]
  · simp [MasterRequest.serve, serveZoneWrite, hb]
  · simp [MasterRequest.serve, serveSettingsWrite, hb]

/-- A request from a port that R176 does not permit is answered NOT_PERMITTED. -/
theorem exec_forbidden (r : MasterRequest) (p : Role) (s : State) (h : s.takes p) (hp : r.permits p = false) :
    exec (r.command p) s = .next (s.sendingRefusal p r.code .notPermitted) := by
  rw [exec_command, takeRequest_taken s p r h, answer_forbidden s p r hp]

/-! ### READ_COUNTERS -/

theorem serveReadCounters_named (b : Byte) (o : OpeningId) (s : State) (h : names b o) :
    serveReadCounters b s = (s.withLive o (s.core.live o).counted0, .ok (s.core.live o).counterBytes) := by
  simp only [serveReadCounters, finOf?_eq_some 128 b.toNat o h]
  rfl

theorem serveReadCounters_outOfRange (b : Byte) (s : State) (h : 128 ≤ b.toNat) :
    serveReadCounters b s = (s, .outOfRange 1) := by
  simp only [serveReadCounters, finOf?_eq_none 128 b.toNat h]

/-! ### CLEAR_FAULT -/

/-- Entry to IDLE, by the record it leaves (R12). -/
theorem enterIdle_eq (o : OpeningId) (c : Core) : c.enterIdle o = (c.setLive o Live.idled).join o := rfl

/-- CLEAR_FAULT of a number that names a present opening, by its state (R115). -/
theorem serveClearFault_present (b : Byte) (o : OpeningId) (s : State) (h : names b o)
    (hp : (look s.work.openings o).present = true) :
    serveClearFault b s = if (s.core.live o).state ≠ .faulted then (s, .refused .notFound)
      else ((s.within fun e c => c.clearFault e o).settled, .ok []) := by
  simp [serveClearFault, finOf?_eq_some 128 b.toNat o h, hp]

theorem serveClearFault_absent (b : Byte) (o : OpeningId) (s : State) (h : names b o)
    (hp : (look s.work.openings o).present = false) : serveClearFault b s = (s, .refused .noSuchOpening) := by
  simp [serveClearFault, finOf?_eq_some 128 b.toNat o h, hp]

/-- CLEAR_FAULT of an enrolled opening (R19). -/
theorem clearFault_enrolled (e : Env) (o : OpeningId) (c : Core) (h : (c.live o).ability.isSome = true) :
    c.clearFault e o = (c.setLive o fun l => { l.idled with failureCount := 0 }).join o := by
  simp only [Core.clearFault, live_setLive_same, h, if_true, enterIdle_eq, setLive_setLive]
  rfl

/-- CLEAR_FAULT of an opening that never enrolled (R19). -/
theorem clearFault_unenrolled (e : Env) (o : OpeningId) (c : Core) (h : (c.live o).ability = none) :
    c.clearFault e o =
      (c.setLive o fun l => { l with failureCount := 0, faultReason := none, state := .unenrolled }).ask e o
        (.enroll false true false) := by
  simp [Core.clearFault, h, setLive_setLive]

end Sys2Proof.Machine

open Sys2Proof Sys2Proof.Machine

/-- Settles O3: one state after the reset serves power and a long fall alike, since both enter the same reset. -/
theorem resetsHoldThePart : Obligations.ResetsHoldThePart := by
  intro s micros
  refine ⟨⟨s.enterReset .powerOn, exec_powerOnReset s, enterReset_cutOff s .powerOn,
    exec_logicSupplyFall_long s micros, live_held_powerOn s.core⟩, exec_logicSupplyFall_short s micros,
    s.enterReset .pin, exec_resetPinAssert s, enterReset_cutOff s .pin, rfl⟩

/-- Settles O10: the three verdicts of READ_COUNTERS, by the opening number and by the port. -/
theorem readCountersReturnsAndClears : Obligations.ReadCountersReturnsAndClears := by
  intro b s
  refine ⟨fun ht o ho => ?_, fun ht hb => ?_, fun p hp ht => ?_⟩
  · exact exec_served (.readCounters b) .service s _ _ ht rfl (serveReadCounters_named b o s ho)
  · exact exec_served (.readCounters b) .service s _ _ ht rfl (serveReadCounters_outOfRange b s hb)
  · refine exec_forbidden (.readCounters b) p s ht ?_
    cases p with
    | service => exact absurd rfl hp
    | ventilation => rfl
    | security => rfl

/-- Settles O21: the store's bar is WRONG_MODE in OPERATE and BUSY while SAVING, and each write hands it on. -/
theorem commissioningIsGuarded : Obligations.CommissioningIsGuarded := by
  intro a b c d e f g h i r s ht
  exact ⟨fun hm => commissioning_refused a b c d e f g h i r s _ ht (editBarred_operate s hm),
    fun hm hs => commissioning_refused a b c d e f g h i r s _ ht (editBarred_saving s hm hs)⟩

/-- Settles O27: CLEAR_FAULT by presence, state and ability of the opening. -/
theorem clearFaultByState : Obligations.ClearFaultByState := by
  intro b o s ht hb
  refine ⟨fun hp => ?_, fun hp hs => ?_, fun hp hs => ⟨fun ha => ?_, fun ha => ?_⟩⟩
  · exact exec_served (.clearFault b) .service s _ _ ht rfl (serveClearFault_absent b o s hb hp)
  · exact exec_served (.clearFault b) .service s _ (.refused .notFound) ht rfl
      ((serveClearFault_present b o s hb hp).trans (if_pos hs))
  · have served := (serveClearFault_present b o s hb hp).trans (if_neg (fun h => h hs))
    have cleared : (s.within fun e c => c.clearFault e o) =
        (s.withLive o { (s.core.live o).idled with failureCount := 0 }).joining o := by
      simp only [State.within, clearFault_enrolled _ _ _ ha]
      rfl
    rw [cleared] at served
    exact exec_served (.clearFault b) .service s _ _ ht rfl served
  · refine ⟨s.within fun e c => c.clearFault e o, exec_served (.clearFault b) .service s _ _ ht rfl
      ((serveClearFault_present b o s hb hp).trans (if_neg (fun h => h hs))), ?_⟩
    simp only [State.within_core, clearFault_unenrolled _ _ _ ha]
    exact ⟨by simp, pendingOf_ask _ _ _ (.enroll false true false), by simp⟩

end

section
/-! SUPPORT. Drive slots after a change, the end of an orphan hold, and the moments of the slots' timers; the statement
on the timers of the Drive Supervisor. -/

namespace Sys2Proof.Machine

/-! ### Drive slots -/

/-- A slot changed without a change of its opening is still its opening's. -/
theorem slotOf_setSlot (c : Core) (i : SlotId) (f : Slot → Slot) (o : OpeningId)
    (hf : ∀ x : Slot, (f x).opening = x.opening) : (c.setSlot i f).slotOf o = c.slotOf o := by
  unfold Core.slotOf lowest
  congr 1
  funext j
  rw [Core.setSlot_slots, look_put]
  split
  · next h => subst h; cases look c.slots j <;> simp [hf]
  · rfl

theorem look_setSlot_same (c : Core) (i : SlotId) (f : Slot → Slot) (x : Slot) (h : look c.slots i = some x) :
    look (c.setSlot i f).slots i = some (f x) := by
  simp [h]

@[simp] theorem freeSlot_queue (e : Env) (i : SlotId) (c : Core) : (c.freeSlot e i).queue = c.queue := by
  unfold Core.freeSlot; split <;> rfl

@[simp] theorem freeSlot_resolveSet (e : Env) (i : SlotId) (c : Core) :
    (c.freeSlot e i).resolveSet = c.resolveSet := by
  unfold Core.freeSlot; split <;> rfl

@[simp] theorem freeSlot_notices (e : Env) (i : SlotId) (c : Core) : (c.freeSlot e i).notices = c.notices := by
  unfold Core.freeSlot; split <;> rfl

theorem freeSlot_walkTriggered (e : Env) (i : SlotId) (c : Core) (x : Slot) (h : look c.slots i = some x) :
    (c.freeSlot e i).walkTriggered = true := by
  rw [freeSlot_eq e c i x h]; rfl

/-- The end of an orphan hold with no re-probe held back frees the slot and does nothing else (R117). -/
theorem endOrphan_unheld (e : Env) (i : SlotId) (c : Core) (x : Slot) (hx : look c.slots i = some x)
    (h : (c.live x.opening).reProbeHeld = false) : c.endOrphan e i = c.freeSlot e i := by
  simp [Core.endOrphan, hx, h]

/-- The end of an orphan hold with a re-probe held back asks for it (R117). -/
theorem endOrphan_held (e : Env) (i : SlotId) (c : Core) (x : Slot) (hx : look c.slots i = some x)
    (h : (c.live x.opening).reProbeHeld = true) :
    c.endOrphan e i = ((c.freeSlot e i).setLive x.opening fun l => { l with reProbeHeld := false }).ask e x.opening
      (.enroll false false true) := by
  simp [Core.endOrphan, hx, h]

/-! ### Stop requests -/

/-- A stop request taken for a STOPPING opening changes the pending cause and nothing else (R15). -/
theorem requestStop_stopping (e : Env) (o : OpeningId) (cause : StopCause) (c : Core)
    (h : (c.live o).state = .stopping) : c.requestStop e o cause =
      c.setLive o fun l => { l with stopCause := l.stopCause.map fun held => held.overtake cause } := by
  simp [Core.requestStop, h]

/-- The expiry of a run limit is a stop request with cause CUTOFF of the slot's opening (R105). -/
theorem runLimitEnds_eq (e : Env) (i : SlotId) (c : Core) (x : Slot) (hx : look c.slots i = some x) :
    c.runLimitEnds e i = (c.setSlot i fun s => { s with runTimer := false }).requestStop e x.opening .cutoff := by
  simp [Core.runLimitEnds, hx]

/-- A run limit that ends while the opening is DRIVING, its DRIVE sent (R96, R105). -/
theorem runLimitEnds_driving (e : Env) (i : SlotId) (c : Core) (x : Slot) (hx : look c.slots i = some x)
    (hs : (c.live x.opening).state = .driving) (hi : c.slotOf x.opening = some i)
    (hu : c.startUnsent e x.opening = false) : c.runLimitEnds e i =
      ((((c.setSlot i fun s => { s with runTimer := false }).setLive x.opening fun l =>
        { l with state := .stopping, stopCause := some .cutoff }).setSlot i Slot.stopped).withdraw e x.opening
        RequestBody.ofRunning).ask e x.opening .stop := by
  have hi' : (c.setSlot i fun s => { s with runTimer := false }).slotOf x.opening = some i :=
    (slotOf_setSlot c i _ x.opening (by intro _; rfl)).trans hi
  rw [runLimitEnds_eq _ _ _ _ hx, requestStop_driving e x.opening .cutoff _ i (by exact hs) hi' (by exact hu)]

/-! ### The moments of the slots' timers -/

theorem runTimerOf_running (c : Core) (i : SlotId) (x : Slot) (hx : look c.slots i = some x)
    (h : x.runTimer = true) : c.runTimerOf i = some ⟨x.runDeadline, 0⟩ := by
  simp [Core.runTimerOf, hx, h]

theorem orphanTimerOf_running (c : Core) (i : SlotId) (x : Slot) (t : Nat) (hx : look c.slots i = some x)
    (h : x.orphanEnd = some t) : c.orphanTimerOf i = some ⟨t, 0⟩ := by
  simp [Core.orphanTimerOf, hx, h]

/-- RUN_LIMIT_EXPIRY of a slot whose timer runs, at its deadline (R104, R105). -/
theorem exec_runLimitExpiry_running (i : SlotId) (s : State) (x : Slot) (hr : s.inReset = false)
    (hx : look s.core.slots i = some x) (h : x.runTimer = true) :
    exec (.runLimitExpiry i) s =
      .next ((s.atMoment x.runDeadline).within fun e c => c.runLimitEnds e i).settled := by
  rw [exec_runLimitExpiry, runTimerOf_running _ _ _ hx h, coreExpiry_running _ _ _ hr]
  rfl

/-- ORPHAN_HOLD_END of a slot whose orphan hold runs, at its end (R116, R117). -/
theorem exec_orphanHoldEnd_running (i : SlotId) (s : State) (x : Slot) (t : Nat) (hr : s.inReset = false)
    (hx : look s.core.slots i = some x) (h : x.orphanEnd = some t) :
    exec (.orphanHoldEnd i) s = .next ((s.atMoment t).within fun e c => c.endOrphan e i).settled := by
  rw [exec_orphanHoldEnd, orphanTimerOf_running _ _ _ _ hx h, coreExpiry_running _ _ _ hr]
  rfl

end Sys2Proof.Machine

open Sys2Proof Sys2Proof.Machine

/-- Settles O39, by timer: a rest, a dwell, a run limit of a STOPPING and of a DRIVING opening, and an orphan hold. -/
theorem supervisorTimersExpire : Obligations.SupervisorTimersExpire := by
  refine ⟨fun s o f hr => ⟨fun hf => ?_, fun hf => ?_⟩, fun s i x hr hx => ⟨fun ht hs => ?_, fun ht hs hi hu => ?_,
    fun t ht => ?_⟩⟩
  · rw [exec_restTimerExpiry, hf, coreExpiry_running _ _ _ hr]; rfl
  · rw [exec_dwellTimerExpiry, hf, coreExpiry_running _ _ _ hr]; rfl
  · refine ⟨_, exec_runLimitExpiry_running i s x hr hx ht, rfl, ?_⟩
    rw [State.within_core, State.atMoment_core, runLimitEnds_eq _ _ _ _ hx,
      requestStop_stopping _ _ _ _ (by simpa using hs)]
    exact ⟨by simp [hx], by simp, rfl, rfl⟩
  · refine ⟨_, exec_runLimitExpiry_running i s x hr hx ht, ?_⟩
    rw [State.within_core, State.atMoment_core, runLimitEnds_driving _ _ _ _ hx hs hi (by exact hu)]
    exact ⟨by simp, pendingOf_ask _ _ _ .stop, rfl, by simp [hx, Slot.stopped]⟩
  · refine ⟨_, exec_orphanHoldEnd_running i s x t hr hx ht, rfl, ?_⟩
    rw [State.within_core, State.atMoment_core]
    cases hh : (s.core.live x.opening).reProbeHeld with
    | false =>
      rw [endOrphan_unheld _ _ _ _ hx hh]
      exact ⟨look_freeSlot_same _ _ _, look_freeSlot_ne _ _ _, freeSlot_walkTriggered _ _ _ _ hx, by simp, by simp,
        by simp⟩
    | true =>
      rw [endOrphan_held _ _ _ _ hx hh]
      exact ⟨look_freeSlot_same _ _ _, look_freeSlot_ne _ _ _, freeSlot_walkTriggered _ _ _ _ hx, by simp, by simp,
        by simp⟩

end

section
/-! SUPPORT. The end of a transaction, a good reply stored, and the block that takes the rest of it; the statement on
idle POLLs. -/

namespace Sys2Proof.Machine

@[simp] theorem env_now (s : State) : s.env.now = s.clock := rfl

/-! ### Pending requests -/

/-- The pending request of an opening depends on its segment's pending set alone. -/
theorem pendingOf_congr (e : Env) (c d : Core) (o : OpeningId) (k : Nat)
    (h : (d.segments.get (e.segment o)).requests = (c.segments.get (e.segment o)).requests) :
    d.pendingOf e o k = c.pendingOf e o k := by
  unfold Core.pendingOf; rw [h]

/-- What the withdrawal of requests leaves pending: nothing of a kind that is withdrawn. -/
theorem pendingOf_withdraw (e : Env) (c : Core) (o : OpeningId) (which : RequestBody → Bool) (k : Nat)
    (h : ∀ b : RequestBody, b.kind = k → which b = true) : (c.withdraw e o which).pendingOf e o k = none := by
  simp only [Core.pendingOf, Core.withdraw, Core.setSegment_segments, PerSegment.get_set_same, List.find?_eq_none,
    List.mem_filter]
  rintro r ⟨_, hr⟩ hk
  simp_all

@[simp] theorem requests_setCount (c : Core) (g h : Segment) (a : NodeAddress) (n : Nat) :
    ((c.setCount g a n).segments.get h).requests = (c.segments.get h).requests := by
  cases g <;> cases h <;> rfl

@[simp] theorem requests_endTransaction (e : Env) (c : Core) (g h : Segment) :
    ((c.endTransaction e g).segments.get h).requests = (c.segments.get h).requests := by
  cases g <;> cases h <;> rfl

/-! ### The end of a transaction (R121, R125, R127) -/

/-- A core whose transaction has ended: the turnaround runs, and the node's count is the one its end gives. -/
def Core.ended (e : Env) (g : Segment) (a : NodeAddress) (n : Nat) (c : Core) : Core :=
  (c.endTransaction e g).setCount g a n

/-- A record with the position and lock of a good reply (R8, R10). -/
def Live.reported (r : NodeReply) (l : Live) : Live :=
  { l with locked := storedLock l r.locked, position := storedPosition l.ability r.position }

section Ended

variable (e : Env) (g : Segment) (a : NodeAddress) (n : Nat) (c : Core)

@[simp] theorem live_ended (o : OpeningId) : (c.ended e g a n).live o = c.live o := rfl
@[simp] theorem slotOf_ended (o : OpeningId) : (c.ended e g a n).slotOf o = c.slotOf o := rfl
@[simp] theorem ended_openings : (c.ended e g a n).openings = c.openings := rfl
@[simp] theorem ended_slots : (c.ended e g a n).slots = c.slots := rfl
@[simp] theorem ended_queue : (c.ended e g a n).queue = c.queue := rfl
@[simp] theorem ended_resolveSet : (c.ended e g a n).resolveSet = c.resolveSet := rfl
@[simp] theorem ended_notices : (c.ended e g a n).notices = c.notices := rfl

/-- The segment's controller after the end: its line free, the turnaround running, the node's count written. -/
theorem ended_segment : (c.ended e g a n).segments.get g =
    { c.segments.get g with
      inFlight := none, turnaround := startTimer e.now turnaroundMs, counts := put (c.segments.get g).counts a n } := by
  simp [Core.ended, Core.setCount, Core.endTransaction]

/-- The end of a transaction leaves every pending set. -/
theorem pendingOf_ended (o : OpeningId) (k : Nat) : (c.ended e g a n).pendingOf e o k = c.pendingOf e o k :=
  pendingOf_congr _ _ _ _ _ ((requests_setCount _ _ _ _ _).trans (requests_endTransaction _ _ _ _))

end Ended

/-- A core whose transaction has ended in a good reply and whose opening's record holds the reply's position and
lock. -/
def Core.told (e : Env) (g : Segment) (t : Transaction) (r : NodeReply) (c : Core) : Core :=
  (c.ended e g t.address 0).setLive t.opening (Live.reported r)

section Told

variable (e : Env) (g : Segment) (t : Transaction) (r : NodeReply) (c : Core)

@[simp] theorem told_slots : (c.told e g t r).slots = c.slots := rfl
@[simp] theorem told_queue : (c.told e g t r).queue = c.queue := rfl
@[simp] theorem told_resolveSet : (c.told e g t r).resolveSet = c.resolveSet := rfl
@[simp] theorem told_notices : (c.told e g t r).notices = c.notices := rfl
@[simp] theorem slotOf_told (o : OpeningId) : (c.told e g t r).slotOf o = c.slotOf o := rfl
@[simp] theorem told_segments : (c.told e g t r).segments = (c.ended e g t.address 0).segments := rfl

@[simp] theorem live_told_same : (c.told e g t r).live t.opening = (c.live t.opening).reported r := by
  simp [Core.told]

theorem live_told_ne (q : OpeningId) (h : q ≠ t.opening) : (c.told e g t r).live q = c.live q := by
  simp [Core.told, live_setLive_ne _ _ _ _ h]

/-- With no DRIVE unsent a good reply's position and lock are stored and nothing else happens. -/
theorem storeReport_ended (h : c.pendingOf e t.opening 1 = none) :
    (c.ended e g t.address 0).storeReport e t.opening r.position r.locked = c.told e g t r :=
  storeReport_quiet e t.opening r.position r.locked _ ((pendingOf_ended e g t.address 0 c t.opening 1).trans h)

/-! The block that asked for the transaction takes the rest of the reply, by the transaction's kind (R121). -/

theorem takeReply_idlePoll (hb : t.body = .idlePoll) (hp : c.pendingOf e t.opening 1 = none) :
    c.takeReply e g t r = (c.told e g t r).idleReply e t.opening (c.live t.opening).position r := by
  rw [← storeReport_ended e g t r c hp]
  simp only [Core.takeReply, hb]
  rfl

theorem takeReply_stop (hb : t.body = .stop) (hp : c.pendingOf e t.opening 1 = none) :
    c.takeReply e g t r = (c.told e g t r).stopReply e t.opening r := by
  rw [← storeReport_ended e g t r c hp]
  simp only [Core.takeReply, hb]
  rfl

theorem takeReply_progressPoll (hb : t.body = .progressPoll) (hp : c.pendingOf e t.opening 1 = none) :
    c.takeReply e g t r = (c.told e g t r).progressReply e t.opening r := by
  rw [← storeReport_ended e g t r c hp]
  simp only [Core.takeReply, hb]
  rfl

end Told

/-- A reply without an ability fits every transaction but an ENROLL (R121). -/
theorem replyFits_plain (r : NodeReply) (b : RequestBody) (h : r.ability = none) (hb : b.kind ≠ 3) :
    replyFits r b = true := by
  simp [replyFits, h, hb]

/-- NODE_REPLY that answers the transaction in flight takes the reply. -/
theorem exec_nodeReply_taken (g : Segment) (s : State) (t : Transaction) (r : NodeReply) (hr : s.inReset = false)
    (ht : (s.core.segments.get g).inFlight = some t) (hl : t.leftover = false) (ha : t.address = r.address)
    (hf : replyFits r t.body = true) :
    exec (.nodeReply g r) s = .next (s.within fun e c => c.takeReply e g t r).settled := by
  rw [exec_nodeReply, coreEvent_running _ _ hr]
  simp only [State.within, Core.replyArrives, ht, ha, hf, hl, and_self, if_true]

/-! ### Idle POLLs (R132) -/

/-- A position has left the one stored before it, or that one was UNKNOWN (R132). -/
theorem movedFrom_iff (before after : Position) : movedFrom before after = true ↔
    before = .unknown ∨ ∃ p : Nat, before = .percent p ∧ after.reached p = false := by
  cases before <;> simp [movedFrom]

/-- A record with the follow-poll timer as a reply's motion sets it (R132). -/
def Live.followed (now : Nat) (moving : Bool) (l : Live) : Live :=
  { l with followPoll := if moving then startTimer now followPollMs else none }

/-- The reply to an idle POLL sets the follow-poll timer; its opening joins the pending-resolution set when it is IDLE
and has moved, and nothing else changes (R132). -/
theorem idleReply_eq (e : Env) (o : OpeningId) (before : Position) (r : NodeReply) (c : Core) :
    ∃ joined : List OpeningId,
      c.idleReply e o before r = { c.setLive o (Live.followed e.now r.moving) with resolveSet := joined } ∧
      ∀ q : OpeningId, q ∈ joined ↔ q ∈ c.resolveSet ∨
        (q = o ∧ (c.live o).state = .idle ∧ movedFrom before (c.live o).position = true) := by
  unfold Core.idleReply
  simp only [live_setLive_same]
  split
  · next hj => exact ⟨_, rfl, fun q => by simp [hj, or_comm]⟩
  · next hj => exact ⟨_, rfl, fun q => by simp [hj]⟩

end Sys2Proof.Machine

open Sys2Proof Sys2Proof.Machine

/-- Settles O41: the reply is stored where its transaction ended, and the opening joins by R132's test or not. -/
theorem idlePollReplyIsStored : Obligations.IdlePollReplyIsStored := by
  intro g s t r l hr ht hb hl ha hab hg hp rfl
  refine ⟨_, exec_nodeReply_taken g s t r hr ht hl ha (replyFits_plain r t.body hab (by simp [hb, RequestBody.kind])),
    ?_⟩
  obtain ⟨joined, stored, mem⟩ := idleReply_eq s.env t.opening (s.core.live t.opening).position r
    (s.core.told s.env g t r)
  rw [State.within_core, takeReply_idlePoll _ _ _ _ _ hb hp, stored]
  have line := ended_segment s.env g t.address 0 s.core
  refine ⟨by simp [line], by simp [line, startTimer, turnaroundMs], by simp [line], ?_, fun q => ?_,
    fun q hq => ?_, rfl, rfl, rfl⟩
  · exact (live_setLive_same _ _ _).trans (by rw [live_told_same]; rfl)
  · rw [mem, movedFrom_iff]
    simp [Live.reported]
  · exact (live_setLive_ne _ _ _ _ hq).trans (live_told_ne _ _ _ _ _ q hq)

end

section
/-! SUPPORT. What a failure costs (R107, R111, R112, R114). -/

namespace Sys2Proof.Machine

/-! ### Failures (R107, R114) -/

/-- A record as R19 leaves it in FAULTED. -/
def Live.faultedFor (reason : FaultReason) (l : Live) : Live :=
  { l with state := .faulted, faultReason := some reason, target := none, jobClass := none, stopCause := none,
           dwellReason := none, restTimer := none, dwellTimer := none, followPoll := none, reProbe := none,
           reProbeHeld := false }

/-- A record with a failure counted (R107). -/
def Live.failed (f : Failure) (l : Live) : Live := { l.countFailure f with failureCount := l.failureCount + 1 }

section Failures

variable (e : Env) (o : OpeningId) (c : Core)

@[simp] theorem live_enterFaulted_same (r : FaultReason) :
    (c.enterFaulted e o r).live o = (c.live o).faultedFor r := by
  simp [Core.enterFaulted, Live.faultedFor]

@[simp] theorem enterFaulted_slots (r : FaultReason) : (c.enterFaulted e o r).slots = c.slots := rfl
@[simp] theorem enterFaulted_queue (r : FaultReason) : (c.enterFaulted e o r).queue = c.queue := rfl
@[simp] theorem enterFaulted_walkTriggered (r : FaultReason) :
    (c.enterFaulted e o r).walkTriggered = c.walkTriggered := rfl
@[simp] theorem enterFaulted_notices (r : FaultReason) :
    (c.enterFaulted e o r).notices = c.notices.hand .openingFaulted := rfl

@[simp] theorem enterResting_slots : (c.enterResting e o).slots = c.slots := by
  unfold Core.enterResting; split <;> rfl
@[simp] theorem enterResting_queue : (c.enterResting e o).queue = c.queue := by
  unfold Core.enterResting; split <;> rfl
@[simp] theorem enterResting_walkTriggered : (c.enterResting e o).walkTriggered = c.walkTriggered := by
  unfold Core.enterResting; split <;> rfl

/-- The third failure makes the opening FAULTED (R114). -/
theorem takeFailure_third (f : Failure) (h : 2 ≤ (c.live o).failureCount) :
    c.takeFailure e o f =
      (c.setLive o fun l => { l.countFailure f with failureCount := 3 }).enterFaulted e o .failures := by
  simp [Core.takeFailure, setLive_setLive, h]

/-- An obstruction below the third failure makes the opening dwell (R112). -/
theorem takeFailure_obstruction (h : (c.live o).failureCount < 2) :
    c.takeFailure e o .obstruction = (c.setLive o (Live.failed .obstruction)).enterDwell e o .obstruction := by
  simp [Core.takeFailure, Nat.not_le.2 h]
  rfl

/-- A failed start or a cut-off below the third failure makes the opening rest (R111). -/
theorem takeFailure_rest (f : Failure) (hf : f ≠ .obstruction) (h : (c.live o).failureCount < 2) :
    c.takeFailure e o f = (c.setLive o (Live.failed f)).enterResting e o := by
  cases f <;> simp_all [Core.takeFailure, Nat.not_le.2 h]
  all_goals rfl

@[simp] theorem takeFailure_slots (f : Failure) : (c.takeFailure e o f).slots = c.slots := by
  unfold Core.takeFailure; dsimp only; split <;> cases f <;> simp
@[simp] theorem takeFailure_queue (f : Failure) : (c.takeFailure e o f).queue = c.queue := by
  unfold Core.takeFailure; dsimp only; split <;> cases f <;> simp
@[simp] theorem takeFailure_walkTriggered (f : Failure) :
    (c.takeFailure e o f).walkTriggered = c.walkTriggered := by
  unfold Core.takeFailure; dsimp only; split <;> cases f <;> simp

/-- What a failure costs (R107, R111, R112, R114). -/
theorem takeFailure_taken (f : Failure) : failureTaken e o f (c.live o) (c.takeFailure e o f) := by
  by_cases h : 2 ≤ (c.live o).failureCount
  · rw [takeFailure_third e o c f h]
    have latched : ∀ p : Role, hasKind ((c.notices.hand .openingFaulted).ports.get p).latch .openingFaulted = true :=
      fun p => hand_latches c.notices .openingFaulted p rfl
    cases f <;>
      simp [failureTaken, Live.faultedFor, Live.countFailure, latched, Nat.not_lt.2 h]
  · have h' := Nat.lt_of_not_le h
    by_cases hf : f = .obstruction
    · subst hf
      rw [takeFailure_obstruction e o c h']
      simp [failureTaken, Core.enterDwell, Live.failed, Live.countFailure, h, startTimer, dwellLength, seconds]
    · rw [takeFailure_rest e o c f hf h']
      by_cases hr : e.work.settings.restInterval = 0
      · cases f <;>
        simp_all [failureTaken, Core.enterResting, Core.enterIdle, Live.failed, Live.countFailure]
      · cases f <;>
        simp_all [failureTaken, Core.enterResting, Live.failed, Live.countFailure, startTimer, seconds]

end Failures

end Sys2Proof.Machine
end

section
/-! SUPPORT. Outcomes as a slot takes them, confirmed stops and the replies that lead there; the statement on stop
causes. -/

namespace Sys2Proof.Machine

/-! ### Outcomes as a slot takes them (R99, R100, R110) -/

/-- Whether a drive completes only where the lock is reported engaged (R100). -/
def needsLock (l : Live) (x : Slot) : Prop :=
  x.direction = .toClose ∧ x.target = 0 ∧ ∃ a : Ability, l.ability = some a ∧ a.lockContact = true

/-- REACHED passes the position test and the lock test, or counts as NONE (R99, R100). -/
theorem judgedOutcome_reached (l : Live) (x : Slot) (locked : Option Bool) :
    (l.position.reached x.target = true → (needsLock l x → locked = some true) →
      judgedOutcome l x locked .reached = .reached) ∧
    (l.position.reached x.target = false ∨ (needsLock l x ∧ locked ≠ some true) →
      judgedOutcome l x locked .reached = .none) := by
  have lock : (decide (x.direction = .toClose) && x.target == 0 && l.ability.any fun a => a.lockContact) = true ↔
      needsLock l x := by
    cases h : l.ability <;> simp [needsLock, h, and_assoc]
  unfold judgedOutcome
  dsimp only
  refine ⟨fun hr hl => if_pos ?_, fun h => if_neg ?_⟩
  · rw [hr, Bool.true_and, Bool.or_eq_true, Bool.not_eq_true']
    by_cases hn : needsLock l x
    · exact .inr (by simp [hl hn])
    · exact .inl (by rwa [← Bool.not_eq_true, lock])
  · rcases h with h | ⟨hn, hl⟩
    · simp [h]
    · simp [lock.2 hn, hl]

/-! ### Confirmed stops (R16) -/

/-- A stop confirmed while the opening occupies a slot: the slot is freed and R16's table decides. -/
theorem confirmStop_eq (e : Env) (o : OpeningId) (locked : Option Bool) (out : DriveOutcome) (c : Core) (i : SlotId)
    (x : Slot) (hi : c.slotOf o = some i) (hx : look c.slots i = some x) :
    c.confirmStop e o locked out = (c.freeSlot e i).settleStop e o ((c.live o).stopCause.getD .retarget)
      ((c.live o).jobClass.getD x.cls) (judgedOutcome (c.live o) x locked out) := by
  simp [Core.confirmStop, hi, hx]

section Settled

variable (e : Env) (o : OpeningId) (cls : JobClass) (c : Core)

@[simp] theorem live_completeStop : (c.completeStop o).live o = (c.live o).complete := by simp [Core.completeStop]

@[simp] theorem live_enterIdle : (c.enterIdle o).live o = (c.live o).idled := by simp [enterIdle_eq]

@[simp] theorem live_enterLockedOut : (c.enterLockedOut o).live o = (c.live o).barred := by
  simp [Core.enterLockedOut, Live.barred]

/-- The state a RETARGET leads to keeps what a completion has written (R16 notes 1 and 3). -/
theorem afterRetarget_keeps (h : o ∈ c.resolveSet) :
    o ∈ (c.afterRetarget e o).resolveSet ∧
      ((c.afterRetarget e o).live o).failureCount = (c.live o).failureCount ∧
      ((c.afterRetarget e o).live o).drivesCompleted = (c.live o).drivesCompleted := by
  unfold Core.afterRetarget
  repeat' split
  all_goals simp [Core.enterDwell, Live.idled, h]

/-- A completion has its effects on the record and the pending-resolution set under every stop cause (R99). -/
theorem settleStop_reached (r : StopCause) :
    o ∈ (c.settleStop e o r cls .reached).resolveSet ∧
      ((c.settleStop e o r cls .reached).live o).failureCount = 0 ∧
      ((c.settleStop e o r cls .reached).live o).drivesCompleted = (c.live o).drivesCompleted.bump := by
  have joined : o ∈ (c.completeStop o).resolveSet := by simp [Core.completeStop]
  cases r with
  | retarget => simpa [Core.settleStop, Live.complete] using afterRetarget_keeps e o (c.completeStop o) joined
  | lockout => exact ⟨joined, by simp [Core.settleStop, Live.barred, Live.complete],
      by simp [Core.settleStop, Live.barred, Live.complete]⟩
  | cutoff | shed | hold => simp [Core.settleStop, Live.idled, Live.complete]

/-- A failed drive under every cause but LOCKOUT costs what its outcome costs (R16, R107). -/
theorem settleStop_failed (r : StopCause) (h : r ≠ .lockout) :
    failureTaken e o .cutOff (c.live o) (c.settleStop e o r cls .stalled) ∧
      failureTaken e o .obstruction (c.live o) (c.settleStop e o r cls .obstructed) := by
  cases r with
  | lockout => exact absurd rfl h
  | retarget | cutoff | shed | hold => exact ⟨takeFailure_taken e o c .cutOff, takeFailure_taken e o c .obstruction⟩

end Settled

/-! ### Outcomes of a running drive (R101) -/

/-- A failure reported by a DRIVING opening's node frees the slot (R101). -/
theorem takeOutcome_failed (e : Env) (o : OpeningId) (locked : Option Bool) (out : DriveOutcome) (c : Core) (i : SlotId)
    (x : Slot) (f : Failure) (hi : c.slotOf o = some i) (hx : look c.slots i = some x)
    (hc : f = .cutOff → judgedOutcome (c.live o) x locked out = .stalled)
    (ho : f = .obstruction → judgedOutcome (c.live o) x locked out = .obstructed) (hf : f ≠ .failedStart) :
    c.takeOutcome e o locked out = (c.freeSlot e i).takeFailure e o f := by
  cases f with
  | failedStart => exact absurd rfl hf
  | cutOff => simp [Core.takeOutcome, hi, hx, hc rfl]
  | obstruction => simp [Core.takeOutcome, hi, hx, ho rfl]

section Restart

variable (e : Env) (o : OpeningId) (c : Core)

@[simp] theorem live_restartProgress (q : OpeningId) : (c.restartProgress e o).live q = c.live q := by
  unfold Core.restartProgress; split <;> rfl
@[simp] theorem restartProgress_queue : (c.restartProgress e o).queue = c.queue := by
  unfold Core.restartProgress; split <;> rfl
@[simp] theorem restartProgress_resolveSet : (c.restartProgress e o).resolveSet = c.resolveSet := by
  unfold Core.restartProgress; split <;> rfl
@[simp] theorem restartProgress_notices : (c.restartProgress e o).notices = c.notices := by
  unfold Core.restartProgress; split <;> rfl
@[simp] theorem restartProgress_segments : (c.restartProgress e o).segments = c.segments := by
  unfold Core.restartProgress; split <;> rfl
@[simp] theorem restartProgress_walkTriggered : (c.restartProgress e o).walkTriggered = c.walkTriggered := by
  unfold Core.restartProgress; split <;> rfl

/-- A slot that is empty stays so when a progress-poll timer is restarted. -/
theorem look_restartProgress_none (i : SlotId) (h : look c.slots i = none) :
    look (c.restartProgress e o).slots i = none := by
  unfold Core.restartProgress
  split
  · exact h
  · next j _ =>
    rw [Core.setSlot_slots, look_put]
    split
    · next hij => simp [← hij, h]
    · exact h

end Restart

/-- What a failure costs is read off the record, the notices and the pending-resolution set. -/
theorem failureTaken_congr (e : Env) (o : OpeningId) (f : Failure) (l : Live) (c d : Core) (hl : d.live o = c.live o)
    (hn : d.notices = c.notices) (hr : d.resolveSet = c.resolveSet) (h : failureTaken e o f l c) :
    failureTaken e o f l d := by
  unfold failureTaken at h ⊢
  rwa [hl, hn, hr]

/-! ### Replies to a STOP and to a progress POLL (R97, R130) -/

/-- An ACK to the STOP of a STOPPING opening confirms the stop (R97). -/
theorem stopReply_ack (e : Env) (o : OpeningId) (r : NodeReply) (c : Core) (hs : (c.live o).state = .stopping)
    (ha : r.answer = .ack) : c.stopReply e o r = c.confirmStop e o r.locked r.outcome := by
  simp [Core.stopReply, hs, ha]

/-- The outcome of a progress POLL is taken of a DRIVING opening (R130). -/
theorem progressReply_driving (e : Env) (o : OpeningId) (r : NodeReply) (c : Core) (hs : (c.live o).state = .driving) :
    c.progressReply e o r = (c.takeOutcome e o r.locked r.outcome).restartProgress e o := by
  simp [Core.progressReply, hs]

/-- R15's table. -/
theorem overtake_table : (∀ r : StopCause, StopCause.overtake .lockout r = .lockout) ∧
    (∀ r : StopCause, StopCause.overtake .cutoff r = if r = .lockout then .lockout else .cutoff) ∧
    ∀ h r : StopCause, h = .retarget ∨ h = .shed ∨ h = .hold → h.overtake r = r := by
  refine ⟨fun r => rfl, fun r => by cases r <;> rfl, fun h r hh => ?_⟩
  rcases hh with rfl | rfl | rfl <;> rfl

end Sys2Proof.Machine

open Sys2Proof Sys2Proof.Machine

/-- Settles O38: R15's table, the judged outcomes, the cost of a failure, R16's table cell by cell, and the two replies
that lead there. -/
theorem stopCausesOvertake : Obligations.StopCausesOvertake := by
  refine ⟨overtake_table, fun l x locked => ?_, fun e o f c => takeFailure_taken e o c f,
    fun e o cls c l done hl hd => ?_, fun g s t r i x l hr ht hl ha hab hg hp hi hx hlive => ?_⟩
  · have reached := judgedOutcome_reached l x locked
    refine ⟨fun h1 h2 => reached.1 h1 fun ⟨a, b, d⟩ => h2 a b d, fun h => reached.2 ?_, fun h => ?_, fun h => ?_, rfl,
      rfl⟩
    · exact h.imp_right fun ⟨a, b, d, n⟩ => ⟨⟨a, b, d⟩, n⟩
    · simp [judgedOutcome, h]
    · simp [judgedOutcome, h]
  · subst hl hd
    refine ⟨afterRetarget_done e o c, takeFailure_taken e o c .cutOff, rfl, fun r hr => ?_,
      settleStop_reached e o cls c, ?_, ?_, fun r h1 h2 => ?_, ?_, ?_, settleStop_failed e o cls c⟩
    · rcases hr with rfl | rfl <;> exact afterShedOrHold_requeued e o cls c
    · have done := afterRetarget_done e o (c.completeStop o)
      rw [live_completeStop] at done
      exact done
    · simp [Core.settleStop, Live.complete]
    · cases r with
      | retarget => exact absurd rfl h1
      | lockout => exact absurd rfl h2
      | cutoff | shed | hold => simp [Core.settleStop, Live.complete]
    · simp [Core.settleStop, Live.countFailure]
    · simp [Core.settleStop, Live.countFailure]
  · have fits (hk : t.body.kind ≠ 3) := exec_nodeReply_taken g s t r hr ht hl ha (replyFits_plain r t.body hab hk)
    have hi' : (s.core.told s.env g t r).slotOf t.opening = some i := hi
    have told : (s.core.told s.env g t r).live t.opening = l := by rw [live_told_same, hlive]; rfl
    refine ⟨fun cause hb hack hs hc => ?_, fun f hb hs hcut hobs hf => ?_⟩
    · refine ⟨_, (s.core.told s.env g t r).freeSlot s.env i, fits (by simp [hb, RequestBody.kind]), ?_,
        look_freeSlot_same _ _ _, (live_freeSlot _ _ _ _).trans told, freeSlot_walkTriggered _ _ _ x hx, by simp,
        by simp, by simp, fun q hq => (live_freeSlot _ _ _ _).trans (live_told_ne _ _ _ _ _ q hq)⟩
      rw [State.within_core, takeReply_stop _ _ _ _ _ hb hp, stopReply_ack _ _ _ _ (by rw [told, hs]) hack,
        confirmStop_eq _ _ _ _ _ i x hi' hx, told, hc]
      rfl
    · refine ⟨_, fits (by simp [hb, RequestBody.kind]), ?_⟩
      rw [State.within_core, takeReply_progressPoll _ _ _ _ _ hb hp, progressReply_driving _ _ _ _ (by rw [told, hs]),
        takeOutcome_failed _ _ _ _ _ i x f hi' hx (by rwa [told]) (by rwa [told]) hf]
      refine ⟨look_restartProgress_none _ _ _ _ (by rw [takeFailure_slots, look_freeSlot_same]), ?_, ?_, by simp⟩
      · refine failureTaken_congr _ _ _ _ _ _ (live_restartProgress _ _ _ _) (restartProgress_notices _ _ _)
          (restartProgress_resolveSet _ _ _) ?_
        have taken := takeFailure_taken s.env t.opening ((s.core.told s.env g t r).freeSlot s.env i) f
        rwa [live_freeSlot, told] at taken
      · rw [restartProgress_walkTriggered, takeFailure_walkTriggered]
        exact freeSlot_walkTriggered _ _ _ x hx

end

section
/-! SUPPORT. The operations on a drive leave the transactions in flight, the turnarounds and the timeout counts. -/

namespace Sys2Proof.Machine

/-! ### What the operations on a drive leave of a segment's line -/

/-- One core has the transactions in flight, the turnarounds and the timeout counts of another. -/
structure LineKept (c d : Core) : Prop where
  inFlight : ∀ g : Segment, (d.segments.get g).inFlight = (c.segments.get g).inFlight
  turnaround : ∀ g : Segment, (d.segments.get g).turnaround = (c.segments.get g).turnaround
  counts : ∀ g : Segment, (d.segments.get g).counts = (c.segments.get g).counts

theorem LineKept.refl (c : Core) : LineKept c c := ⟨fun _ => rfl, fun _ => rfl, fun _ => rfl⟩

theorem LineKept.trans {c d u : Core} (h : LineKept c d) (k : LineKept d u) : LineKept c u :=
  ⟨fun g => (k.inFlight g).trans (h.inFlight g), fun g => (k.turnaround g).trans (h.turnaround g),
    fun g => (k.counts g).trans (h.counts g)⟩

theorem LineKept.of_segments {c d : Core} (h : d.segments = c.segments) : LineKept c d := by
  refine ⟨fun g => ?_, fun g => ?_, fun g => ?_⟩ <;> rw [h]

/-- An operation that begins from the same Segment Controllers. -/
theorem LineKept.from_segments {c d u : Core} (h : LineKept d u) (k : d.segments = c.segments) : LineKept c u :=
  (LineKept.of_segments k).trans h

section Line

variable (e : Env) (o : OpeningId) (c : Core)

theorem line_setSegment (g : Segment) (f : SegmentCtl → SegmentCtl) (hi : ∀ s, (f s).inFlight = s.inFlight)
    (ht : ∀ s, (f s).turnaround = s.turnaround) (hn : ∀ s, (f s).counts = s.counts) :
    LineKept c (c.setSegment g f) := by
  refine ⟨fun h => ?_, fun h => ?_, fun h => ?_⟩ <;> rw [segments_get_setSegment] <;> split <;> simp_all

theorem line_ask (b : RequestBody) : LineKept c (c.ask e o b) :=
  line_setSegment c _ _ (fun _ => rfl) (fun _ => rfl) fun _ => rfl

theorem line_withdraw (which : RequestBody → Bool) : LineKept c (c.withdraw e o which) :=
  line_setSegment c _ _ (fun _ => rfl) (fun _ => rfl) fun _ => rfl

theorem line_leaveList : LineKept c (c.leaveList e o) :=
  line_setSegment c _ _ (fun _ => rfl) (fun _ => rfl) fun _ => rfl

theorem line_freeSlot (i : SlotId) : LineKept c (c.freeSlot e i) := by
  unfold Core.freeSlot
  split
  · exact .refl c
  · next x _ =>
    have emptied : LineKept c { c with slots := put c.slots i none } := .of_segments rfl
    exact (emptied.trans (line_withdraw e x.opening _ RequestBody.ofDrive)).trans (.of_segments rfl)

theorem line_enterFaulted (r : FaultReason) : LineKept c (c.enterFaulted e o r) :=
  ((line_withdraw e o c RequestBody.any).trans (line_setSegment _ (e.segment o)
    (fun g => { g with resync := dropOpening o g.resync }) (fun _ => rfl) (fun _ => rfl) fun _ => rfl)).trans
    (.of_segments rfl)

theorem line_enterResting : LineKept c (c.enterResting e o) := by
  unfold Core.enterResting; split <;> exact .of_segments rfl

theorem line_takeFailure (f : Failure) : LineKept c (c.takeFailure e o f) := by
  unfold Core.takeFailure
  dsimp only
  split
  · exact .from_segments (line_enterFaulted e o _ .failures) rfl
  · cases f with
    | obstruction => exact .of_segments rfl
    | cutOff => exact .from_segments (line_enterResting e o _) rfl
    | failedStart => exact .from_segments (line_enterResting e o _) rfl

theorem line_afterRetarget : LineKept c (c.afterRetarget e o) := by
  unfold Core.afterRetarget
  repeat' split
  all_goals exact .of_segments rfl

theorem line_afterShedOrHold (cls : JobClass) : LineKept c (c.afterShedOrHold e o cls) := by
  unfold Core.afterShedOrHold
  repeat' split
  all_goals exact .of_segments rfl

theorem line_settleStop (cause : StopCause) (cls : JobClass) (out : DriveOutcome) :
    LineKept c (c.settleStop e o cause cls out) := by
  have completed : LineKept c (c.completeStop o) := .of_segments rfl
  cases out with
  | none =>
    cases cause with
    | retarget => exact line_afterRetarget e o c
    | cutoff => exact line_takeFailure e o c .cutOff
    | lockout => exact .of_segments rfl
    | shed | hold => exact line_afterShedOrHold e o c cls
  | reached =>
    cases cause with
    | retarget => exact completed.trans (line_afterRetarget e o _)
    | cutoff | lockout | shed | hold => exact .of_segments rfl
  | stalled =>
    cases cause with
    | lockout => exact .of_segments rfl
    | retarget | cutoff | shed | hold => exact line_takeFailure e o c .cutOff
  | obstructed =>
    cases cause with
    | lockout => exact .of_segments rfl
    | retarget | cutoff | shed | hold => exact line_takeFailure e o c .obstruction

theorem line_confirmStop (locked : Option Bool) (out : DriveOutcome) :
    LineKept c (c.confirmStop e o locked out) := by
  unfold Core.confirmStop
  repeat' split
  · exact .refl c
  · exact .refl c
  · exact (line_freeSlot e c _).trans (line_settleStop e o _ _ _ _)

theorem line_requestStop (cause : StopCause) : LineKept c (c.requestStop e o cause) := by
  unfold Core.requestStop
  split
  · split
    · exact .refl c
    · dsimp only
      split
      · exact .from_segments (line_confirmStop e o _ none .none) rfl
      · refine .trans ?_ (line_ask e o _ .stop)
        exact .from_segments (line_withdraw e o _ RequestBody.ofRunning) rfl
  · exact .of_segments rfl
  · exact .refl c

theorem line_restartProgress : LineKept c (c.restartProgress e o) := .of_segments (restartProgress_segments e o c)

theorem line_failStart : LineKept c (c.failStart e o) := by
  unfold Core.failStart
  split
  · exact .refl c
  · exact (line_freeSlot e c _).trans (line_takeFailure e o _ .failedStart)

/-- A timeout below the third leaves the line as the end of its transaction made it (R126). -/
theorem line_missedOnce (b : RequestBody) : LineKept c (c.missedOnce e o b) := by
  unfold Core.missedOnce
  split
  · exact line_failStart e o c
  · exact .refl c
  · exact (line_requestStop e o c .retarget).trans (line_restartProgress e o _)
  · exact line_ask e o c .stop
  · exact .refl c
  · exact line_restartProgress e o c
  · split
    · exact line_ask e o c _
    · exact .refl c
  · exact .refl c

end Line

/-! ### Resync lists and pending sets under the operations on a slot -/

@[simp] theorem resync_ask (e : Env) (o : OpeningId) (b : RequestBody) (c : Core) (g : Segment) :
    ((c.ask e o b).segments.get g).resync = (c.segments.get g).resync := by
  unfold Core.ask; rw [segments_get_setSegment]; split <;> simp_all

@[simp] theorem resync_ended (e : Env) (g h : Segment) (a : NodeAddress) (n : Nat) (c : Core) :
    ((c.ended e g a n).segments.get h).resync = (c.segments.get h).resync := by
  cases g <;> cases h <;> rfl

@[simp] theorem resync_freeSlot (e : Env) (i : SlotId) (c : Core) (g : Segment) :
    ((c.freeSlot e i).segments.get g).resync = (c.segments.get g).resync := by
  unfold Core.freeSlot
  split
  · rfl
  · simp only [Core.trigger_segments, Core.withdraw, segments_get_setSegment]
    split <;> simp_all

/-- A withdrawal leaves no request that was not pending before, and of its opening none that it names. -/
theorem mem_requests_withdraw (e : Env) (o : OpeningId) (which : RequestBody → Bool) (c : Core) (g : Segment)
    (r : Request) : r ∈ ((c.withdraw e o which).segments.get g).requests ↔
      r ∈ (c.segments.get g).requests ∧ (g = e.segment o → r.opening = o → which r.body = false) := by
  simp only [Core.withdraw, segments_get_setSegment]
  split
  · next h =>
    subst h
    simp only [List.mem_filter, Bool.not_eq_true', Bool.and_eq_false_iff, decide_eq_false_iff_not, forall_const,
      Decidable.imp_iff_not_or]
  · next h => simp only [h, false_implies, and_true]

theorem mem_requests_freeSlot (e : Env) (i : SlotId) (c : Core) (g : Segment) (r : Request)
    (h : r ∈ ((c.freeSlot e i).segments.get g).requests) : r ∈ (c.segments.get g).requests := by
  unfold Core.freeSlot at h
  split at h
  · exact h
  · exact ((mem_requests_withdraw _ _ _ _ _ _).1 h).1

end Sys2Proof.Machine
end

section
/-! SUPPORT. Stop requests of sent drives, progress polls restarted, and nodes declared LOST. -/

namespace Sys2Proof.Machine

/-! ### Pending requests beside the one asked for -/

/-- A second request of a kind merged into the first is of that kind (R123). -/
@[simp] theorem kind_merge (old new : RequestBody) : (old.merge new).kind = old.kind := by
  cases old <;> cases new <;> rfl

/-- A request asked for leaves the pending requests of other kinds. -/
theorem find_addRequest_ne (r : Request) (rs : List Request) (o : OpeningId) (k : Nat) (h : r.body.kind ≠ k) :
    ((addRequest r rs).find? fun x => decide (x.opening = o) && x.body.kind == k) =
      rs.find? fun x => decide (x.opening = o) && x.body.kind == k := by
  induction rs with
  | nil => simp [addRequest, h]
  | cons x rest ih =>
    unfold addRequest
    split
    · next hx => simp [hx.2, h]
    · rw [List.find?_cons, List.find?_cons, ih]

theorem pendingOf_ask_ne (e : Env) (c : Core) (o : OpeningId) (b : RequestBody) (k : Nat) (h : b.kind ≠ k) :
    (c.ask e o b).pendingOf e o k = c.pendingOf e o k := by
  simp only [Core.pendingOf, Core.ask, Core.setSegment_segments, PerSegment.get_set_same]
  exact find_addRequest_ne { opening := o, body := b, stamp := e.now } _ o k h

/-! ### Stop requests and progress polls of a drive -/

/-- A stop request of a DRIVING opening whose DRIVE has been sent (R96). -/
theorem requestStop_asked (e : Env) (o : OpeningId) (cause : StopCause) (c : Core) (i : SlotId) (x : Slot)
    (hd : (c.live o).state = .driving) (hi : c.slotOf o = some i) (hx : look c.slots i = some x)
    (hu : c.startUnsent e o = false) : stopAsked e o i x (c.live o) cause (c.requestStop e o cause) := by
  rw [requestStop_driving e o cause c i hd hi hu]
  refine ⟨by simp, by simp [hx], pendingOf_ask e _ o .stop, ?_, ?_⟩
  all_goals
    rw [pendingOf_ask_ne e _ o .stop _ (by simp [RequestBody.kind]), pendingOf_withdraw]
    simp +contextual [RequestBody.ofRunning]

/-- A slot that does not run keeps its timer when a progress-poll timer is restarted. -/
theorem look_restartProgress_still (e : Env) (o : OpeningId) (c : Core) (i : SlotId) (x : Slot)
    (hx : look c.slots i = some x) (h : x.phase ≠ .running) : look (c.restartProgress e o).slots i = some x := by
  unfold Core.restartProgress
  split
  · exact hx
  · next j _ =>
    rw [Core.setSlot_slots, look_put]
    split
    · next hij => subst hij; simp [hx, h]
    · exact hx

/-- A RUNNING slot is polled again in 1 s (R130). -/
theorem look_restartProgress_running (e : Env) (o : OpeningId) (c : Core) (i : SlotId) (x : Slot)
    (hi : c.slotOf o = some i) (hx : look c.slots i = some x) (h : x.phase = .running) :
    look (c.restartProgress e o).slots i = some { x with progressPoll := some ⟨e.now, 1000⟩ } := by
  simp [Core.restartProgress, hi, hx, h, startTimer, progressPollMs]

theorem restartProgress_asked (e : Env) (o : OpeningId) (cause : StopCause) (c : Core) (i : SlotId) (x : Slot)
    (l : Live) (h : stopAsked e o i x l cause c) : stopAsked e o i x l cause (c.restartProgress e o) := by
  obtain ⟨hl, hx, hs, hd, hp⟩ := h
  have pending (k : Nat) : (c.restartProgress e o).pendingOf e o k = c.pendingOf e o k :=
    pendingOf_congr e c _ o k (by rw [restartProgress_segments])
  exact ⟨by rw [live_restartProgress, hl], look_restartProgress_still e o c i _ hx (by simp [Slot.stopped]),
    by rw [pending, hs], by rw [pending, hd], by rw [pending, hp]⟩

/-! ### Nodes declared LOST (R18, R116, R127, R128) -/

@[simp] theorem inFlight_setCount (c : Core) (g h : Segment) (a : NodeAddress) (n : Nat) :
    ((c.setCount g a n).segments.get h).inFlight = (c.segments.get h).inFlight := by
  cases g <;> cases h <;> rfl

@[simp] theorem turnaround_setCount (c : Core) (g h : Segment) (a : NodeAddress) (n : Nat) :
    ((c.setCount g a n).segments.get h).turnaround = (c.segments.get h).turnaround := by
  cases g <;> cases h <;> rfl

@[simp] theorem counts_setCount (c : Core) (g : Segment) (a : NodeAddress) (n : Nat) :
    ((c.setCount g a n).segments.get g).counts = put (c.segments.get g).counts a n := by
  cases g <;> rfl

@[simp] theorem resync_setCount (c : Core) (g h : Segment) (a : NodeAddress) (n : Nat) :
    ((c.setCount g a n).segments.get h).resync = (c.segments.get h).resync := by
  cases g <;> cases h <;> rfl

/-- A core whose node is declared LOST, before the slot of its opening is orphaned. -/
def Core.markLost (e : Env) (o : OpeningId) (c : Core) : Core :=
  (((((c.removeJob o).withdraw e o RequestBody.any).leaveList e o).setLive o (Live.lose e.now)).setCount (e.segment o)
    (e.com o).node 3).hand .nodeLost

theorem declareLost_unslotted (e : Env) (o : OpeningId) (c : Core) (h : c.slotOf o = none) :
    c.declareLost e o = c.markLost e o := by
  simp only [Core.declareLost, slotOf_hand, slotOf_setCount, slotOf_setLive, slotOf_leaveList, slotOf_withdraw,
    slotOf_removeJob, h]
  rfl

theorem declareLost_slotted (e : Env) (o : OpeningId) (c : Core) (i : SlotId) (h : c.slotOf o = some i) :
    c.declareLost e o = (c.markLost e o).orphanSlot e i := by
  simp only [Core.declareLost, slotOf_hand, slotOf_setCount, slotOf_setLive, slotOf_leaveList, slotOf_withdraw,
    slotOf_removeJob, h]
  rfl

section Lost

variable (e : Env) (o : OpeningId) (c : Core)

@[simp] theorem markLost_slots : (c.markLost e o).slots = c.slots := rfl

@[simp] theorem live_markLost_same : (c.markLost e o).live o = (c.live o).lostAt e.now := by
  simp [Core.markLost, Live.lose, Live.lostAt, startTimer, reProbeMs]

theorem live_markLost_ne (q : OpeningId) (h : q ≠ o) : (c.markLost e o).live q = c.live q := by
  simp [Core.markLost, live_setLive_ne _ _ _ _ h]

theorem line_markLost : LineKept (c.setCount (e.segment o) (e.com o).node 3) (c.markLost e o) := by
  have marked : LineKept c (((c.removeJob o).withdraw e o RequestBody.any).leaveList e o) := by
    refine .trans ?_ (line_leaveList e o _)
    exact .from_segments (line_withdraw e o _ RequestBody.any) rfl
  refine ⟨fun g => ?_, fun g => ?_, fun g => ?_⟩
  · simpa [Core.markLost] using marked.inFlight g
  · simpa [Core.markLost] using marked.turnaround g
  · have := marked.counts g
    simp only [Core.markLost, Core.hand_segments, Core.setCount, segments_get_setSegment, Core.setLive_segments]
    split
    · next h => rw [← h, this]
    · exact this

/-- An orphaned slot stays until its hold ends, or is freed at once where that moment has passed (R116). -/
theorem orphanSlot_eq (i : SlotId) (x : Slot) (hx : look c.slots i = some x)
    (hh : (c.live x.opening).reProbeHeld = false) :
    c.orphanSlot e i = if x.runDeadline + 5000 ≤ e.now then (c.setSlot i Slot.orphan).freeSlot e i
      else c.setSlot i Slot.orphan := by
  have orphan : look (c.setSlot i Slot.orphan).slots i = some x.orphan := look_setSlot_same c i _ x hx
  have freed : (c.setSlot i Slot.orphan).endOrphan e i = (c.setSlot i Slot.orphan).freeSlot e i :=
    endOrphan_unheld e i _ x.orphan orphan hh
  simp only [Core.orphanSlot, orphan, freed]
  rfl

/-- The orphan of a slot just left by a LOST opening (R116). -/
theorem orphanSlot_orphaned (i : SlotId) (x : Slot) (hx : look c.slots i = some x)
    (hh : (c.live x.opening).reProbeHeld = false) : slotOrphaned i x e.now (c.orphanSlot e i) := by
  have orphan : look (c.setSlot i Slot.orphan).slots i = some x.orphan := look_setSlot_same c i _ x hx
  rw [orphanSlot_eq e c i x hx hh]
  refine ⟨fun h => ?_, fun h => ?_⟩
  · rw [if_neg (Nat.not_le.2 h), orphan]; rfl
  · rw [if_pos h]
    exact ⟨look_freeSlot_same _ _ _, freeSlot_walkTriggered _ _ _ _ orphan⟩

theorem line_orphanSlot (i : SlotId) (x : Slot) (hx : look c.slots i = some x)
    (hh : (c.live x.opening).reProbeHeld = false) : LineKept c (c.orphanSlot e i) := by
  rw [orphanSlot_eq e c i x hx hh]
  split
  · exact .from_segments (line_freeSlot e _ i) rfl
  · exact .of_segments rfl

end Lost

/-- What makes a node LOST is read off the records, the segment's controller, the queue and the notices. -/
theorem nodeLost_freeSlot (s : State) (g : Segment) (o : OpeningId) (l : Live) (now : Nat) (e : Env) (i : SlotId)
    (c : Core) (h : nodeLost s g o l now c) : nodeLost s g o l now (c.freeSlot e i) := by
  obtain ⟨hl, hn, hq, hr, hs, hk, ho⟩ := h
  exact ⟨by rwa [live_freeSlot], by rwa [(line_freeSlot e c i).counts], by rwa [freeSlot_queue],
    fun r m => hr r (mem_requests_freeSlot e i c g r m), by rwa [resync_freeSlot], by rwa [freeSlot_notices],
    fun q hq => (live_freeSlot e c i q).trans (ho q hq)⟩

theorem nodeLost_orphanSlot (s : State) (g : Segment) (o : OpeningId) (l : Live) (e : Env) (i : SlotId) (x : Slot)
    (c : Core) (hx : look c.slots i = some x) (hh : (c.live x.opening).reProbeHeld = false)
    (h : nodeLost s g o l e.now c) : nodeLost s g o l e.now (c.orphanSlot e i) := by
  rw [orphanSlot_eq e c i x hx hh]
  split
  · exact nodeLost_freeSlot s g o l e.now e i _ h
  · exact h

@[simp] theorem mem_dropOpening (o q : OpeningId) (l : List OpeningId) : q ∈ dropOpening o l ↔ q ∈ l ∧ q ≠ o := by
  simp [dropOpening]

@[simp] theorem mem_dropJob (o : OpeningId) (q : List Job) (j : Job) : j ∈ dropJob o q ↔ j ∈ q ∧ j.opening ≠ o := by
  simp [dropJob]

/-- The record, the count, the queue, the pending set, the resync list and the notices of a node declared LOST. -/
theorem markLost_nodeLost (s : State) (g : Segment) (o : OpeningId) (e : Env) (c : Core) (hg : e.segment o = g)
    (hw : s.env.com o = e.com o) (hc : ∀ q : OpeningId, q ≠ o → c.live q = s.core.live q) :
    nodeLost s g o (c.live o) e.now (c.markLost e o) := by
  subst hg
  refine ⟨live_markLost_same e o c, ?_, fun j hj => ?_, fun r hr => ?_, ?_, fun p => hand_latches _ .nodeLost p rfl,
    fun q hq => (live_markLost_ne e o c q hq).trans (hc q hq)⟩
  · rw [(line_markLost e o c).counts, hw]
    simp
  · exact ((mem_dropJob o c.queue j).1 hj).2
  · have hr' : r ∈ (((c.removeJob o).withdraw e o RequestBody.any).segments.get (e.segment o)).requests := by
      simpa [Core.markLost, Core.leaveList] using hr
    intro ho
    simpa [RequestBody.any] using ((mem_requests_withdraw e o _ _ _ r).1 hr').2 rfl ho
  · simp [Core.markLost, Core.leaveList]

/-- A node declared LOST: what is written, and the slot of its opening (R18, R116, R127, R128). -/
theorem declareLost_lost (s : State) (g : Segment) (o : OpeningId) (e : Env) (c : Core) (hg : e.segment o = g)
    (hw : s.env.com o = e.com o) (hc : ∀ q : OpeningId, q ≠ o → c.live q = s.core.live q) :
    nodeLost s g o (c.live o) e.now (c.declareLost e o) ∧
      (c.slotOf o = none → (c.declareLost e o).slots = c.slots) ∧
      ∀ (i : SlotId) (x : Slot), c.slotOf o = some i → look c.slots i = some x →
        slotOrphaned i x e.now (c.declareLost e o) := by
  have lost := markLost_nodeLost s g o e c hg hw hc
  have unheld (i : SlotId) (x : Slot) (hi : c.slotOf o = some i) (hx : look c.slots i = some x) :
      ((c.markLost e o).live x.opening).reProbeHeld = false := by
    obtain ⟨y, hy, ho⟩ := slotOf_occupied c o i hi
    rw [hx] at hy
    cases hy
    rw [ho, live_markLost_same]
    rfl
  cases hi : c.slotOf o with
  | none =>
    rw [declareLost_unslotted e o c hi]
    exact ⟨lost, fun _ => rfl, fun i x h => by cases h⟩
  | some i =>
    obtain ⟨x, hx, _⟩ := slotOf_occupied c o i hi
    rw [declareLost_slotted e o c i hi]
    refine ⟨nodeLost_orphanSlot s g o _ e i x _ hx (unheld i x hi hx) lost, fun h => (by cases h), fun j y hj hy => ?_⟩
    cases hj
    exact orphanSlot_orphaned e _ i y hy (unheld i y hi hy)

theorem line_declareLost (e : Env) (o : OpeningId) (c : Core) :
    LineKept (c.setCount (e.segment o) (e.com o).node 3) (c.declareLost e o) := by
  cases hi : c.slotOf o with
  | none => rw [declareLost_unslotted e o c hi]; exact line_markLost e o c
  | some i =>
    obtain ⟨x, hx, ho⟩ := slotOf_occupied c o i hi
    rw [declareLost_slotted e o c i hi]
    refine (line_markLost e o c).trans (line_orphanSlot e _ i x hx ?_)
    rw [ho, live_markLost_same]
    rfl

end Sys2Proof.Machine
end

section
/-! SUPPORT. Timeouts by the opening's state, the count and the transaction's kind; the statement on silence. -/

namespace Sys2Proof.Machine

/-! ### Timeouts (R126, R127, R129) -/

section Timeouts

variable (e : Env) (g : Segment) (t : Transaction) (c : Core)

/-- A timeout to a LOST opening begins its re-probe timer again (R129). -/
theorem takeTimeout_lost (hl : t.leftover = false) (hs : (c.live t.opening).state = .lost) :
    c.takeTimeout e g t =
      (if t.body.isPass then (c.endTransaction e g).leaveList e t.opening else c.endTransaction e g).startReProbe e
        t.opening := by
  simp [Core.takeTimeout, hl, hs]

/-- The third timeout in a row declares the node LOST (R127). -/
theorem takeTimeout_third (hl : t.leftover = false) (hs : (c.live t.opening).state ≠ .lost)
    (hn : 3 ≤ look (c.segments.get g).counts t.address + 1) :
    c.takeTimeout e g t = (c.endTransaction e g).declareLost e t.opening := by
  have count : ((c.endTransaction e g).segments.get g).counts = (c.segments.get g).counts := by cases g <;> rfl
  simp only [Core.takeTimeout, hl, Bool.false_eq_true, if_false, live_endTransaction, hs, count, hn, if_true]

/-- A timeout below the third counts one more and is taken by its kind (R126, R127). -/
theorem takeTimeout_below (hl : t.leftover = false) (hs : (c.live t.opening).state ≠ .lost)
    (hn : look (c.segments.get g).counts t.address + 1 < 3) :
    c.takeTimeout e g t =
      (c.ended e g t.address (look (c.segments.get g).counts t.address + 1)).missedOnce e t.opening t.body := by
  have count : ((c.endTransaction e g).segments.get g).counts = (c.segments.get g).counts := by cases g <;> rfl
  simp only [Core.takeTimeout, hl, Bool.false_eq_true, if_false, live_endTransaction, hs, count, Nat.not_le.2 hn]
  rfl

theorem endTransaction_segment : (c.endTransaction e g).segments.get g =
    { c.segments.get g with inFlight := none, turnaround := some ⟨e.now, 2⟩ } := by
  simp [Core.endTransaction, startTimer, turnaroundMs]

/-- A timeout to a LOST opening counts nothing, and the end of a pass ENROLL takes the opening off the resync list. -/
theorem takeTimeout_lost_leaves (hl : t.leftover = false) (hs : (c.live t.opening).state = .lost)
    (hg : e.segment t.opening = g) :
    (c.takeTimeout e g t).live t.opening = { c.live t.opening with reProbe := some ⟨e.now, 10000⟩ } ∧
      ((c.takeTimeout e g t).segments.get g).counts = (c.segments.get g).counts ∧
      (c.takeTimeout e g t).slots = c.slots ∧ (c.takeTimeout e g t).notices = c.notices ∧
      (t.body.isPass = true → t.opening ∉ ((c.takeTimeout e g t).segments.get g).resync) := by
  subst hg
  have ended := endTransaction_segment e (e.segment t.opening) c
  rw [takeTimeout_lost _ _ _ _ hl hs]
  cases hp : t.body.isPass with
  | false => simp [Core.startReProbe, startTimer, reProbeMs, ended]
  | true => simp [Core.startReProbe, startTimer, reProbeMs, ended, Core.leaveList]

/-- Every timeout frees the line for a turnaround of 2 ms (R125). -/
theorem takeTimeout_line : ((c.takeTimeout e g t).segments.get g).inFlight = none ∧
    ((c.takeTimeout e g t).segments.get g).turnaround = some ⟨e.now, 2⟩ := by
  have freed := endTransaction_segment e g c
  unfold Core.takeTimeout
  dsimp only
  repeat' split
  · simp [freed]
  · have kept := line_leaveList e t.opening (c.endTransaction e g)
    exact ⟨(kept.inFlight g).trans (by simp [freed]), (kept.turnaround g).trans (by simp [freed])⟩
  · exact ⟨by simp [Core.startReProbe, freed], by simp [Core.startReProbe, freed]⟩
  · have kept := line_declareLost e t.opening (c.endTransaction e g)
    exact ⟨(kept.inFlight g).trans (by simp [freed]), (kept.turnaround g).trans (by simp [freed])⟩
  · have kept := line_missedOnce e t.opening ((c.endTransaction e g).setCount g t.address
      (look ((c.endTransaction e g).segments.get g).counts t.address + 1)) t.body
    exact ⟨(kept.inFlight g).trans (by simp [freed]), (kept.turnaround g).trans (by simp [freed])⟩

end Timeouts

/-- REPLY_WINDOW_EXPIRY of a window that runs, at its end (R126). -/
theorem exec_replyWindowExpiry_running (g : Segment) (s : State) (t : Transaction) (f : Timer) (hr : s.inReset = false)
    (ht : (s.core.segments.get g).inFlight = some t) (hf : t.window = some f) :
    exec (.replyWindowExpiry g) s =
      .next ((s.atMoment (f.start + f.length)).within fun e c => c.takeTimeout e g t).settled := by
  have window : (s.core.segments.get g).window = some f := by simp [SegmentCtl.window, ht, hf]
  rw [exec_replyWindowExpiry, window, coreExpiry_running _ _ _ hr]
  simp only [State.within, State.atMoment_core, Core.windowEnds, ht]

/-- A third timeout taken at a moment: the node LOST, its slot orphaned (R18, R116, R127). -/
theorem timeout_declaresLost (g : Segment) (s : State) (t : Transaction) (m : Nat) (hl : t.leftover = false)
    (hg : s.env.segment t.opening = g) (hs : (s.core.live t.opening).state ≠ .lost)
    (hn : 3 ≤ look (s.core.segments.get g).counts t.address + 1) :
    nodeLost s g t.opening (s.core.live t.opening) (max s.clock m) (s.core.takeTimeout (s.atMoment m).env g t) ∧
      (s.core.slotOf t.opening = none → (s.core.takeTimeout (s.atMoment m).env g t).slots = s.core.slots) ∧
      ∀ (i : SlotId) (x : Slot), s.core.slotOf t.opening = some i → look s.core.slots i = some x →
        slotOrphaned i x (max s.clock m) (s.core.takeTimeout (s.atMoment m).env g t) := by
  rw [takeTimeout_third _ _ _ _ hl hs hn]
  exact declareLost_lost s g t.opening (s.atMoment m).env (s.core.endTransaction (s.atMoment m).env g) hg rfl
    fun _ _ => rfl

/-! ### Timeouts below the third, by kind (R89, R94, R97, R126, R130) -/

theorem startUnsent_ended (e : Env) (g : Segment) (a : NodeAddress) (n : Nat) (c : Core) (o : OpeningId) :
    (c.ended e g a n).startUnsent e o = c.startUnsent e o := by
  unfold Core.startUnsent; rw [pendingOf_ended]

section Missed

variable (e : Env) (o : OpeningId) (c : Core)

theorem missedOnce_idlePoll : c.missedOnce e o .idlePoll = c := by
  unfold Core.missedOnce; rfl

theorem missedOnce_start_driving (a : Nat) (v : Speed) (i : SlotId) (h : (c.live o).state = .driving)
    (hi : c.slotOf o = some i) :
    c.missedOnce e o (.drive a v true) = (c.freeSlot e i).takeFailure e o .failedStart := by
  simp [Core.missedOnce, h, Core.failStart, hi]

theorem missedOnce_start_stopping (a : Nat) (v : Speed) (h : (c.live o).state = .stopping) :
    c.missedOnce e o (.drive a v true) = c := by
  simp [Core.missedOnce, h]

theorem missedOnce_reDrive (a : Nat) (v : Speed) :
    c.missedOnce e o (.drive a v false) = (c.requestStop e o .retarget).restartProgress e o := by
  unfold Core.missedOnce; rfl

theorem missedOnce_progressPoll : c.missedOnce e o .progressPoll = c.restartProgress e o := by
  unfold Core.missedOnce; rfl

theorem missedOnce_stop (h : (c.live o).state = .stopping) : c.missedOnce e o .stop = c.ask e o .stop := by
  simp [Core.missedOnce, h]

/-- An ENROLL is asked again for the purposes it serves, and not at all where it serves none (R126, log entry 46). -/
theorem missedOnce_enroll (pass single probe : Bool) : c.missedOnce e o (.enroll pass single probe) =
    if pass || single then c.ask e o (.enroll pass single false) else c := by
  unfold Core.missedOnce; rfl

theorem missedOnce_enroll_asks (pass single probe : Bool) (h : pass = true ∨ single = true) :
    c.missedOnce e o (.enroll pass single probe) = c.ask e o (.enroll pass single false) := by
  rw [missedOnce_enroll, if_pos (by simpa using h)]

theorem missedOnce_enroll_dropped (probe : Bool) : c.missedOnce e o (.enroll false false probe) = c :=
  missedOnce_enroll e o c false false probe

@[simp] theorem restartProgress_openings : (c.restartProgress e o).openings = c.openings := by
  unfold Core.restartProgress; split <;> rfl

/-- A failed start frees the slot and is a failure (R89, R107). -/
theorem missedOnce_failedStart (a : Nat) (v : Speed) (i : SlotId) (x : Slot) (h : (c.live o).state = .driving)
    (hi : c.slotOf o = some i) (hx : look c.slots i = some x) :
    look (c.missedOnce e o (.drive a v true)).slots i = none ∧
      (c.missedOnce e o (.drive a v true)).walkTriggered = true ∧
      failureTaken e o .failedStart (c.live o) (c.missedOnce e o (.drive a v true)) := by
  rw [missedOnce_start_driving e o c a v i h hi, takeFailure_slots, takeFailure_walkTriggered]
  have taken := takeFailure_taken e o (c.freeSlot e i) .failedStart
  rw [live_freeSlot] at taken
  exact ⟨look_freeSlot_same _ _ _, freeSlot_walkTriggered _ _ _ x hx, taken⟩

end Missed

/-! ### NAKs to a STOP (R97) -/

/-- A NAK to a STOP that reports no outcome is counted in the slot (R97). -/
theorem stopReply_nak (e : Env) (o : OpeningId) (r : NodeReply) (c : Core) (i : SlotId) (x : Slot)
    (hs : (c.live o).state = .stopping) (ha : r.answer = .nak) (hi : c.slotOf o = some i)
    (hx : look c.slots i = some x) (hj : judgedOutcome (c.live o) x r.locked r.outcome = .none) :
    c.stopReply e o r = c.stopRefused e o := by
  simp [Core.stopReply, hs, ha, Core.confirmIfOutcome, hi, hx, hj]

/-- A slot with one more NAK to its STOP. -/
def Slot.refused (x : Slot) : Slot := { x with stopNaks := x.stopNaks + 1 }

theorem stopRefused_eq (e : Env) (o : OpeningId) (c : Core) (i : SlotId) (x : Slot) (hi : c.slotOf o = some i)
    (hx : look c.slots i = some x) : c.stopRefused e o =
      if 3 ≤ x.stopNaks + 1 then (c.setSlot i Slot.refused).declareLost e o
      else (c.setSlot i Slot.refused).ask e o .stop := by
  have test : ((look (c.setSlot i Slot.refused).slots i).any fun s => decide (3 ≤ s.stopNaks)) =
      decide (3 ≤ x.stopNaks + 1) := by
    rw [look_setSlot_same c i Slot.refused x hx]; rfl
  unfold Core.stopRefused
  rw [hi]
  show (if ((look (c.setSlot i Slot.refused).slots i).any fun s => decide (3 ≤ s.stopNaks)) = true
    then (c.setSlot i Slot.refused).declareLost e o else (c.setSlot i Slot.refused).ask e o .stop) = _
  simp only [test, decide_eq_true_eq]

end Sys2Proof.Machine

open Sys2Proof Sys2Proof.Machine

/-- Settles O43: an idle POLL's silence; a silence by the opening's state, the count and the transaction's kind; and the
NAKs to a STOP. -/
theorem silenceIsCounted : Obligations.SilenceIsCounted := by
  refine ⟨fun g s t f hr ht hf hb hl hg ha hs _ => ?_, fun g s t f o l n hr ht hf hl ho hg ha hlive hn => ?_,
    fun g s t r o i x l hr ht hb hl ha hw hab ho hg hp hi hx hlive hs hnak hj => ?_⟩
  · have notLost : (s.core.live t.opening).state ≠ .lost := by simp [hs]
    refine ⟨_, exec_replyWindowExpiry_running g s t f hr ht hf, (takeTimeout_line _ g t s.core).1, rfl, fun hn => ?_,
      fun hn => ?_⟩
    · rw [State.within_core, State.atMoment_core, takeTimeout_below _ _ _ _ hl notLost hn, hb, missedOnce_idlePoll]
      exact ⟨by simp [ended_segment], rfl, rfl⟩
    · obtain ⟨⟨live, count, _, _, _, latched, others⟩, _⟩ :=
        timeout_declaresLost g s t (f.start + f.length) hl hg notLost hn
      rw [State.within_core, State.atMoment_core]
      exact ⟨ha ▸ count, by rw [live]; rfl, by rw [live]; rfl, by rw [live]; rfl, by rw [live]; rfl, latched, others⟩
  · subst ho hlive hn
    have line := takeTimeout_line (s.atMoment (f.start + f.length)).env g t s.core
    refine ⟨_, exec_replyWindowExpiry_running g s t f hr ht hf, line.1, rfl, line.2, fun hs => ?_, fun hs hn => ?_,
      fun hs hn => timeout_declaresLost g s t (f.start + f.length) hl hg hs hn⟩
    · obtain ⟨live, counts, slots, notices, off⟩ :=
        takeTimeout_lost_leaves (s.atMoment (f.start + f.length)).env g t s.core hl hs hg
      exact ⟨live, counts, slots, notices, fun _ _ hb => off (by rw [hb]; rfl)⟩
    · rw [State.within_core, State.atMoment_core, takeTimeout_below _ _ _ _ hl hs hn]
      refine ⟨?_, fun a v i x hi hx => ⟨fun hb => ⟨fun hd => ?_, fun hd => ?_⟩,
        fun hb => ⟨fun hd hu => ?_, fun cause hd hc => ?_⟩, fun hb => ⟨?_, fun hrun => ?_⟩⟩, fun hb hd => ?_,
        fun pass single probe hb => ?_⟩
      · rw [(line_missedOnce _ _ _ _).counts]
        simp [ended_segment]
      -- a start DRIVE of a DRIVING and of a STOPPING opening
      · rw [hb]
        exact missedOnce_failedStart _ _ _ a v i x hd hi hx
      · rw [hb, missedOnce_start_stopping _ _ _ _ _ (by exact hd)]
        exact ⟨rfl, hx, pendingOf_ended _ _ _ _ _ _ _⟩
      -- a re-drive of a DRIVING and of a STOPPING opening (log entry 17)
      · rw [hb, missedOnce_reDrive]
        refine restartProgress_asked _ _ _ _ _ _ _ (requestStop_asked _ _ _ _ _ _ hd hi hx ?_)
        rw [startUnsent_ended]
        exact hu
      · rw [hb, missedOnce_reDrive, live_restartProgress, requestStop_stopping _ _ _ _ (by exact hd)]
        simp [hc]
      -- a progress POLL, a STOP and an ENROLL
      · rw [hb, missedOnce_progressPoll, restartProgress_openings, ended_openings]
      · rw [hb, missedOnce_progressPoll]
        exact look_restartProgress_running _ _ _ _ _ hi hx hrun
      · rw [hb, missedOnce_stop _ _ _ (by exact hd)]
        exact ⟨pendingOf_ask _ _ _ .stop, rfl, rfl⟩
      · rw [hb]
        by_cases hps : pass = true ∨ single = true
        · rw [missedOnce_enroll_asks _ _ _ _ _ _ hps]
          refine ⟨rfl, rfl, by rw [resync_ask, resync_ended], fun _ => pendingOf_ask _ _ _ (.enroll pass single false),
            fun hp hs => by simp [hp, hs] at hps⟩
        · obtain ⟨rfl, rfl⟩ : pass = false ∧ single = false := by simpa using hps
          rw [missedOnce_enroll_dropped]
          exact ⟨rfl, rfl, resync_ended _ _ _ _ _ _, fun h => absurd h hps, fun _ _ => pendingOf_ended _ _ _ _ _ _ _⟩
  · subst ho
    have hi' : (s.core.told s.env g t r).slotOf t.opening = some i := hi
    have told : (s.core.told s.env g t r).live t.opening = l := by rw [live_told_same, hlive]; rfl
    have fits := replyFits_plain r t.body hab (by simp [hb, RequestBody.kind])
    refine ⟨_, exec_nodeReply_taken g s t r hr ht hl ha fits, ?_⟩
    rw [State.within_core, takeReply_stop _ _ _ _ _ hb hp, stopReply_nak _ _ _ _ i x (by rw [told, hs]) hnak hi' hx
      (by rw [told, hj]), stopRefused_eq _ _ _ i x hi' hx]
    refine ⟨fun hn => ?_, fun hn => ?_⟩
    · rw [if_neg (Nat.not_le.2 hn)]
      exact ⟨told, look_setSlot_same _ _ _ _ hx, pendingOf_ask _ _ _ .stop⟩
    · rw [if_pos hn]
      obtain ⟨lost, _, orphaned⟩ := declareLost_lost s g t.opening s.env
        ((s.core.told s.env g t r).setSlot i Slot.refused) hg rfl fun q hq => live_told_ne _ _ _ _ _ q hq
      rw [live_setSlot, told] at lost
      rw [slotOf_setSlot _ _ _ _ (by intro _; rfl)] at orphaned
      exact ⟨lost, orphaned i x.refused hi (look_setSlot_same _ _ _ _ hx)⟩

end

section
/-! SUPPORT. An accepted OPENING_WRITE, step by step (R3, R4, R36, R117, R123, R133); the statement on it. -/

namespace Sys2Proof.Machine

/-! ### Removed claims (R36) -/

/-- What each operation of a fold leaves, the fold leaves. -/
theorem foldl_leaves {α β : Type} (part : Core → β) (f : Core → α → Core) (hf : ∀ c x, part (f c x) = part c)
    (l : List α) (c : Core) : part (l.foldl f c) = part c := by
  induction l generalizing c with
  | nil => rfl
  | cons x rest ih => rw [List.foldl_cons, ih, hf]

section Removed

variable (s : State) (reason : ExpiryReason) (which : Claim → Bool)

/-- Removed claims hand on notices and openings to resolve: records, slots and Segment Controllers stay (R36). -/
@[simp] theorem removeClaims_openings : (s.removeClaims reason which).core.openings = s.core.openings :=
  foldl_leaves Core.openings _ (fun c x => by unfold Core.claimRemoved; rw [joinAll_eq]; rfl) _ _
@[simp] theorem removeClaims_slots : (s.removeClaims reason which).core.slots = s.core.slots :=
  foldl_leaves Core.slots _ (fun c x => by unfold Core.claimRemoved; rw [joinAll_eq]; rfl) _ _
@[simp] theorem removeClaims_segments : (s.removeClaims reason which).core.segments = s.core.segments :=
  foldl_leaves Core.segments _ (fun c x => by unfold Core.claimRemoved; rw [joinAll_eq]; rfl) _ _

/-- The claims that a test does not name are kept in their slots, the others are gone. -/
theorem look_removeClaims (j : Fin 192) (x : Claim) :
    look (s.removeClaims reason which).claims.slots j = some x ↔
      look s.claims.slots j = some x ∧ which x = false := by
  simp [State.removeClaims, Option.filter_eq_some_iff]

end Removed

/-! ### The withdrawal test of R90 without a drive -/

/-- An opening with no slot that is neither DRIVING nor STOPPING has no drive that gives way (R90). -/
theorem recheckDrive_unslotted (e : Env) (o : OpeningId) (c : Core) (hi : c.slotOf o = none)
    (hd : (c.live o).state ≠ .driving) (hs : (c.live o).state ≠ .stopping) : c.recheckDrive e o = c := by
  apply recheckDrive_cases e o c (· = c) rfl
  · intro i x h
    rw [hi] at h; cases h
  · intro i cause h
    exact absurd h hd
  · intro cause h
    exact absurd h hs

/-! ### OPENING_WRITE (R3, R4) -/

/-- A slot of its opening's own freed leaves the opening without a slot. -/
theorem slotOf_freeSlot (e : Env) (c : Core) (o : OpeningId) (i : SlotId)
    (h : ∀ (j : SlotId) (x : Slot), look c.slots j = some x → x.opening = o → j = i) :
    (c.freeSlot e i).slotOf o = none := by
  refine (lowest_eq_none _ _).2 fun j => ?_
  by_cases hj : j = i
  · rw [hj, look_freeSlot_same]; rfl
  · rw [look_freeSlot_ne _ _ _ _ hj]
    cases hx : look c.slots j with
    | none => rfl
    | some x => simpa using fun ho => hj (h j x hx ho)

section Forgotten

variable (e : Env) (o : OpeningId) (c : Core)

@[simp] theorem live_forgetOpening (q : OpeningId) : (c.forgetOpening e o).live q = c.live q := by
  unfold Core.forgetOpening
  dsimp only
  split <;> simp

/-- Where each opening occupies one slot at most, a forgotten opening occupies none (R117). -/
theorem slotOf_forgetOpening (h : ∀ (i j : SlotId) (x y : Slot), look c.slots i = some x → look c.slots j = some y →
    x.opening = y.opening → i = j) : (c.forgetOpening e o).slotOf o = none := by
  unfold Core.forgetOpening
  dsimp only
  split
  · next i hi =>
    obtain ⟨x, hx, ho⟩ := slotOf_occupied c o i hi
    exact slotOf_freeSlot e c o i fun j y hy hyo => h j i y x hy hx (hyo.trans ho.symm)
  · next hi => exact hi

/-- No request of a forgotten opening stays pending (R123). -/
theorem requests_forgetOpening (r : Request) (h : r ∈ ((c.forgetOpening e o).segments.get (e.segment o)).requests) :
    r.opening ≠ o := by
  intro ho
  simp only [Core.forgetOpening, requests_setCount, Core.setSegment_segments, PerSegment.get_set_same,
    SegmentCtl.leaveOver] at h
  simpa [RequestBody.any] using ((mem_requests_withdraw e o _ _ _ r).1 h).2 rfl ho

@[simp] theorem live_keepInList (m : Commissioned) (q : OpeningId) : (c.keepInList e o m).live q = c.live q := by
  unfold Core.keepInList; split <;> rfl

@[simp] theorem slotOf_keepInList (m : Commissioned) (q : OpeningId) : (c.keepInList e o m).slotOf q = c.slotOf q := by
  unfold Core.keepInList; split <;> rfl

@[simp] theorem requests_leaveList (q : OpeningId) (g : Segment) :
    ((c.leaveList e q).segments.get g).requests = (c.segments.get g).requests := by
  unfold Core.leaveList; rw [segments_get_setSegment]; split <;> simp_all

@[simp] theorem requests_keepInList (m : Commissioned) (g : Segment) :
    ((c.keepInList e o m).segments.get g).requests = (c.segments.get g).requests := by
  unfold Core.keepInList; split <;> simp

end Forgotten

/-- The drive core of an accepted OPENING_WRITE before its claims and latch are judged. -/
def Core.rewritten (e : Env) (o : OpeningId) (m : Commissioned) (c : Core) : Core :=
  (((c.forgetOpening e o).keepInList e o m).setLive o (Live.restart m.present)).setCount m.segment m.node 0

section Rewritten

variable (e : Env) (o : OpeningId) (m : Commissioned) (c : Core)

theorem live_rewritten_same : (c.rewritten e o m).live o = Live.begun m.present (c.live o) := by
  simp only [Core.rewritten, live_setCount, live_setLive_same, live_keepInList, live_forgetOpening]
  rfl

theorem live_rewritten_ne (q : OpeningId) (h : q ≠ o) : (c.rewritten e o m).live q = c.live q := by
  simp [Core.rewritten, live_setLive_ne _ _ _ _ h]

theorem counts_rewritten : look ((c.rewritten e o m).segments.get m.segment).counts m.node = 0 := by
  simp [Core.rewritten]

theorem slotOf_rewritten (h : ∀ (i j : SlotId) (x y : Slot), look c.slots i = some x → look c.slots j = some y →
    x.opening = y.opening → i = j) : (c.rewritten e o m).slotOf o = none := by
  simp [Core.rewritten, slotOf_forgetOpening e o c h]

theorem requests_rewritten (r : Request) (h : r ∈ ((c.rewritten e o m).segments.get (e.segment o)).requests) :
    r.opening ≠ o := by
  refine requests_forgetOpening e o c r ?_
  simpa [Core.rewritten] using h

end Rewritten

section Latch

variable (e : Env) (o : OpeningId) (k : Sky)

/-- The latch of a written opening: the core keeps its parts, has the opening join, and the test of R90 may follow. -/
theorem writeLatch_core (present : Bool) (P : Core → Prop) (stays : P k.core) (joins : P (k.core.join o))
    (tests : ∀ d : Env, present = true → P ((k.core.join o).recheckDrive d o)) :
    P (k.writeLatch e o present).core := by
  unfold Sky.writeLatch
  split
  · next hp =>
    split
    · unfold Sky.setLatch
      split
      · exact stays
      · exact tests _ hp
    · exact stays
  · unfold Sky.clearLatch
    dsimp only
    split
    · exact joins
    · exact stays

@[simp] theorem writeLatch_level (present : Bool) : (k.writeLatch e o present).weather.level = k.weather.level := by
  unfold Sky.writeLatch Sky.setLatch Sky.clearLatch
  repeat' split
  all_goals rfl

theorem writeLatch_latches_ne (present : Bool) (q : OpeningId) (h : q ≠ o) :
    look (k.writeLatch e o present).weather.latches q = look k.weather.latches q := by
  unfold Sky.writeLatch Sky.setLatch Sky.clearLatch
  repeat' split
  all_goals simp [look_put_ne _ _ _ _ h]

theorem writeLatch_absent : look (k.writeLatch e o false).weather.latches o = false := by
  simp [Sky.writeLatch, Sky.clearLatch]

end Latch

/-- An accepted OPENING_WRITE with the record, the core and the claims as written. -/
def State.rewritten (s : State) (o : OpeningId) (m : Commissioned) : State :=
  ({ s with work := { s.work with openings := put s.work.openings o m }
            core := s.core.rewritten s.env o m } : State).removeClaims
    (if m.present then .zoneChanged else .openingRemoved) (writeRemoves o m.present (look s.work.zones m.zone))

/-- An accepted OPENING_WRITE up to the checks at its end (R4). -/
def State.written (s : State) (o : OpeningId) (m : Commissioned) : State :=
  ((s.rewritten o m).onSky fun e k => k.writeLatch e o m.present).within fun e c =>
    if m.present then c.ask e o (.enroll false true false) else c

theorem writeOpening_eq (s : State) (o : OpeningId) (m : Commissioned) :
    s.writeOpening o m = (s.written o m).settled := rfl

section Written

variable (s : State) (o : OpeningId) (m : Commissioned)

theorem written_work : (s.written o m).work = { s.work with openings := put s.work.openings o m } := rfl

theorem written_ports : (s.written o m).ports = s.ports := rfl

theorem written_level : (s.written o m).weather.level = s.weather.level := by
  simp [State.written, State.rewritten]

theorem written_latches_ne (q : OpeningId) (h : q ≠ o) :
    look (s.written o m).weather.latches q = look s.weather.latches q := by
  simp [State.written, State.rewritten, writeLatch_latches_ne _ _ _ _ _ h]

/-- An absent record's latch is clear and no OPENING claim names it (R4). -/
theorem written_absent (h : m.present = false) : look (s.written o m).weather.latches o = false ∧
    ∀ (j : Fin 192) (x : Claim), look (s.written o m).claims.slots j = some x → x.scope ≠ .opening o := by
  refine ⟨by simp [State.written, h, writeLatch_absent], fun j x hx => ?_⟩
  have kept := ((look_removeClaims _ (if m.present then .zoneChanged else .openingRemoved) _ j x).1 hx).2
  intro hs
  simp [writeRemoves, h, hs] at kept

/-- The core as written, under a property that the join, the test of R90 and the request asked for keep. -/
theorem written_core (P : Core → Prop) (base : P (s.rewritten o m).core)
    (join : ∀ c : Core, P c → P (c.join o)) (test : ∀ (d : Env) (c : Core), P c → P (c.recheckDrive d o))
    (ask : ∀ (d : Env) (c : Core), P c → P (c.ask d o (.enroll false true false))) : P (s.written o m).core := by
  have latched : P ((s.rewritten o m).onSky fun e k => k.writeLatch e o m.present).core :=
    writeLatch_core (s.rewritten o m).env o ⟨(s.rewritten o m).weather, (s.rewritten o m).core⟩ m.present P base
      (join _ base) fun d _ => test d _ (join _ base)
  unfold State.written
  rw [State.within_core]
  split
  · exact ask _ _ latched
  · exact latched

theorem written_count : look ((s.written o m).core.segments.get m.segment).counts m.node = 0 := by
  apply written_core s o m fun c => look (c.segments.get m.segment).counts m.node = 0
  · simpa [State.rewritten] using counts_rewritten s.env o m s.core
  · exact fun c h => h
  · intro d c h
    rwa [(recheckDrive_leaves d o c).counts]
  · intro d c h
    rwa [(line_ask d o c _).counts]

/-- A written opening without a slot: its record begun anew, the others as they were. -/
theorem written_live (h : (s.core.rewritten s.env o m).slotOf o = none) :
    ∀ q : OpeningId, (s.written o m).core.live q = (s.core.rewritten s.env o m).live q := by
  have begun := live_rewritten_same s.env o m s.core
  have kept := written_core s o m
    (fun c => (∀ q : OpeningId, c.live q = (s.core.rewritten s.env o m).live q) ∧ c.slotOf o = none)
  refine (kept ⟨fun q => ?_, ?_⟩ (fun c h => h) (fun d c hc => ?_) fun d c h => h).1
  · simp [State.rewritten, Core.live]
  · simpa [State.rewritten, Core.slotOf] using h
  · have idle : (c.live o).state ≠ .driving ∧ (c.live o).state ≠ .stopping := by
      rw [hc.1, begun]
      cases m.present <;> simp [Live.begun]
    rw [recheckDrive_unslotted d o c hc.2 idle.1 idle.2]
    exact hc

/-- The ENROLL of a present record is asked for (R133). -/
theorem written_enroll (h : m.present = true) :
    ((s.written o m).core.pendingOf (s.written o m).env o 3).isSome = true := by
  have asked := pendingOf_ask ((s.rewritten o m).onSky fun e k => k.writeLatch e o m.present).env
    ((s.rewritten o m).onSky fun e k => k.writeLatch e o m.present).core o (.enroll false true false)
  unfold State.written
  rw [State.within_core, if_pos h]
  exact asked

/-- An absent record has no request (R123). -/
theorem written_requests (h : m.present = false) :
    ∀ r ∈ ((s.written o m).core.segments.get (s.env.segment o)).requests, r.opening ≠ o := by
  have segments : (s.written o m).core.segments = (s.core.rewritten s.env o m).segments := by
    unfold State.written
    rw [State.within_core, h]
    refine writeLatch_core (s.rewritten o m).env o _ false
      (fun c => c.segments = (s.core.rewritten s.env o m).segments) ?_ ?_ ?_
    · simp [State.rewritten]
    · simp [State.rewritten]
    · exact fun _ hp => absurd hp (by simp)
  rw [segments]
  exact requests_rewritten s.env o m s.core

end Written

/-- An OPENING_WRITE that passes every check of R3. -/
theorem serveOpeningWrite_accepted (a b c d e f g h i : Byte) (o : OpeningId) (m : Commissioned) (s : State)
    (hm : s.store.mode = .commission) (hs : s.store.state = .idle)
    (hf : openingFields a b c d e f g h i = .ok (o, m)) (hp : m.paired = true) (hb : (s.core.live o).state.bars = false)
    (ht : m.present = true → addressTaken s.work.openings o m = false) :
    serveOpeningWrite a b c d e f g h i s = ((s.written o m).settled, .ok []) := by
  have fits : kindFitsFacade m = true := by
    unfold Commissioned.paired at hp
    exact (Bool.and_eq_true_iff.1 hp).1
  have free : (m.present && addressTaken s.work.openings o m) = false := by
    cases hpr : m.present with
    | false => rfl
    | true => simp [ht hpr]
  rw [← writeOpening_eq]
  simp [serveOpeningWrite, editBarred_open s hm hs, hf, fits, hp, hb, free]

end Sys2Proof.Machine

open Sys2Proof Sys2Proof.Machine

/-- Settles O22: the state written before the checks at the end of the event, part by part. -/
theorem openingWriteReplacesTheRecord : Obligations.OpeningWriteReplacesTheRecord := by
  intro a b c d e f g h i o m s ht hm hs hf hp hb hfree
  refine ⟨s.written o m, exec_served (.openingWrite a b c d e f g h i) .service s _ (.ok []) ht rfl
      (serveOpeningWrite_accepted a b c d e f g h i o m s hm hs hf hp hb hfree), written_work s o m,
    written_absent s o m, written_latches_ne s o m, written_level s o m, written_ports s o m, written_count s o m,
    fun wf => ?_⟩
  obtain ⟨_, _, _, oneSlot, _, _⟩ := wf
  have live := written_live s o m (slotOf_rewritten s.env o m s.core oneSlot)
  exact ⟨(live o).trans (live_rewritten_same s.env o m s.core),
    fun q hq => (live q).trans (live_rewritten_ne s.env o m s.core q hq), written_enroll s o m, written_requests s o m⟩

end

section
/-! SUPPORT. The load event: the state it clears and the passes it begins (R136, R197); the statement on start-up. -/

namespace Sys2Proof.Machine

/-! ### The building-closed status (R189) -/

theorem closed_iff_shut (l : Live) : l.closed = true ↔ l.shut := by
  unfold Live.closed Live.shut
  cases l.ability with
  | none => simp
  | some a => cases h : a.lockContact <;> simp [and_assoc, h]

/-- The status is closed exactly when every present opening that is not LOCKED_OUT is closed (R189). -/
theorem buildingClosed_iff (e : Env) (c : Core) : buildingClosed e c = true ↔
    ∀ o : OpeningId, (e.com o).present = true → (c.live o).state ≠ .lockedOut → (c.live o).shut := by
  simp only [buildingClosed, Env.present, List.all_eq_true, List.mem_filter, mem_allOpenings, true_and, Bool.or_eq_true,
    decide_eq_true_eq, closed_iff_shut]
  exact forall_congr' fun o => imp_congr_right fun _ => Decidable.or_iff_not_imp_left

/-! ### The Settings Store and the Supply Monitor at start-up (R157, R164, R192) -/

theorem passes_iff (t : Store) : t.passes = true ↔ t.crcMatches = true ∧ t.image.valid = true := by
  simp [Store.passes]

/-- With no pause begun the start pause is judged in the Supply Monitor alone (R164). -/
theorem judgePause_core (s : State) (h : s.supply.pause = .none) : s.judgePause.core = s.core := by
  unfold State.judgePause Supply.judgePause
  rw [h]
  dsimp only
  split <;> rfl

/-- A judgement of the start pause leaves the supply state, the mains state and their filters (R164). -/
theorem judgePause_supply (s : State) : s.judgePause.supply.state = s.supply.state ∧
    s.judgePause.supply.mains = s.supply.mains ∧ s.judgePause.supply.mainsFilter = s.supply.mainsFilter ∧
    s.judgePause.supply.rideThrough = s.supply.rideThrough := by
  unfold State.judgePause Supply.judgePause
  dsimp only
  repeat' split
  all_goals exact ⟨rfl, rfl, rfl, rfl⟩

/-! ### The passes of start-up (R136, R197) -/

/-- Two cores that differ in their Segment Controllers and the walk trigger alone. -/
structure SegmentsOnly (c d : Core) : Prop where
  openings : d.openings = c.openings
  resolveSet : d.resolveSet = c.resolveSet
  queue : d.queue = c.queue
  slots : d.slots = c.slots
  holds : d.holds = c.holds
  notices : d.notices = c.notices

theorem SegmentsOnly.refl (c : Core) : SegmentsOnly c c := ⟨rfl, rfl, rfl, rfl, rfl, rfl⟩

theorem SegmentsOnly.trans {c d u : Core} (h : SegmentsOnly c d) (k : SegmentsOnly d u) : SegmentsOnly c u :=
  ⟨k.openings.trans h.openings, k.resolveSet.trans h.resolveSet, k.queue.trans h.queue, k.slots.trans h.slots,
    k.holds.trans h.holds, k.notices.trans h.notices⟩

theorem SegmentsOnly.live {c d : Core} (h : SegmentsOnly c d) (o : OpeningId) : d.live o = c.live o := by
  unfold Core.live; rw [h.openings]

/-- What an operation makes of one Segment Controller, all else but the walk trigger as it was. -/
structure OnSegment (g : Segment) (c d : Core) (made : SegmentCtl → Prop) : Prop where
  rest : SegmentsOnly c d
  other : ∀ h : Segment, h ≠ g → d.segments.get h = c.segments.get h
  made : made (d.segments.get g)

/-- An operation on each Segment Controller in turn makes of both what it makes of each. -/
theorem both_segments (c₀ : Core) (f : Segment → Core → Core) (P Q : Segment → SegmentCtl → Prop)
    (step : ∀ (g : Segment) (c : Core), SegmentsOnly c₀ c → P g (c.segments.get g) → OnSegment g c (f g c) (Q g))
    (c : Core) (hc : SegmentsOnly c₀ c) (hp : ∀ g : Segment, P g (c.segments.get g)) :
    SegmentsOnly c₀ (f .seg1 (f .seg0 c)) ∧ ∀ g : Segment, Q g ((f .seg1 (f .seg0 c)).segments.get g) := by
  have first := step .seg0 c hc (hp .seg0)
  have second := step .seg1 (f .seg0 c) (hc.trans first.rest) (by rw [first.other .seg1 (by simp)]; exact hp .seg1)
  refine ⟨(hc.trans first.rest).trans second.rest, fun g => ?_⟩
  cases g with
  | seg0 => rw [second.other .seg0 (by simp)]; exact first.made
  | seg1 => exact second.made

/-- Records as start-up leaves them: positions UNKNOWN, none FAULTED, none LOST. -/
structure AllBegun (c : Core) : Prop where
  position : ∀ o : OpeningId, (c.live o).position = .unknown
  faulted : ∀ o : OpeningId, (c.live o).state ≠ .faulted
  lost : ∀ o : OpeningId, (c.live o).state ≠ .lost

theorem AllBegun.of_segmentsOnly {c d : Core} (h : AllBegun c) (k : SegmentsOnly c d) : AllBegun d :=
  ⟨fun o => by rw [k.live]; exact h.position o, fun o => by rw [k.live]; exact h.faulted o,
    fun o => by rw [k.live]; exact h.lost o⟩

/-- A Segment Controller whose pass of start-up has been triggered. -/
def SegmentCtl.triggered (e : Env) (g : Segment) : SegmentCtl :=
  { SegmentCtl.fresh e.now with pass := if e.supply = .out then .due else .running
                                resync := if e.supply = .out then [] else e.presentOn g }

/-- A Segment Controller with its pass of start-up begun, complete at once, or due (R137, R197). -/
structure SegmentCtl.Started (e : Env) (g : Segment) (x : SegmentCtl) : Prop where
  roundTimer : x.roundTimer = some ⟨e.now, 30000⟩
  counts : ∀ a : NodeAddress, look x.counts a = 0
  out : e.supply = .out → x.pass = .due ∧ x.resync = []
  members : e.supply ≠ .out → x.resync = e.presentOn g
  running : e.supply ≠ .out → x.resync ≠ [] → x.pass = .running
  complete : e.supply ≠ .out → x.resync = [] → x.pass = .none

/-- With every position UNKNOWN the start of a pass changes its Segment Controller alone. -/
theorem startPass_begun (e : Env) (g : Segment) (c : Core) (h : AllBegun c) :
    c.startPass e g = c.setSegment g fun s => { s.dropPass .running with resync := e.presentOn g } := by
  have members : (e.presentOn g).filter (fun o => decide ((c.live o).state ≠ .faulted)) = e.presentOn g :=
    List.filter_eq_self.2 fun o _ => by simp [h.faulted o]
  have sweep (os : List OpeningId) (d : Core) (hd : ∀ o : OpeningId, (d.live o).position = .unknown) :
      os.foldl (fun c o => c.storePosition e o .unknown) d = d := by
    induction os with
    | nil => rfl
    | cons o rest ih =>
      have stored : d.storePosition e o .unknown = d := by simp [Core.storePosition, hd o]
      rw [List.foldl_cons, stored, ih]
  simp only [Core.startPass, members]
  exact sweep _ _ h.position

theorem triggerPass_started (e : Env) (g : Segment) (c : Core) (h : AllBegun c) (ho : (c.holds.get g).state = .owned)
    (hx : c.segments.get g = SegmentCtl.fresh e.now) :
    OnSegment g c (c.triggerPass e g) (· = SegmentCtl.triggered e g) := by
  unfold Core.triggerPass
  split
  · next hc =>
    have powered : e.supply ≠ .out := by simpa [Core.carries, ho] using hc
    rw [startPass_begun e g c h]
    refine ⟨⟨rfl, rfl, rfl, rfl, rfl, rfl⟩, fun k hk => by rw [segments_get_setSegment, if_neg hk], ?_⟩
    simp [hx, SegmentCtl.triggered, powered, SegmentCtl.dropPass, SegmentCtl.fresh, dropPassRequests]
  · next hc =>
    have out : e.supply = .out := by simpa [Core.carries, ho] using hc
    refine ⟨⟨rfl, rfl, rfl, rfl, rfl, rfl⟩, fun k hk => by rw [Core.makeDue, segments_get_setSegment, if_neg hk], ?_⟩
    simp [Core.makeDue, hx, SegmentCtl.triggered, out, SegmentCtl.dropPass, SegmentCtl.fresh, dropPassRequests]

/-- A request asked for changes the pending set alone. -/
theorem ask_onSegment (e : Env) (o : OpeningId) (b : RequestBody) (c : Core) (made : SegmentCtl → Prop)
    (h : ∀ rs : List Request, made { c.segments.get (e.segment o) with requests := rs }) :
    OnSegment (e.segment o) c (c.ask e o b) made := by
  refine ⟨⟨rfl, rfl, rfl, rfl, rfl, rfl⟩, fun k hk => by rw [Core.ask, segments_get_setSegment, if_neg hk], ?_⟩
  rw [Core.ask, segments_get_setSegment, if_pos rfl]
  exact h _

/-- The triggered Segment Controller, whatever its pending set and its line, has started unless its list is empty. -/
theorem triggered_started (e : Env) (g : Segment) (rs : List Request)
    (h : e.supply ≠ .out → e.presentOn g ≠ []) :
    SegmentCtl.Started e g { SegmentCtl.triggered e g with requests := rs } := by
  by_cases out : e.supply = .out
  · refine ⟨rfl, fun a => look_replicate 0 a, fun _ => ?_, fun n => absurd out n, fun n => absurd out n,
      fun n => absurd out n⟩
    simp [SegmentCtl.triggered, out]
  · refine ⟨rfl, fun a => look_replicate 0 a, fun n => absurd n out, fun _ => by simp [SegmentCtl.triggered, out],
      fun _ _ => by simp [SegmentCtl.triggered, out], fun _ hn => ?_⟩
    exact absurd (by simpa [SegmentCtl.triggered, out] using hn) (h out)

/-- The upkeep of a pass just triggered completes it where its list is empty (R136). -/
theorem passUpkeep_started (e : Env) (g : Segment) (c : Core) (hx : c.segments.get g = SegmentCtl.triggered e g) :
    OnSegment g c (c.passUpkeep e g) (SegmentCtl.Started e g) := by
  have stays (h : e.supply ≠ .out → e.presentOn g ≠ []) : OnSegment g c c (SegmentCtl.Started e g) :=
    ⟨.refl c, fun _ _ => rfl, by rw [hx]; exact triggered_started e g [] h⟩
  have idle : (SegmentCtl.triggered e g).passInFlight = false := rfl
  unfold Core.passUpkeep
  dsimp only
  rw [hx, idle]
  by_cases out : e.supply = .out
  · rw [if_neg (by simp [SegmentCtl.triggered, out])]
    exact stays fun n => absurd out n
  · have running : (SegmentCtl.triggered e g).pass = .running := by simp [SegmentCtl.triggered, out]
    have list : (SegmentCtl.triggered e g).resync = e.presentOn g := by simp [SegmentCtl.triggered, out]
    rw [if_pos running, list]
    simp only [Bool.false_eq_true, if_false]
    split
    · next empty =>
      refine ⟨⟨rfl, rfl, rfl, rfl, rfl, rfl⟩, fun k hk => ?_, ?_⟩
      · rw [Core.trigger_segments, segments_get_setSegment, if_neg hk]
      · rw [Core.trigger_segments, segments_get_setSegment, if_pos rfl, hx]
        exact ⟨rfl, fun a => look_replicate 0 a, fun n => absurd n out, fun _ => list,
          fun _ hn => absurd (list.trans empty) hn, fun _ _ => rfl⟩
    · next o rest some =>
      have filled : e.presentOn g ≠ [] := by rw [some]; simp
      split
      · exact stays fun _ => filled
      · split
        · next p hp =>
          have on : e.segment p = g := ((mem_presentOn e g p).1 (List.mem_of_find?_eq_some hp)).2
          subst on
          exact ask_onSegment e p _ c _ fun rs => by rw [hx]; exact triggered_started e _ rs fun _ => filled
        · exact stays fun _ => filled

/-- The choice of the arbiter, with no opening LOST, changes the pending set and the line alone (R124). -/
theorem arbitrate_started (e : Env) (g : Segment) (c : Core) (h : AllBegun c)
    (hx : SegmentCtl.Started e g (c.segments.get g)) :
    OnSegment g c (c.arbitrate e g) (SegmentCtl.Started e g) := by
  have stays : OnSegment g c c (SegmentCtl.Started e g) := ⟨.refl c, fun _ _ => rfl, hx⟩
  have sends (r : Request) : OnSegment g c (c.send e g r) (SegmentCtl.Started e g) := by
    have sent : c.send e g r = c.setSegment g fun s =>
        { s with requests := dropRequest r s.requests
                 inFlight := some { opening := r.opening, body := r.body, address := (e.com r.opening).node,
                                    busyCount := 0, window := none, leftover := false } } := by
      simp [Core.send, h.lost r.opening]
    rw [sent]
    refine ⟨⟨rfl, rfl, rfl, rfl, rfl, rfl⟩, fun k hk => by rw [segments_get_setSegment, if_neg hk], ?_⟩
    rw [segments_get_setSegment, if_pos rfl]
    exact ⟨hx.roundTimer, hx.counts, hx.out, hx.members, hx.running, hx.complete⟩
  unfold Core.arbitrate
  repeat' split
  · exact sends _
  · exact stays
  · exact sends _
  all_goals exact stays

/-- Start-up begins the pass of each segment and leaves the records, the queue, the slots, the holds and the notices
(R197, step 5). -/
theorem startPasses_started (e : Env) (c : Core) (h : AllBegun c) (ho : ∀ g : Segment, (c.holds.get g).state = .owned)
    (hx : ∀ g : Segment, c.segments.get g = SegmentCtl.fresh e.now) :
    SegmentsOnly c (c.startPasses e) ∧ ∀ g : Segment, SegmentCtl.Started e g ((c.startPasses e).segments.get g) := by
  have triggered := both_segments c (fun g d => d.triggerPass e g) (fun _ x => x = SegmentCtl.fresh e.now)
    (fun g x => x = SegmentCtl.triggered e g)
    (fun g d hd hp => triggerPass_started e g d (h.of_segmentsOnly hd) (by rw [hd.holds]; exact ho g) hp) c (.refl c) hx
  have kept := both_segments c (fun g d => d.passUpkeep e g) (fun g x => x = SegmentCtl.triggered e g)
    (SegmentCtl.Started e)
    (fun g d _ hp => passUpkeep_started e g d hp) _ triggered.1 triggered.2
  exact both_segments c (fun g d => d.arbitrate e g) (SegmentCtl.Started e) (SegmentCtl.Started e)
    (fun g d hd hp => arbitrate_started e g d (h.of_segmentsOnly hd) hp) _ kept.1 kept.2

/-! ### The load event (R197) -/

/-- The state of the load event with everything volatile cleared, the pause and the trip judged, the passes not
begun. -/
def State.cleared (s : State) : State :=
  ({ pending := s.pending, clock := s.clock, phase := .loaded, inputs := s.inputs, ports := PerPort.all Port.hunting
     store := s.store.start, work := s.store.content, claims := Claims.fresh s.clock
     weather := Weather.fresh s.clock s.store.content.settings.rainFilterTime s.inputs.rainRoof s.inputs.rainFacade
       s.inputs.vane
     supply := Supply.start s.store.content.settings s.inputs
     core := s.core.cleared s.clock s.store.content s.inputs } : State).judgePause.judgeTrip

theorem load_eq (s : State) : s.load = s.cleared.within fun e c => (c.startPasses e).evaluateBuilding e := rfl

section Cleared

variable (s : State)

theorem cleared_core : s.cleared.core = s.core.cleared s.clock s.store.content s.inputs := judgePause_core _ rfl

/-- The supply state is judged from the voltage, the mains state is the raw line, no supply timer runs (R157). -/
theorem cleared_supply : s.cleared.supply.state = startSupply s.store.content.settings s.inputs.voltage ∧
    s.cleared.supply.mains = s.inputs.mainsLine ∧ s.cleared.supply.mainsFilter = none ∧
    s.cleared.supply.rideThrough = none := judgePause_supply _

theorem live_cleared (now : Nat) (work : Content) (i : Inputs) (c : Core) (o : OpeningId) :
    (c.cleared now work i).live o = Live.begun (look work.openings o).present (c.live o) :=
  look_tabulate _ o

theorem cleared_allBegun (now : Nat) (work : Content) (i : Inputs) (c : Core) : AllBegun (c.cleared now work i) := by
  have state (o : OpeningId) : ((c.cleared now work i).live o).state = .unenrolled ∨
      ((c.cleared now work i).live o).state = .absent := by
    rw [live_cleared]
    cases (look work.openings o).present <;> simp [Live.begun]
  refine ⟨fun o => by rw [live_cleared]; rfl, fun o => ?_, fun o => ?_⟩ <;> rcases state o with h | h <;> simp [h]

/-- The Hold Controllers begin OWNED with the raw level as filtered level and re-arm flag (R142). -/
theorem holds_cleared (now : Nat) (work : Content) (i : Inputs) (c : Core) (g : Segment) :
    (c.cleared now work i).holds.get g =
      { filtered := i.holdreq.get g, filterTimer := none, rearm := i.holdreq.get g, state := .owned
        grantLine := false, reclaimLine := false, reclaimTimer := none, returningTimer := none
        driversOff := false } := by
  cases g <;> rfl

/-- The core of the load event: the cleared one with the passes of both segments begun and the building-closed status
evaluated (R197). -/
theorem load_core : ∃ d : Core, SegmentsOnly (s.core.cleared s.clock s.store.content s.inputs) d ∧
    (∀ g : Segment, SegmentCtl.Started s.cleared.env g (d.segments.get g)) ∧
    s.load.core = d.evaluateBuilding s.cleared.env := by
  have started := startPasses_started s.cleared.env (s.core.cleared s.clock s.store.content s.inputs)
    (cleared_allBegun _ _ _ _) (fun g => by rw [holds_cleared]) fun g => PerSegment.get_all _ g
  exact ⟨_, started.1, started.2, by rw [load_eq, State.within_core, cleared_core]⟩

/-- The load event leaves the queue, the clock and the inputs; the other blocks take the values of R197. -/
theorem load_blocks : s.load.phase = .loaded ∧ s.load.pending = s.pending ∧ s.load.clock = s.clock ∧
    s.load.inputs = s.inputs ∧ s.load.work = s.store.content ∧ s.load.store = s.store.start ∧
    s.load.ports = PerPort.all Port.hunting ∧ s.load.claims = Claims.fresh s.clock ∧
    s.load.weather = Weather.fresh s.clock s.store.content.settings.rainFilterTime s.inputs.rainRoof s.inputs.rainFacade
      s.inputs.vane ∧
    s.load.supply = s.cleared.supply := ⟨rfl, rfl, rfl, rfl, rfl, rfl, rfl, rfl, rfl, rfl⟩

end Cleared

theorem startSupply_spec (c : Settings) (v : Nat) : (c.sagSet ≤ v → startSupply c v = .normal) ∧
    (v < c.sagSet → (c.outSet ≤ v → startSupply c v = .sag) ∧ (v < c.outSet → startSupply c v = .out)) := by
  unfold startSupply
  refine ⟨fun h => if_pos h, fun h => ⟨fun k => ?_, fun k => ?_⟩⟩
  · rw [if_neg (Nat.not_le.2 h), if_pos k]
  · rw [if_neg (Nat.not_le.2 h), if_neg (Nat.not_le.2 k)]

end Sys2Proof.Machine

open Sys2Proof Sys2Proof.Machine

/-- Settles O4: the load event is the cleared state with its passes begun, and the notice event one happening handed
on. -/
theorem startUpEvents : Obligations.StartUpEvents := by
  refine ⟨fun s hr => ?_, fun s hp => ?_⟩
  · obtain ⟨d, rest, started, core⟩ := load_core s
    obtain ⟨phase, pending, clock, inputs, work, store, ports, claims, weather, supplies⟩ := load_blocks s
    refine ⟨s.load, by rw [exec_loadEvent, if_pos hr], phase, pending, clock, inputs, ?_⟩
    rw [work, store, ports, claims, weather, core, supplies]
    have supply := cleared_supply s
    obtain ⟨normal, low⟩ := startSupply_spec s.store.content.settings s.inputs.voltage
    have slots : d.slots = Vector.replicate 8 none := rest.slots
    refine ⟨?_, rfl, rfl, ?_, passes_iff _, rfl, rfl, rfl, fun o => look_replicate _ o, fun i => look_replicate _ i,
      rest.queue, fun i => ?_, ?_, rest.resolveSet, fun o => (rest.live o).trans (live_cleared _ _ _ _ o),
      fun p => ⟨PerPort.get_all _ p, ?_⟩, ?_, ?_⟩
    · simp only [Store.content, passes_iff]
    · simp [Store.start, passes_iff]
    · exact (congrArg (look · i) slots).trans (look_replicate _ i)
    · have none : (d.evaluateBuilding s.cleared.env).slots = Vector.replicate 8 none := slots
      simp [Core.reservationSum, none]
    · exact (congrArg (fun n : Notices => n.ports.get p) rest.notices).trans (PerPort.get_all _ p)
    · intro _
      rw [core, work]
      exact buildingClosed_iff s.cleared.env d
    · rw [supply.1, supply.2.1, supply.2.2.1, supply.2.2.2]
      refine ⟨normal, low, rfl, rfl, rfl, fun g => ?_⟩
      have begun := started g
      have env : s.cleared.env.supply = startSupply s.store.content.settings s.inputs.voltage := supply.1
      refine ⟨(congrArg (fun h : PerSegment Hold => h.get g) rest.holds).trans (holds_cleared _ _ _ _ g),
        begun.roundTimer, begun.counts, fun out => begun.out (env.trans out), fun powered => ?_⟩
      have on : s.cleared.env.supply ≠ .out := fun h => powered (env.symm.trans h)
      have members (o : OpeningId) : o ∈ (d.segments.get g).resync ↔
          (s.cleared.env.com o).present = true ∧ (s.cleared.env.com o).segment = g := by
        rw [begun.members on, mem_presentOn]
      exact ⟨members, begun.running on, begun.complete on⟩
  · refine ⟨s.announce, by rw [exec_noticeEvent, hp], rfl, rfl, rfl, rfl, fun p => ?_⟩
    have latched : (s.announce.core.notices.ports.get p) = (s.core.notices.ports.get p).latchEvent .startUp := by
      cases p <;> rfl
    rw [latched]
    exact ⟨rfl, rfl, rfl, rfl⟩

end

section
/-! SUPPORT. Requests asked for of several openings at once, a round of idle polls, and the probes that fall due; the
statement on poll and probe timers. -/

namespace Sys2Proof.Machine

/-! ### Requests of other openings -/

/-- What a change of one Segment Controller keeps of each, it keeps of all. -/
theorem setSegment_keeps {α : Type} (field : SegmentCtl → α) (c : Core) (g h : Segment) (f : SegmentCtl → SegmentCtl)
    (hf : ∀ x : SegmentCtl, field (f x) = field x) :
    field ((c.setSegment g f).segments.get h) = field (c.segments.get h) := by
  rw [segments_get_setSegment]
  split
  · next hg => rw [hf, hg]
  · rfl

/-- A request asked for leaves the pending requests of other openings. -/
theorem find_addRequest_other (r : Request) (rs : List Request) (q : OpeningId) (k : Nat) (h : q ≠ r.opening) :
    ((addRequest r rs).find? fun x => decide (x.opening = q) && x.body.kind == k) =
      rs.find? fun x => decide (x.opening = q) && x.body.kind == k := by
  induction rs with
  | nil => simp [addRequest, Ne.symm h]
  | cons x rest ih =>
    unfold addRequest
    split
    · next hx => simp [hx.1, Ne.symm h]
    · rw [List.find?_cons, List.find?_cons, ih]

theorem pendingOf_ask_other (e : Env) (c : Core) (o q : OpeningId) (b : RequestBody) (k : Nat) (h : q ≠ o) :
    (c.ask e o b).pendingOf e q k = c.pendingOf e q k := by
  by_cases hs : e.segment q = e.segment o
  · simp only [Core.pendingOf, Core.ask, Core.setSegment_segments, hs, PerSegment.get_set_same]
    exact find_addRequest_other { opening := o, body := b, stamp := e.now } _ q k h
  · exact pendingOf_congr _ _ _ _ _ (by rw [Core.ask, segments_get_setSegment, if_neg hs])

/-! ### One request asked for of several openings -/

/-- A core that has asked for one transaction of each opening of a list. -/
def Core.askEach (e : Env) (b : RequestBody) (os : List OpeningId) (c : Core) : Core :=
  os.foldl (fun c o => c.ask e o b) c

section AskEach

variable (e : Env) (b : RequestBody)

theorem askEach_cons (o : OpeningId) (os : List OpeningId) (c : Core) :
    c.askEach e b (o :: os) = (c.ask e o b).askEach e b os := rfl

theorem ask_segmentsOnly (o : OpeningId) (c : Core) : SegmentsOnly c (c.ask e o b) := ⟨rfl, rfl, rfl, rfl, rfl, rfl⟩

theorem askEach_segmentsOnly (os : List OpeningId) (c : Core) : SegmentsOnly c (c.askEach e b os) := by
  induction os generalizing c with
  | nil => exact .refl c
  | cons o rest ih => exact (ask_segmentsOnly e b o c).trans (ih _)

theorem roundTimer_ask (o : OpeningId) (c : Core) (g : Segment) :
    ((c.ask e o b).segments.get g).roundTimer = (c.segments.get g).roundTimer :=
  setSegment_keeps SegmentCtl.roundTimer _ _ _ _ fun _ => rfl

theorem roundTimer_askEach (os : List OpeningId) (c : Core) (g : Segment) :
    ((c.askEach e b os).segments.get g).roundTimer = (c.segments.get g).roundTimer := by
  induction os generalizing c with
  | nil => rfl
  | cons o rest ih => rw [askEach_cons, ih, roundTimer_ask]

theorem pendingOf_askEach_other (os : List OpeningId) (c : Core) (q : OpeningId) (k : Nat) (h : q ∉ os) :
    (c.askEach e b os).pendingOf e q k = c.pendingOf e q k := by
  induction os generalizing c with
  | nil => rfl
  | cons o rest ih =>
    rw [askEach_cons, ih _ (List.not_mem_of_not_mem_cons h), pendingOf_ask_other _ _ _ _ _ _ (List.ne_of_not_mem_cons h)]

theorem pendingOf_askEach_mem (os : List OpeningId) (c : Core) (q : OpeningId) (h : q ∈ os) :
    ((c.askEach e b os).pendingOf e q b.kind).isSome = true := by
  induction os generalizing c with
  | nil => exact absurd h List.not_mem_nil
  | cons o rest ih =>
    rw [askEach_cons]
    by_cases later : q ∈ rest
    · exact ih _ later
    · obtain rfl : q = o := (List.mem_cons.1 h).resolve_right later
      rw [pendingOf_askEach_other e b rest _ q _ later]
      exact pendingOf_ask e c q b

end AskEach

/-! ### A round of idle polls (R131) -/

/-- Whether an opening is polled idle, as R131 lists its states. -/
theorem polledIdle_iff (e : Env) (c : Core) (o : OpeningId) : c.polledIdle e o = true ↔
    (c.live o).ability.isSome = true ∧
      ((c.live o).state = .idle ∨ (c.live o).state = .resting ∨ (c.live o).state = .dwell ∨
        (c.live o).state = .lockedOut) ∧ o ∉ (c.segments.get (e.segment o)).resync := by
  have state : (c.live o).state.idlePolled = true ↔ (c.live o).state = .idle ∨ (c.live o).state = .resting ∨
      (c.live o).state = .dwell ∨ (c.live o).state = .lockedOut := by
    cases (c.live o).state <;> simp [OpeningState.idlePolled]
  simp [Core.polledIdle, state, and_assoc]

/-- A change of a Segment Controller that keeps the resync list keeps the openings polled idle. -/
theorem polledIdle_setSegment (e : Env) (c : Core) (g : Segment) (f : SegmentCtl → SegmentCtl) (o : OpeningId)
    (h : ∀ x : SegmentCtl, (f x).resync = x.resync) : (c.setSegment g f).polledIdle e o = c.polledIdle e o := by
  have list : ((c.setSegment g f).segments.get (e.segment o)).resync = (c.segments.get (e.segment o)).resync :=
    setSegment_keeps SegmentCtl.resync _ _ _ _ h
  simp only [Core.polledIdle, live_setSegment, list]

theorem polledIdle_ask (e : Env) (c : Core) (p o : OpeningId) (b : RequestBody) :
    (c.ask e p b).polledIdle e o = c.polledIdle e o := polledIdle_setSegment e c _ _ o fun _ => rfl

/-- No request asked for by a round bears on whom the rest of the round polls. -/
theorem foldl_polledIdle (e : Env) (os : List OpeningId) (c : Core) :
    os.foldl (fun c o => if c.polledIdle e o then c.ask e o .idlePoll else c) c =
      c.askEach e .idlePoll (os.filter (c.polledIdle e)) := by
  induction os generalizing c with
  | nil => rfl
  | cons o rest ih =>
    rw [List.foldl_cons, ih]
    cases h : c.polledIdle e o with
    | false => simp [h]
    | true =>
      have same : (c.ask e o .idlePoll).polledIdle e = c.polledIdle e := funext fun q => polledIdle_ask e c o q _
      simp [h, same, askEach_cons]

/-- A round restarts its timer and asks for the idle POLLs of the openings polled idle (R131). -/
theorem pollRound_eq (e : Env) (g : Segment) (c : Core) :
    c.pollRound e g = (c.setSegment g fun s => { s with roundTimer := startTimer e.now idleRoundMs }).askEach e .idlePoll
      ((e.presentOn g).filter (c.polledIdle e)) := by
  have same : (c.setSegment g fun s => { s with roundTimer := startTimer e.now idleRoundMs }).polledIdle e =
      c.polledIdle e := funext fun o => polledIdle_setSegment e c g _ o fun _ => rfl
  simp only [Core.pollRound, foldl_polledIdle, same]

/-- A round leaves all but the Segment Controllers. -/
theorem pollRound_segmentsOnly (e : Env) (g : Segment) (c : Core) : SegmentsOnly c (c.pollRound e g) := by
  have timed : SegmentsOnly c (c.setSegment g fun s => { s with roundTimer := startTimer e.now idleRoundMs }) :=
    ⟨rfl, rfl, rfl, rfl, rfl, rfl⟩
  rw [pollRound_eq]
  exact timed.trans (askEach_segmentsOnly _ _ _ _)

theorem roundTimer_pollRound (e : Env) (g : Segment) (c : Core) :
    ((c.pollRound e g).segments.get g).roundTimer = some ⟨e.now, 30000⟩ := by
  rw [pollRound_eq, roundTimer_askEach]
  simp [startTimer, idleRoundMs]

theorem pendingOf_pollRound_polled (e : Env) (g : Segment) (c : Core) (q : OpeningId) (hq : q ∈ e.presentOn g)
    (h : c.polledIdle e q = true) : ((c.pollRound e g).pendingOf e q 4).isSome = true := by
  rw [pollRound_eq]
  exact pendingOf_askEach_mem e .idlePoll _ _ q (List.mem_filter.2 ⟨hq, h⟩)

theorem pendingOf_pollRound_unpolled (e : Env) (g : Segment) (c : Core) (q : OpeningId)
    (h : ¬ (q ∈ e.presentOn g ∧ c.polledIdle e q = true)) :
    (c.pollRound e g).pendingOf e q 4 = c.pendingOf e q 4 := by
  rw [pollRound_eq, pendingOf_askEach_other _ _ _ _ _ _ (fun hq => h (List.mem_filter.1 hq))]
  exact pendingOf_congr _ _ _ _ _ (setSegment_keeps SegmentCtl.requests _ _ _ _ fun _ => rfl)

/-- The openings of a segment that a round polls, in the words of R131. -/
theorem polledInRound_iff (s : State) (g : Segment) (q : OpeningId) (hg : s.env.segment q = g) :
    polledInRound s g q ↔ q ∈ s.env.presentOn g ∧ s.core.polledIdle s.env q = true := by
  subst hg
  rw [mem_presentOn, polledIdle_iff]
  exact ⟨fun ⟨present, rest⟩ => ⟨⟨present, rfl⟩, rest⟩, fun ⟨⟨present, _⟩, rest⟩ => ⟨present, rest⟩⟩

/-! ### Progress polls and probes that fall due (R117, R129, R130) -/

theorem progressDue_eq (e : Env) (i : SlotId) (c : Core) (x : Slot) (hx : look c.slots i = some x) :
    c.progressDue e i = (c.setSlot i fun s => { s with progressPoll := none }).ask e x.opening .progressPoll := by
  simp only [Core.progressDue, hx]

/-- A re-probe that falls due while the opening's slot is an orphan is held back (R117). -/
theorem reProbeDue_orphaned (e : Env) (o : OpeningId) (c : Core) (h : c.orphaned o = true) :
    c.reProbeDue e o = c.setLive o fun l => { l with reProbe := none, reProbeHeld := true } := by
  have held : (c.setLive o fun l => { l with reProbe := none }).orphaned o = true := h
  simp only [Core.reProbeDue, held, if_true, setLive_setLive]

/-- A re-probe that falls due without an orphan slot asks for its ENROLL (R129). -/
theorem reProbeDue_free (e : Env) (o : OpeningId) (c : Core) (h : c.orphaned o = false) :
    c.reProbeDue e o = (c.setLive o fun l => { l with reProbe := none }).ask e o (.enroll false false true) := by
  have free : (c.setLive o fun l => { l with reProbe := none }).orphaned o = false := h
  simp only [Core.reProbeDue, free, Bool.false_eq_true, if_false]

theorem reProbeTimer_lost (l : Live) (h : l.state = .lost) : l.reProbeTimer = l.reProbe := if_pos h

theorem retryTimer_unenrolled (l : Live) (h : l.state = .unenrolled) : l.retryTimer = l.reProbe := if_pos h

end Sys2Proof.Machine

open Sys2Proof Sys2Proof.Machine

/-- Settles O45, by timer: a progress poll, a round, a follow-poll, a re-probe and an enrollment retry. -/
theorem pollAndProbeTimersAsk : Obligations.PollAndProbeTimersAsk := by
  refine ⟨fun s o g i x f hr => ⟨fun hx hf => ?progress, fun hf => ?round, fun hf => ?follow⟩,
    fun s o f hr hf => ⟨fun hs => ?probe, fun hs => ?retry⟩⟩
  case progress =>
    refine ⟨(s.atMoment (f.start + f.length)).within fun e c => c.progressDue e i, ?_, ?_⟩
    · rw [exec_progressPollTimerExpiry, hx, Option.bind_some, hf, coreExpiry_running _ _ _ hr]
    · rw [State.within_core, State.atMoment_core, progressDue_eq _ _ _ _ hx]
      exact ⟨pendingOf_ask _ _ _ .progressPoll, look_setSlot_same _ _ _ _ hx, rfl⟩
  case round =>
    refine ⟨(s.atMoment (f.start + f.length)).within fun e c => c.pollRound e g, ?_, ?_⟩
    · rw [exec_idlePollRound, hf, coreExpiry_running _ _ _ hr]
    · rw [State.within_core, State.atMoment_core]
      have kept := pollRound_segmentsOnly (s.atMoment (f.start + f.length)).env g s.core
      refine ⟨roundTimer_pollRound _ _ _, kept.openings, kept.slots, fun q hq => ?_⟩
      rw [polledInRound_iff s g q hq]
      exact ⟨fun ⟨member, polled⟩ => pendingOf_pollRound_polled _ g s.core q member polled,
        pendingOf_pollRound_unpolled (s.atMoment (f.start + f.length)).env g s.core q⟩
  case follow =>
    refine ⟨(s.atMoment (f.start + f.length)).within fun e c =>
      (c.setLive o fun l => { l with followPoll := none }).ask e o .idlePoll, ?_,
      pendingOf_ask _ _ _ .idlePoll, by simp, rfl⟩
    rw [exec_followPollTimerExpiry, hf, coreExpiry_running _ _ _ hr]
  case probe =>
    refine ⟨(s.atMoment (f.start + f.length)).within fun e c => c.reProbeDue e o, ?_, ?_⟩
    · rw [exec_reProbeTimerExpiry, reProbeTimer_lost _ hs, hf, coreExpiry_running _ _ _ hr]
    · rw [State.within_core, State.atMoment_core]
      cases h : s.core.orphaned o with
      | true =>
        rw [reProbeDue_orphaned _ _ _ h]
        exact ⟨by simp, fun _ => ⟨by simp, rfl⟩, nofun, rfl⟩
      | false =>
        rw [reProbeDue_free _ _ _ h]
        exact ⟨by simp, nofun, fun _ => pendingOf_ask _ _ _ (.enroll false false true), rfl⟩
  case retry =>
    refine ⟨(s.atMoment (f.start + f.length)).within fun e c =>
      (c.setLive o fun l => { l with reProbe := none }).ask e o (.enroll false true false), ?_,
      pendingOf_ask _ _ _ (.enroll false true false), by simp, rfl⟩
    rw [exec_enrollmentRetry, retryTimer_unenrolled _ hs, hf, coreExpiry_running _ _ _ hr]

end

section
/-! SUPPORT. What a frame and a BUSY do to a segment's line, and what is discarded; the statement on the events of a
line. -/

namespace Sys2Proof.Machine

/-- An event whose operation changes nothing leaves the checks at its end alone (R122, log entry 39). -/
theorem coreEvent_idle (s : State) (f : Env → Core → Core) (hr : s.inReset = false) (h : f s.env s.core = s.core) :
    s.coreEvent f = s.settled := by
  rw [coreEvent_running _ _ hr, State.within, h]

section Line

variable (e : Env) (g : Segment) (c : Core) (t : Transaction)

/-- The last byte of a frame begins its first reply window (R124, R125). -/
theorem frameSent_begins (ht : (c.segments.get g).inFlight = some t) (hw : t.window = none) :
    c.frameSent e g =
      c.setSegment g fun x => { x with inFlight := some { t with window := some ⟨e.now, 20⟩ } } := by
  simp only [Core.frameSent, ht, hw]
  rfl

/-- A BUSY below the ninth restarts the window (R125). -/
theorem busyArrives_below (ht : (c.segments.get g).inFlight = some t) (hl : t.leftover = false)
    (hb : t.busyCount < 8) :
    c.busyArrives e g t.address = c.setSegment g fun x =>
      { x with inFlight := some { t with busyCount := t.busyCount + 1, window := some ⟨e.now, 20⟩ } } := by
  simp only [Core.busyArrives, ht, hl, and_self, if_true, hb]
  rfl

/-- The ninth BUSY ends the transaction in a timeout (R125). -/
theorem busyArrives_ninth (ht : (c.segments.get g).inFlight = some t) (hl : t.leftover = false)
    (hb : 8 ≤ t.busyCount) : c.busyArrives e g t.address = c.takeTimeout e g t := by
  simp only [Core.busyArrives, ht, hl, and_self, if_true, Nat.not_lt.2 hb, if_false]

/-- No transaction in flight on a segment waits for an answer from an address: there is none, or it is a leftover, or its
node has another address (R121, R123). -/
def SegmentCtl.awaitsNone (x : SegmentCtl) (a : NodeAddress) : Prop :=
  ∀ t : Transaction, x.inFlight = some t → t.leftover = true ∨ t.address ≠ a

/-- A reply that answers no transaction in flight is discarded (R122). -/
theorem replyArrives_discarded (r : NodeReply) (h : (c.segments.get g).awaitsNone r.address) :
    c.replyArrives e g r = c := by
  unfold Core.replyArrives
  split
  · rfl
  · next t ht =>
    refine if_neg fun ⟨ha, _, hl⟩ => ?_
    rcases h t ht with hl' | ha'
    · exact absurd (hl.symm.trans hl') (by decide)
    · exact ha' ha

/-- A BUSY that answers no transaction in flight is discarded (R122). -/
theorem busyArrives_discarded (a : NodeAddress) (h : (c.segments.get g).awaitsNone a) :
    c.busyArrives e g a = c := by
  unfold Core.busyArrives
  split
  · rfl
  · next t ht =>
    refine if_neg fun ⟨ha, hl⟩ => ?_
    rcases h t ht with hl' | ha'
    · exact absurd (hl.symm.trans hl') (by decide)
    · exact ha' ha

/-- A frame with a gap, or one that reads as no node frame, is discarded (R122). -/
theorem frameArrives_discarded (bytes : List Byte) (gap : Bool) (h : gap = true ∨ readNodeFrame bytes = none) :
    c.frameArrives e g bytes gap = c := by
  unfold Core.frameArrives
  cases gap with
  | true => rfl
  | false =>
    have unread : readNodeFrame bytes = none := h.resolve_left Bool.false_ne_true
    simp [unread]

end Line

end Sys2Proof.Machine

open Sys2Proof Sys2Proof.Machine

/-- Settles O40, by event: the turnaround's end, a frame sent, a BUSY by its count, an answer to nothing in flight, and
an invalid frame. -/
theorem lineEventsOfASegment : Obligations.LineEventsOfASegment := by
  intro g s hr
  refine ⟨fun f hf => ?turnaround, fun t ht hw => ?sent, fun t ht hl => ⟨fun hb => ?busy, fun hb => ?ninth⟩,
    fun r a h => ?unasked, fun bytes gap h => ?invalid⟩
  case turnaround =>
    rw [exec_turnaroundEnd, hf, coreExpiry_running _ _ _ hr]
    rfl
  case sent =>
    rw [exec_nodeFrameSent, coreEvent_running _ _ hr, State.within, frameSent_begins _ _ _ _ ht hw]
    rfl
  case busy =>
    rw [exec_nodeReplyBusy, coreEvent_running _ _ hr, State.within, busyArrives_below _ _ _ _ ht hl hb]
    rfl
  case ninth =>
    rw [exec_nodeReplyBusy, coreEvent_running _ _ hr, State.within, busyArrives_ninth _ _ _ _ ht hl hb]
    rfl
  case unasked =>
    have none_waits (b : NodeAddress) (hb : b = r.address ∨ b = a) : (s.core.segments.get g).awaitsNone b := by
      intro t ht
      rcases h with h | ⟨x, hx, h⟩
      · rw [ht] at h; cases h
      · obtain rfl : x = t := Option.some.inj (hx.symm.trans ht)
        refine h.imp_right fun ⟨hr, ha⟩ => ?_
        rcases hb with rfl | rfl
        · exact hr
        · exact ha
    rw [exec_nodeReply, exec_nodeReplyBusy,
      coreEvent_idle _ _ hr (replyArrives_discarded _ _ _ r (none_waits _ (.inl rfl))),
      coreEvent_idle _ _ hr (busyArrives_discarded _ _ _ a (none_waits _ (.inr rfl)))]
    exact ⟨rfl, rfl⟩
  case invalid =>
    rw [exec_invalidNodeFrame, coreEvent_idle _ _ hr (frameArrives_discarded _ _ _ bytes gap h)]

end

section
/-! SUPPORT. Pass triggers of one segment after another; the statement on RESYNC. -/

namespace Sys2Proof.Machine

/-! ### Pass triggers (R136, R137) -/

/-- The Segment Controller of a segment and the records of its openings are as they were. -/
structure SegmentKept (e : Env) (g : Segment) (c d : Core) : Prop where
  segment : d.segments.get g = c.segments.get g
  live : ∀ o : OpeningId, e.segment o = g → d.live o = c.live o

theorem SegmentKept.refl (e : Env) (g : Segment) (c : Core) : SegmentKept e g c c := ⟨rfl, fun _ _ => rfl⟩

theorem SegmentKept.trans {e : Env} {g : Segment} {c d u : Core} (h : SegmentKept e g c d) (k : SegmentKept e g d u) :
    SegmentKept e g c u :=
  ⟨k.segment.trans h.segment, fun o on => (k.live o on).trans (h.live o on)⟩

/-- A segment that can carry traffic begins its pass when one is triggered (R137). -/
theorem triggerPass_carried (e : Env) (g : Segment) (c : Core) (h : c.carries e g = true) :
    PassStarts e g c (c.triggerPass e g) := by
  rw [Core.triggerPass, if_pos h]
  exact startPass_starts e g c

/-- A segment that cannot carry traffic makes its pass DUE when one is triggered (R137). -/
theorem triggerPass_uncarried (e : Env) (g : Segment) (c : Core) (h : c.carries e g = false) :
    c.triggerPass e g = c.makeDue g := by
  rw [Core.triggerPass, if_neg (by simp [h])]

/-- A pass made DUE has an empty resync list (R137). -/
theorem makeDue_segment (g : Segment) (c : Core) :
    ((c.makeDue g).segments.get g).pass = .due ∧ ((c.makeDue g).segments.get g).resync = [] := by
  simp [Core.makeDue, SegmentCtl.dropPass]

/-- A pass trigger of one segment leaves the other. -/
theorem triggerPass_keeps (e : Env) (g h : Segment) (c : Core) (hg : h ≠ g) :
    SegmentKept e h c (c.triggerPass e g) := by
  cases carried : c.carries e g with
  | true =>
    have started := triggerPass_carried e g c carried
    exact ⟨started.segment h hg, fun o ho => started.live o fun k => hg (ho.symm.trans k)⟩
  | false =>
    rw [triggerPass_uncarried e g c carried]
    exact ⟨by rw [Core.makeDue, segments_get_setSegment, if_neg hg], fun _ _ => rfl⟩

/-- A core in which a pass of a segment has been triggered since a state (R137): begun where the segment can carry
traffic, else DUE with the list empty and the segment's records as they were. -/
structure PassTriggered (s : State) (g : Segment) (u : Core) : Prop where
  begun : s.core.carries s.env g = true → passBegun s g u
  due : s.core.carries s.env g = false → (u.segments.get g).pass = .due ∧ (u.segments.get g).resync = [] ∧
    ∀ o : OpeningId, (look s.work.openings o).segment = g → u.live o = s.core.live o

/-- A pass triggered while the holds, the segment and its records are those of the state. -/
theorem triggerPass_triggered (s : State) (g : Segment) (c : Core) (hh : c.holds = s.core.holds)
    (hk : SegmentKept s.env g s.core c) : PassTriggered s g (c.triggerPass s.env g) := by
  have same : c.carries s.env g = s.core.carries s.env g := by unfold Core.carries; rw [hh]
  refine ⟨fun carried => ?_, fun carried => ?_⟩
  · have started := triggerPass_carried s.env g c (same.trans carried)
    refine ⟨started.pass, fun o => (started.resync o).trans ?_, started.position⟩
    exact and_congr_right fun _ => and_congr_right fun on => by rw [hk.live o on]
  · rw [triggerPass_uncarried _ _ _ (same.trans carried)]
    exact ⟨(makeDue_segment g c).1, (makeDue_segment g c).2, hk.live⟩

/-- What leaves a segment leaves the pass triggered on it. -/
theorem PassTriggered.of_kept {s : State} {g : Segment} {c d : Core} (h : PassTriggered s g c)
    (k : SegmentKept s.env g c d) : PassTriggered s g d := by
  refine ⟨fun carried => ?_, fun carried => ?_⟩
  · obtain ⟨pass, list, position⟩ := h.begun carried
    refine ⟨by rw [k.segment]; exact pass, fun o => by rw [k.segment]; exact list o, fun o present on => ?_⟩
    rw [k.live o on]
    exact position o present on
  · obtain ⟨pass, list, live⟩ := h.due carried
    exact ⟨by rw [k.segment]; exact pass, by rw [k.segment]; exact list, fun o on => (k.live o on).trans (live o on)⟩

/-! ### RESYNC (R138) -/

/-- A pass triggered on each segment of a list in turn. -/
def Core.resync (e : Env) (gs : List Segment) (c : Core) : Core := gs.foldl (fun c g => c.triggerPass e g) c

theorem resync_keeps (e : Env) (gs : List Segment) (c : Core) (h : Segment) (hg : h ∉ gs) :
    SegmentKept e h c (c.resync e gs) := by
  induction gs generalizing c with
  | nil => exact .refl e h c
  | cons g rest ih =>
    exact (triggerPass_keeps e g h c (List.ne_of_not_mem_cons hg)).trans (ih _ (List.not_mem_of_not_mem_cons hg))

/-- A later trigger finds the other segments, and so leaves them, as the earlier ones have made them. -/
theorem resync_triggered (s : State) (gs : List Segment) (once : gs.Nodup) (c : Core) (hh : c.holds = s.core.holds)
    (hk : ∀ g ∈ gs, SegmentKept s.env g s.core c) (g : Segment) (hg : g ∈ gs) :
    PassTriggered s g (c.resync s.env gs) := by
  induction gs generalizing c with
  | nil => exact absurd hg List.not_mem_nil
  | cons x rest ih =>
    obtain ⟨fresh, once⟩ := List.nodup_cons.1 once
    rcases List.mem_cons.1 hg with rfl | later
    · exact (triggerPass_triggered s g c hh (hk g hg)).of_kept (resync_keeps s.env rest _ g fresh)
    · refine ih once _ ((triggerPass_holds _ _ _).trans hh) (fun h hm => ?_) later
      exact (hk h (List.mem_cons_of_mem x hm)).trans
        (triggerPass_keeps s.env x h c fun same => fresh (same ▸ hm))

/-- The segments a value of RESYNC names (R138, R200). -/
theorem resyncOf?_named (b : Byte) (hb : b.toNat ≤ 2) : ∃ gs : List Segment, resyncOf? b = some gs ∧ gs.Nodup ∧
    ∀ g : Segment, (b = 2 ∨ (b = 0 ∧ g = .seg0) ∨ (b = 1 ∧ g = .seg1) → g ∈ gs) ∧
      ((b = 0 ∧ g = .seg1) ∨ (b = 1 ∧ g = .seg0) → g ∉ gs) := by
  have value : b = 0 ∨ b = 1 ∨ b = 2 := by bv_omega
  rcases value with rfl | rfl | rfl
  · exact ⟨[.seg0], rfl, by decide, fun g => by cases g <;> decide⟩
  · exact ⟨[.seg1], rfl, by decide, fun g => by cases g <;> decide⟩
  · exact ⟨[.seg0, .seg1], rfl, by decide, fun g => by cases g <;> decide⟩

theorem exec_resync_named (b : Byte) (s : State) (gs : List Segment) (ht : s.takes .service)
    (hb : resyncOf? b = some gs) : exec (.resync .service b) s =
      .next ((s.within fun e c => c.resync e gs).settled.sendingOk .service 18 []) :=
  exec_served (.resync b) .service s _ (.ok []) ht rfl (by simp only [MasterRequest.serve, serveResync, hb]; rfl)

theorem exec_resync_outOfRange (b : Byte) (s : State) (ht : s.takes .service) (hb : 2 < b.toNat) :
    exec (.resync .service b) s = .next (s.sendingRange .service 18 1) := by
  have unnamed : resyncOf? b = none := by
    unfold resyncOf?
    split
    · omega
    · omega
    · omega
    · rfl
  exact exec_served (.resync b) .service s s (.outOfRange 1) ht rfl
    (by simp [MasterRequest.serve, serveResync, unnamed])

end Sys2Proof.Machine

open Sys2Proof Sys2Proof.Machine

/-- Settles O28: a pass triggered on the segments the value names, one after the other, each leaving the rest. -/
theorem resyncWaitsForTheSegment : Obligations.ResyncWaitsForTheSegment := by
  intro b s ht
  refine ⟨exec_resync_outOfRange b s ht, fun hb => ?_⟩
  obtain ⟨gs, named, once, members⟩ := resyncOf?_named b hb
  refine ⟨_, exec_resync_named b s gs ht named, fun g => ⟨fun hg => ?_, fun hg => ?_⟩⟩
  · have triggered := resync_triggered s gs once s.core rfl (fun h _ => .refl _ _ _) g ((members g).1 hg)
    exact ⟨triggered.begun, triggered.due⟩
  · have kept := resync_keeps s.env gs s.core g ((members g).2 hg)
    exact ⟨kept.segment, kept.live⟩

end

section
/-! SUPPORT. Grants, revocations and returns, and what an entry to RELEASING leaves; the statement on them. -/

namespace Sys2Proof.Machine

/-- A HOLD_CHANGED is latched on every port with its reason for the segment (R183, R184). -/
theorem hand_holdChanged (n : Notices) (g : Segment) (reason : HoldReason) (p : Role) :
    hasKind ((n.hand (.holdChanged g reason)).ports.get p).latch .holdChanged = true ∧
      ((n.hand (.holdChanged g reason)).ports.get p).details.hold.get g = some reason := by
  refine ⟨hand_latches n (.holdChanged g reason) p rfl, ?_⟩
  simp [Notices.hand, Happening.latchedOn, NoticePort.latchEvent, NoticePort.deriveAttn, Happening.detail]

/-! ### The grant (R140, R146, R148) -/

/-- A hold request present (R143). -/
theorem requested_iff (h : Hold) : h.requested = true ↔ h.filtered = true ∧ h.rearm = false := by
  simp [Hold.requested]

theorem belowCloseAll_iff (v : Level) : v.belowCloseAll = true ↔ v ≠ .closeAll := by simp [Level.belowCloseAll]

/-- A complete release whose request stands below CLOSE_ALL is granted (R146). -/
theorem finishRelease_granted (e : Env) (g : Segment) (c : Core) (hs : (c.holds.get g).state = .releasing)
    (hc : c.releaseComplete e g = true) (hr : (c.holds.get g).requested = true) (hl : e.level ≠ .closeAll) :
    c.finishRelease e g = c.grant e g := by
  simp only [Core.finishRelease, hs, hc, and_self, if_true, ((requested_iff _).1 hr).1, hr, (belowCloseAll_iff _).2 hl]

/-- A segment without requests has none after its RUNNING pass is made DUE (R140). -/
theorem requests_suspendPass (g : Segment) (c : Core) (h : (c.segments.get g).requests = []) :
    ((c.suspendPass g).segments.get g).requests = [] := by
  unfold Core.suspendPass
  split
  · simp [Core.makeDue, SegmentCtl.dropPass, dropPassRequests, h]
  · exact h

/-- What a grant makes of the Hold Controller, the pending set and the notices (R140, R148). -/
theorem grant_granted (e : Env) (g : Segment) (c : Core) :
    (c.grant e g).holds.get g = { c.holds.get g with state := .granted, grantLine := true, driversOff := true } ∧
      ((c.grant e g).segments.get g).requests = [] ∧
      ∀ p : Role, hasKind ((c.grant e g).notices.ports.get p).latch .holdChanged = true ∧
        ((c.grant e g).notices.ports.get p).details.hold.get g = some .granted := by
  refine ⟨?_, requests_suspendPass g _ ?_, hand_holdChanged _ g .granted⟩
  · simp [Core.grant]
  · simp [Core.stopTimers]

/-! ### Revocation (R151) -/

/-- What the entry to RETURNING makes of the Hold Controller (R151, R152). -/
theorem enterReturning_hold (e : Env) (g : Segment) (reason : HoldReason) (c : Core) :
    (c.enterReturning e g reason).holds.get g =
      { c.holds.get g with state := .returning, grantLine := false, reclaimLine := false, reclaimTimer := none,
                           driversOff := false, returningTimer := some ⟨e.now, 50⟩ } := by
  simp [Core.enterReturning, startTimer, returningMs]

/-! ### Entry to RELEASING (R145) -/

/-- A fold keeps what each of its steps keeps. -/
theorem foldl_keeps {α : Type} (P : Core → Prop) (f : Core → α → Core) (hf : ∀ c x, P c → P (f c x)) (l : List α)
    (c : Core) (h : P c) : P (l.foldl f c) := by
  induction l generalizing c with
  | nil => exact h
  | cons x rest ih => exact ih _ (hf c x h)

section Walk

variable (e : Env) (o : OpeningId) (c : Core)

theorem afterRetarget_walkTriggered : (c.afterRetarget e o).walkTriggered = c.walkTriggered := by
  unfold Core.afterRetarget
  repeat' split
  all_goals rfl

theorem afterShedOrHold_walkTriggered (cls : JobClass) (h : c.walkTriggered = true) :
    (c.afterShedOrHold e o cls).walkTriggered = true := by
  unfold Core.afterShedOrHold
  split
  · split
    · exact h
    · rfl
  · exact h

/-- No state that R16 leads to takes back a start-walk trigger. -/
theorem settleStop_walkTriggered (cause : StopCause) (cls : JobClass) (out : DriveOutcome)
    (h : c.walkTriggered = true) : (c.settleStop e o cause cls out).walkTriggered = true := by
  have fails (f : Failure) : (c.takeFailure e o f).walkTriggered = true := (takeFailure_walkTriggered e o c f).trans h
  cases out with
  | none =>
    cases cause with
    | retarget => exact (afterRetarget_walkTriggered e o c).trans h
    | cutoff => exact fails .cutOff
    | lockout => exact h
    | shed | hold => exact afterShedOrHold_walkTriggered e o c cls h
  | reached =>
    cases cause with
    | retarget => exact (afterRetarget_walkTriggered e o (c.completeStop o)).trans h
    | cutoff | lockout | shed | hold => exact h
  | stalled =>
    cases cause with
    | lockout => exact h
    | retarget | cutoff | shed | hold => exact fails .cutOff
  | obstructed =>
    cases cause with
    | lockout => exact h
    | retarget | cutoff | shed | hold => exact fails .obstruction

theorem confirmStop_walkTriggered (locked : Option Bool) (out : DriveOutcome) (h : c.walkTriggered = true) :
    (c.confirmStop e o locked out).walkTriggered = true := by
  unfold Core.confirmStop
  split
  · exact h
  · split
    · exact h
    · next x hx => exact settleStop_walkTriggered e o _ _ _ _ (freeSlot_walkTriggered e _ c x hx)

theorem requestStop_walkTriggered (cause : StopCause) (h : c.walkTriggered = true) :
    (c.requestStop e o cause).walkTriggered = true := by
  unfold Core.requestStop
  split
  · split
    · exact h
    · dsimp only
      split
      · exact confirmStop_walkTriggered e o _ none .none h
      · exact h
  · exact h
  · exact h

end Walk

/-- The stop requests of an entry to RELEASING keep what each of them keeps. -/
theorem enterReleasing_keeps (e : Env) (g : Segment) (c : Core) (P : Core → Prop)
    (begun : P (c.setHold g fun h => { h with state := .releasing }))
    (stops : ∀ (d : Core) (o : OpeningId), P d → P (d.requestStop e o .hold)) : P (c.enterReleasing e g) := by
  unfold Core.enterReleasing
  dsimp only
  apply foldl_keeps P _ _ _ _ begun
  intro d i hd
  split
  · split
    · exact stops _ _ hd
    · exact hd
  · exact hd

theorem enterReleasing_holds (e : Env) (g : Segment) (c : Core) :
    (c.enterReleasing e g).holds = c.holds.set g { c.holds.get g with state := .releasing } :=
  enterReleasing_keeps e g c (fun d => d.holds = c.holds.set g { c.holds.get g with state := .releasing }) rfl
    fun d o hd => (requestStop_holds e o .hold d).trans hd

theorem enterReleasing_walkTriggered (e : Env) (g : Segment) (c : Core) (h : c.walkTriggered = true) :
    (c.enterReleasing e g).walkTriggered = true :=
  enterReleasing_keeps e g c (fun d => d.walkTriggered = true) h
    fun d o hd => requestStop_walkTriggered e o d .hold hd

/-- The test of R144 fails without a request, or at CLOSE_ALL. -/
theorem tryRelease_stays (e : Env) (g : Segment) (c : Core)
    (h : (c.holds.get g).filtered = false ∨ (c.holds.get g).rearm = true ∨ e.level = .closeAll) :
    c.tryRelease e g = c := by
  refine if_neg fun ⟨_, requested, below⟩ => ?_
  obtain ⟨filtered, armed⟩ := (requested_iff _).1 requested
  rcases h with h | h | h
  · simp [filtered] at h
  · simp [armed] at h
  · exact (belowCloseAll_iff _).1 below h

/-- A request that stands below CLOSE_ALL takes an OWNED segment into RELEASING (R144). -/
theorem tryRelease_releases (e : Env) (g : Segment) (c : Core) (ho : (c.holds.get g).state = .owned)
    (hr : (c.holds.get g).requested = true) (hl : e.level ≠ .closeAll) : c.tryRelease e g = c.enterReleasing e g :=
  if_pos ⟨ho, hr, (belowCloseAll_iff _).2 hl⟩

/-! ### The return (R152) -/

/-- A core whose segment has returned, before its pass is triggered. -/
def Core.reowned (e : Env) (g : Segment) (c : Core) : Core :=
  (c.setHold g fun h => { h with state := .owned, returningTimer := none }).setSegment g fun s =>
    { s with turnaround := none, roundTimer := if e.supply = .out then none else startTimer e.now idleRoundMs }

/-- A core whose segment has returned and whose pass has been triggered, before the test of R144. -/
def Core.resumed (e : Env) (g : Segment) (c : Core) : Core := ((c.reowned e g).triggerPass e g).trigger

theorem returned_eq (e : Env) (g : Segment) (c : Core) : c.returned e g = (c.resumed e g).tryRelease e g := rfl

theorem resumed_hold (e : Env) (g : Segment) (c : Core) :
    (c.resumed e g).holds.get g = { c.holds.get g with state := .owned, returningTimer := none } := by
  simp [Core.resumed, Core.reowned]

/-- A pass trigger leaves the round timer (R131). -/
theorem roundTimer_triggerPass (e : Env) (g : Segment) (c : Core) :
    ((c.triggerPass e g).segments.get g).roundTimer = (c.segments.get g).roundTimer := by
  cases carried : c.carries e g with
  | true => exact (triggerPass_carried e g c carried).roundTimer
  | false => simp [triggerPass_uncarried e g c carried, Core.makeDue, SegmentCtl.dropPass]

/-- A return begins a round, and none while the supply is OUT (R152). -/
theorem resumed_roundTimer (e : Env) (g : Segment) (c : Core) :
    ((c.resumed e g).segments.get g).roundTimer = if e.supply = .out then none else some ⟨e.now, 30000⟩ := by
  refine (roundTimer_triggerPass e g (c.reowned e g)).trans ?_
  simp [Core.reowned, startTimer, idleRoundMs]

/-- A return triggers the pass of the segment it makes OWNED (R137, log entry 49). -/
theorem resumed_triggered (s : State) (g : Segment) :
    PassTriggered (s.within fun e c => c.reowned e g) g (s.core.resumed s.env g) :=
  (triggerPass_triggered (s.within fun e c => c.reowned e g) g _ rfl (.refl _ _ _)).of_kept ⟨rfl, fun _ _ => rfl⟩

/-- A segment just returned carries traffic unless the supply is OUT (R137). -/
theorem reowned_carries (e : Env) (g : Segment) (c : Core) :
    (c.reowned e g).carries e g = decide (e.supply ≠ .out) := by
  simp [Core.carries, Core.reowned]

end Sys2Proof.Machine

open Sys2Proof Sys2Proof.Machine

/-- Settles O47: the grant, the revocation, and the return with the pass it begins. -/
theorem grantsRevocationsAndReturns : Obligations.GrantsRevocationsAndReturns := by
  intro g f s hr
  refine ⟨fun hs hc hf ha hl => ?grant, fun hf => ?revoke, fun hf => ?back⟩
  case grant =>
    rw [finishRelease_granted s.env g s.core hs hc ((requested_iff _).2 ⟨hf, ha⟩) hl]
    exact grant_granted s.env g s.core
  case revoke =>
    refine ⟨_, by rw [exec_reclaimTimerExpiry, hf, coreExpiry_running _ _ _ hr], ?_⟩
    rw [State.within_core, State.atMoment_core, Core.revoke, enterReturning_hold, Core.setHold_holds,
      PerSegment.get_set_same]
    exact ⟨rfl, rfl, rfl, rfl, rfl, fun p => (hand_holdChanged _ g .revoked p).2⟩
  case back =>
    refine ⟨_, by rw [exec_returningTimerExpiry, hf, coreExpiry_running _ _ _ hr], ?_⟩
    rw [State.within_core, State.atMoment_core, returned_eq]
    have hold := resumed_hold (s.atMoment (f.start + f.length)).env g s.core
    have triggered := resumed_triggered (s.atMoment (f.start + f.length)) g
    have round := resumed_roundTimer (s.atMoment (f.start + f.length)).env g s.core
    have carries := reowned_carries (s.atMoment (f.start + f.length)).env g s.core
    by_cases refused : (s.core.holds.get g).filtered = false ∨ (s.core.holds.get g).rearm = true ∨
        s.weather.level = .closeAll
    · rw [tryRelease_stays _ _ _ (by rw [hold]; exact refused)]
      refine ⟨by rw [hold], rfl, fun _ => ⟨by rw [hold], fun on => ⟨?_, ?_⟩, fun out => ⟨?_, ?_⟩⟩, fun hf ha hl => ?_⟩
      · exact triggered.begun (carries.trans (decide_eq_true on))
      · exact round.trans (if_neg on)
      · exact (triggered.due (carries.trans (decide_eq_false fun on => on out))).1
      · exact round.trans (if_pos out)
      · rcases refused with h | h | h
        · exact absurd (hf.symm.trans h) (by decide)
        · exact absurd (ha.symm.trans h) (by decide)
        · exact absurd h hl
    · have stands : (s.core.holds.get g).filtered = true ∧ (s.core.holds.get g).rearm = false ∧
          s.weather.level ≠ .closeAll := by simpa using refused
      obtain ⟨filtered, unarmed, below⟩ := stands
      rw [tryRelease_releases _ _ _ (by rw [hold]) (by rw [hold]; exact (requested_iff _).2 ⟨filtered, unarmed⟩) below,
        enterReleasing_holds, PerSegment.get_set_same, hold]
      exact ⟨rfl, enterReleasing_walkTriggered _ _ _ rfl, fun h => absurd h refused, fun _ _ _ => rfl⟩

end

section
/-! SUPPORT. The reply to an ENROLL, by the opening's state, the answer and the ability it reports; the statement on
ability checks. -/

namespace Sys2Proof.Machine

/-! ### The ability checks (R134) -/

/-- R134's checks in order. -/
theorem refusalOf_spec (kind : Kind) (a : AbilityReport) :
    (a.kind ≠ kind → refusalOf kind a = some .kindMismatch) ∧
    (a.kind = kind → (a.rated.toNat = 0 ∨ 60 < a.rated.toNat) → refusalOf kind a = some .rating) ∧
    (a.kind = kind → a.rated.toNat ≠ 0 → a.rated.toNat ≤ 60 → a.stroke.toNat < 5 → refusalOf kind a = some .rating) ∧
    (a.kind = kind → a.rated.toNat ≠ 0 → a.rated.toNat ≤ 60 → 5 ≤ a.stroke.toNat → refusalOf kind a = none) := by
  have rated (h0 : a.rated.toNat ≠ 0) (h1 : a.rated.toNat ≤ 60) : ¬ (a.rated.toNat = 0 ∨ 60 < a.rated.toNat) := by
    omega
  unfold refusalOf
  refine ⟨fun hk => if_pos hk, fun hk hr => ?_, fun hk h0 h1 hs => ?_, fun hk h0 h1 hs => ?_⟩
  · rw [if_neg fun differs => differs hk, if_pos hr]
  · rw [if_neg fun differs => differs hk, if_neg (rated h0 h1), if_pos hs]
  · rw [if_neg fun differs => differs hk, if_neg (rated h0 h1), if_neg (Nat.not_lt.2 hs)]

/-! ### Records after the reply to an ENROLL (R8, R10, R133 to R135) -/

/-- A record with an accepted ability and the position and lock that came with it, its re-probe over (log entry 48). -/
def Live.enrolled (a : AbilityReport) (r : NodeReply) (l : Live) : Live :=
  { l with ability := some (acceptedAbility a), reProbe := none, reProbeHeld := false
           locked := if a.lockContact = true then r.locked.or l.locked else none
           position := storedPosition (some (acceptedAbility a)) r.position }

/-- A record without ability and lock, at the position a refused ENROLL reports. -/
def Live.unfit (r : NodeReply) (l : Live) : Live :=
  { l with ability := none, locked := none, position := storedPosition none r.position }

/-- A record with the re-probe timer begun where the opening is UNENROLLED or LOST (R129, R133). -/
def Live.retried (now : Nat) (l : Live) : Live :=
  { l with reProbe := if l.state = .unenrolled ∨ l.state = .lost then some ⟨now, 10000⟩ else l.reProbe }

section Enroll

variable (e : Env) (o : OpeningId) (c : Core)

/-- When the reply to an ENROLL stores position and lock alone (R135). -/
theorem enrollTooLate_iff : c.enrollTooLate o = true ↔
    (c.live o).state = .driving ∨ (c.live o).state = .stopping ∨ (c.live o).state = .absent ∨
      (c.live o).state = .faulted ∨ ((c.live o).state = .lost ∧ c.orphaned o = true) := by
  unfold Core.enrollTooLate
  cases (c.live o).state <;> simp

/-- A core whose opening has left the resync list where the end of its ENROLL takes it off (R136, log entry 18). -/
def Core.delisted (off : Bool) : Core := if off then c.leaveList e o else c

variable (off : Bool)

@[simp] theorem live_delisted (q : OpeningId) : (c.delisted e o off).live q = c.live q := by
  cases off <;> rfl

@[simp] theorem delisted_resolveSet : (c.delisted e o off).resolveSet = c.resolveSet := by cases off <;> rfl

theorem line_delisted : LineKept c (c.delisted e o off) := by
  cases off with
  | false => exact .refl c
  | true => exact line_leaveList e o c

theorem pendingOf_delisted (q : OpeningId) (k : Nat) : (c.delisted e o off).pendingOf e q k = c.pendingOf e q k := by
  cases off with
  | false => rfl
  | true => exact pendingOf_congr _ _ _ _ _ (requests_leaveList e c o _)

theorem resync_delisted (h : off = true) : o ∉ ((c.delisted e o off).segments.get (e.segment o)).resync := by
  simp [Core.delisted, h, Core.leaveList]

end Enroll

/-- What takes an opening off the list at the end of its ENROLL (R136, log entry 18). -/
def takesOff (pass alone : Bool) (r : NodeReply) : Bool := pass || (alone && decide (r.answer = .nak))

section Replies

variable (e : Env) (o : OpeningId) (pass alone : Bool) (r : NodeReply) (c : Core)

theorem enrollReply_late (h : c.enrollTooLate o = true) :
    c.enrollReply e o pass alone r = c.storeReport e o r.position r.locked := by
  rw [Core.enrollReply, if_pos h]

theorem enrollReply_nak (h : c.enrollTooLate o = false) (ha : r.answer = .nak) :
    c.enrollReply e o pass alone r = (c.delisted e o (takesOff pass alone r)).enrollRefusedNow e o r := by
  simp only [Core.enrollReply, h, Bool.false_eq_true, if_false, ha, Core.delisted, takesOff]

theorem enrollReply_refused (a : AbilityReport) (reason : FaultReason) (h : c.enrollTooLate o = false)
    (ha : r.answer = .ack) (hb : r.ability = some a) (hw : refusalOf (e.com o).kind a = some reason) :
    c.enrollReply e o pass alone r = (c.delisted e o (takesOff pass alone r)).refuseEnroll e o reason r := by
  simp only [Core.enrollReply, h, Bool.false_eq_true, if_false, ha, hb, hw, Core.delisted, takesOff]

theorem enrollReply_accepted (a : AbilityReport) (h : c.enrollTooLate o = false) (ha : r.answer = .ack)
    (hb : r.ability = some a) (hw : refusalOf (e.com o).kind a = none) :
    c.enrollReply e o pass alone r = (c.delisted e o (takesOff pass alone r)).acceptEnroll e o a r := by
  simp only [Core.enrollReply, h, Bool.false_eq_true, if_false, ha, hb, hw, Core.delisted, takesOff]

/-- A reply that is not too late is a refusal by the node, one by R134's checks, or accepted. -/
theorem enrollReply_cases (P : Core → Prop) (h : c.enrollTooLate o = false)
    (nak : P ((c.delisted e o (takesOff pass alone r)).enrollRefusedNow e o r))
    (refused : ∀ reason : FaultReason, P ((c.delisted e o (takesOff pass alone r)).refuseEnroll e o reason r))
    (accepted : ∀ a : AbilityReport, P ((c.delisted e o (takesOff pass alone r)).acceptEnroll e o a r)) :
    P (c.enrollReply e o pass alone r) := by
  rw [Core.enrollReply, if_neg (by simp [h])]
  dsimp only
  split
  · split
    · exact refused _
    · exact accepted _
  · exact nak

end Replies

/-! ### What each reply to an ENROLL does, no DRIVE being unsent -/

/-- One core has the line of another, and no opening on a resync list that the other has not. -/
structure ListShrinks (c d : Core) : Prop where
  line : LineKept c d
  resync : ∀ (g : Segment) (q : OpeningId), q ∈ (d.segments.get g).resync → q ∈ (c.segments.get g).resync

theorem ListShrinks.of_segments {c d : Core} (h : d.segments = c.segments) : ListShrinks c d :=
  ⟨.of_segments h, fun g q hq => by rwa [← h]⟩

/-- Two changes of a record that make the same of it. -/
theorem setLive_congr (c : Core) (o : OpeningId) (f g : Live → Live) (h : f (c.live o) = g (c.live o)) :
    c.setLive o f = c.setLive o g := by
  unfold Core.setLive; rw [h]

section Quiet

variable (e : Env) (o : OpeningId) (r : NodeReply) (c : Core)

/-- A NAK stores position and lock, and an UNENROLLED or LOST opening is tried again in 10 s (R129, R133). -/
theorem enrollRefusedNow_quiet (hp : c.pendingOf e o 1 = none) :
    c.enrollRefusedNow e o r = c.setLive o fun l => (l.reported r).retried e.now := by
  have again (h : (c.live o).state = .unenrolled ∨ (c.live o).state = .lost) :
      (c.setLive o (Live.reported r)).startReProbe e o = c.setLive o fun l => (l.reported r).retried e.now := by
    rw [Core.startReProbe, setLive_setLive]
    exact setLive_congr _ _ _ _ (by simp [Live.retried, Live.reported, h, startTimer, reProbeMs])
  have once (h : ¬ ((c.live o).state = .unenrolled ∨ (c.live o).state = .lost)) :
      c.setLive o (Live.reported r) = c.setLive o fun l => (l.reported r).retried e.now :=
    setLive_congr _ _ _ _ (by simp [Live.retried, Live.reported, h])
  unfold Core.enrollRefusedNow
  rw [storeReport_quiet _ _ _ _ _ hp]
  simp only [live_setLive_same]
  split
  · next hs => exact again (.inl hs)
  · next hs => exact again (.inr hs)
  · next hu hl => exact once fun h => h.elim hu hl

/-- A refused ability makes the opening FAULTED (R19, R134). -/
theorem refuseEnroll_quiet (reason : FaultReason) (hp : c.pendingOf e o 1 = none) :
    c.refuseEnroll e o reason r = ((c.setLive o (Live.unfit r)).removeJob o).enterFaulted e o reason := by
  unfold Core.refuseEnroll
  rw [storeReport_quiet _ _ _ _ _ (by exact hp), setLive_setLive]
  rfl

/-- An accepted ability is stored with the position and lock that came with it (R5, R8, R10). -/
theorem storeReport_enrolled (a : AbilityReport) (hp : c.pendingOf e o 1 = none) :
    (c.setLive o fun l =>
      { l with ability := some (acceptedAbility a), locked := if a.lockContact then l.locked else none, reProbe := none,
               reProbeHeld := false }).storeReport e o r.position r.locked = c.setLive o (Live.enrolled a r) := by
  rw [storeReport_quiet _ _ _ _ _ (by exact hp), setLive_setLive]
  congr 1
  funext l
  cases hc : a.lockContact <;> cases hl : r.locked <;> simp [Live.enrolled, storedLock, acceptedAbility, hc, hl]

/-- An UNENROLLED or LOST opening becomes IDLE once its ability is accepted (R129, R134). -/
theorem acceptEnroll_idles (a : AbilityReport) (hp : c.pendingOf e o 1 = none)
    (hs : (c.live o).state = .unenrolled ∨ (c.live o).state = .lost) :
    c.acceptEnroll e o a r = (c.setLive o (Live.enrolled a r)).enterIdle o := by
  simp only [Core.acceptEnroll, storeReport_enrolled e o r c a hp, live_setLive_same, Live.enrolled]
  rcases hs with hs | hs <;> simp only [hs]

/-- An IDLE or QUEUED opening is resolved again once its ability is accepted (R135). -/
theorem acceptEnroll_joins (a : AbilityReport) (hp : c.pendingOf e o 1 = none)
    (hs : (c.live o).state = .idle ∨ (c.live o).state = .queued) :
    c.acceptEnroll e o a r = (c.setLive o (Live.enrolled a r)).join o := by
  simp only [Core.acceptEnroll, storeReport_enrolled e o r c a hp, live_setLive_same, Live.enrolled]
  rcases hs with hs | hs <;> simp only [hs]

/-- A RESTING, DWELL or LOCKED_OUT opening stays so once its ability is accepted (R135). -/
theorem acceptEnroll_stays (a : AbilityReport) (hp : c.pendingOf e o 1 = none)
    (hs : (c.live o).state = .resting ∨ (c.live o).state = .dwell ∨ (c.live o).state = .lockedOut) :
    c.acceptEnroll e o a r = c.setLive o (Live.enrolled a r) := by
  simp only [Core.acceptEnroll, storeReport_enrolled e o r c a hp, live_setLive_same, Live.enrolled]
  rcases hs with hs | hs | hs <;> simp only [hs]

theorem acceptEnroll_shrinks (a : AbilityReport) (hp : c.pendingOf e o 1 = none) :
    ListShrinks c (c.acceptEnroll e o a r) := by
  apply ListShrinks.of_segments
  simp only [Core.acceptEnroll, storeReport_enrolled e o r c a hp]
  split <;> rfl

theorem enterFaulted_shrinks (reason : FaultReason) : ListShrinks c (c.enterFaulted e o reason) := by
  refine ⟨line_enterFaulted e o c reason, fun g q hq => ?_⟩
  simp only [Core.enterFaulted, Core.withdraw, Core.hand_segments, Core.setLive_segments, segments_get_setSegment] at hq
  split at hq
  · next hg => subst hg; simpa using ((mem_dropOpening _ _ _).1 hq).1
  · exact hq

theorem refuseEnroll_shrinks (reason : FaultReason) (hp : c.pendingOf e o 1 = none) :
    ListShrinks c (c.refuseEnroll e o reason r) := by
  rw [refuseEnroll_quiet e o r c reason hp]
  have faulted := enterFaulted_shrinks e o ((c.setLive o (Live.unfit r)).removeJob o) reason
  exact ⟨.from_segments faulted.line rfl, faulted.resync⟩

theorem enrollRefusedNow_shrinks (hp : c.pendingOf e o 1 = none) : ListShrinks c (c.enrollRefusedNow e o r) := by
  rw [enrollRefusedNow_quiet e o r c hp]
  exact .of_segments rfl

/-- Every reply to an ENROLL leaves the line, and takes openings off the resync lists only. -/
theorem enrollReply_shrinks (pass alone : Bool) (h : c.enrollTooLate o = false) (hp : c.pendingOf e o 1 = none) :
    ListShrinks (c.delisted e o (takesOff pass alone r)) (c.enrollReply e o pass alone r) := by
  have quiet := (pendingOf_delisted e o c (takesOff pass alone r) o 1).trans hp
  exact enrollReply_cases e o pass alone r c _ h (enrollRefusedNow_shrinks e o r _ quiet)
    (fun reason => refuseEnroll_shrinks e o r _ reason quiet) fun a => acceptEnroll_shrinks e o r _ a quiet

theorem line_enrollReply (pass alone : Bool) (hp : c.pendingOf e o 1 = none) :
    LineKept c (c.enrollReply e o pass alone r) := by
  cases h : c.enrollTooLate o with
  | true =>
    rw [enrollReply_late e o pass alone r c h, storeReport_quiet e o r.position r.locked c hp]
    exact .of_segments rfl
  | false => exact (line_delisted e o c _).trans (enrollReply_shrinks e o r c pass alone h hp).line

end Quiet

/-- The reply to an ENROLL is taken where its transaction ended (R121). -/
theorem takeReply_enroll (e : Env) (g : Segment) (t : Transaction) (r : NodeReply) (c : Core)
    (pass single probe : Bool) (hb : t.body = .enroll pass single probe) :
    c.takeReply e g t r = (c.ended e g t.address 0).enrollReply e t.opening pass (single || probe) r := by
  simp only [Core.takeReply, hb]
  rfl

/-- A reply fits an ENROLL when it carries an ability exactly in an ACK (R121). -/
theorem replyFits_enroll (r : NodeReply) (pass single probe : Bool) (h : r.ability.isSome = true ↔ r.answer = .ack) :
    replyFits r (.enroll pass single probe) = true := by
  cases ha : r.answer <;> simp_all [replyFits, RequestBody.kind]

/-- An opening made FAULTED by R134 keeps no job and no request, and every port is told (R19, log entry 33). -/
theorem refuseEnroll_faults (e : Env) (o : OpeningId) (r : NodeReply) (c : Core) (reason : FaultReason)
    (hp : c.pendingOf e o 1 = none) :
    (c.refuseEnroll e o reason r).live o = ((c.live o).unfit r).faultedFor reason ∧
      (∀ j ∈ (c.refuseEnroll e o reason r).queue, j.opening ≠ o) ∧
      (∀ q ∈ ((c.refuseEnroll e o reason r).segments.get (e.segment o)).requests, q.opening ≠ o) ∧
      ∀ p : Role, hasKind ((c.refuseEnroll e o reason r).notices.ports.get p).latch .openingFaulted = true := by
  rw [refuseEnroll_quiet e o r c reason hp]
  refine ⟨by simp, fun j hj => ((mem_dropJob o _ j).1 hj).2, fun q hq ho => ?_,
    fun p => hand_latches _ .openingFaulted p rfl⟩
  have kept : q ∈ ((((c.setLive o (Live.unfit r)).removeJob o).withdraw e o RequestBody.any).segments.get
      (e.segment o)).requests := by simpa [Core.enterFaulted] using hq
  simpa [RequestBody.any] using ((mem_requests_withdraw e o _ _ _ q).1 kept).2 rfl ho

end Sys2Proof.Machine

open Sys2Proof Sys2Proof.Machine

/-- Settles O44: R134's checks, and the reply to an ENROLL where its transaction ended, too late or by answer, ability
and state. -/
theorem abilityChecksInOrder : Obligations.AbilityChecksInOrder := by
  refine ⟨refusalOf_spec, fun g s t r o pass single probe l stored hr ht hb hl ha ho hg hp hlive hstored hab => ?_⟩
  subst ho hg hlive hstored
  have fits : replyFits r t.body = true := hb ▸ replyFits_enroll r pass single probe hab
  refine ⟨_, exec_nodeReply_taken _ s t r hr ht hl ha fits, ?_⟩
  rw [State.within_core, takeReply_enroll _ _ _ _ _ pass single probe hb]
  have ended := ended_segment s.env (s.env.segment t.opening) t.address 0 s.core
  have unsent := (pendingOf_ended s.env (s.env.segment t.opening) t.address 0 s.core t.opening 1).trans hp
  have tooLate := enrollTooLate_iff t.opening (s.core.ended s.env (s.env.segment t.opening) t.address 0)
  have line := line_enrollReply s.env t.opening r _ pass (single || probe) unsent
  refine ⟨(line.inFlight _).trans (by rw [ended]), by rw [line.counts, ended, look_put_same], fun late => ?late,
    fun driving stopping absent faulted lost => ?_⟩
  case late =>
    rw [enrollReply_late _ _ _ _ _ _ (tooLate.2 late), storeReport_ended _ _ _ _ _ hp]
    exact ⟨live_told_same _ _ _ _ _, rfl, rfl⟩
  have inTime := Bool.eq_false_iff.2 fun h => by
    rcases tooLate.1 h with h | h | h | h | ⟨h, orphaned⟩
    · exact driving h
    · exact stopping h
    · exact absent h
    · exact faulted h
    · exact absurd (orphaned.symm.trans (lost h)) (by decide)
  have shrinks := enrollReply_shrinks s.env t.opening r _ pass (single || probe) inTime unsent
  have quiet := (pendingOf_delisted s.env t.opening _ (takesOff pass (single || probe) r) t.opening 1).trans unsent
  refine ⟨fun hpass listed => ?pass, fun nak => ?nak,
    fun a b now hra hb' hnow => ⟨fun fit => ?fit, fun reason unfit => ?unfit⟩⟩
  case pass => exact resync_delisted _ _ _ _ (by simp [takesOff, hpass]) (shrinks.resync _ _ listed)
  case nak =>
    rw [enrollReply_nak _ _ _ _ _ _ inTime nak, enrollRefusedNow_quiet _ _ _ _ quiet, live_setLive_same, live_delisted,
      live_ended]
    rfl
  case fit =>
    have ack := hab.1 (by simp [hra])
    subst hb' hnow
    rw [enrollReply_accepted _ _ _ _ _ _ a inTime ack hra fit]
    refine ⟨fun hs => ?_, fun hs => ?_, fun hs => ?_⟩
    · rw [acceptEnroll_idles _ _ _ _ a quiet (by simpa using hs)]
      exact ⟨by rw [live_enterIdle, live_setLive_same, live_delisted, live_ended]; rfl, by simp⟩
    · rw [acceptEnroll_joins _ _ _ _ a quiet (by simpa using hs)]
      exact ⟨by rw [live_join, live_setLive_same, live_delisted, live_ended]; rfl, by simp⟩
    · rw [acceptEnroll_stays _ _ _ _ a quiet (by simpa using hs)]
      exact ⟨by rw [live_setLive_same, live_delisted, live_ended]; rfl, by simp⟩
  case unfit =>
    have ack := hab.1 (by simp [hra])
    rw [enrollReply_refused _ _ _ _ _ _ a reason inTime ack hra unfit]
    obtain ⟨live, queue, requests, latched⟩ := refuseEnroll_faults s.env t.opening r _ reason quiet
    rw [live, live_delisted, live_ended]
    exact ⟨rfl, rfl, rfl, rfl, rfl, rfl, rfl, rfl, queue, requests, latched⟩

end

section
/-! SUPPORT. The Hold Controllers through a whole event: what changes a hold keeps its outputs and timers in agreement
with its state, and every other operation leaves the holds; the statement on them. -/

namespace Sys2Proof.Machine

/-! ### One hold (R142, R148 to R152) -/

section OneHold

variable {h : Hold}

/-- A Hold Controller as start-up leaves it (R142). -/
theorem wf_fresh (raw : Bool) : (Hold.fresh raw).wf := by simp [Hold.wf, Hold.fresh]

/-- Between OWNED and RELEASING no output and no timer that goes with a state changes (R145, R147). -/
theorem Hold.wf.moves (w : h.wf) (v : HoldState) (unlent : h.state ≠ .granted) (unreturned : h.state ≠ .returning)
    (hv : v ≠ .granted) : ({ h with state := v } : Hold).wf := by
  obtain ⟨grant, drivers, reclaim, reclaimTimer, returningTimer⟩ := w
  exact ⟨by simp [grant, unlent, hv], by simp [drivers, unlent, hv], fun x => absurd (reclaim x) unlent,
    fun x => absurd (reclaimTimer x) unlent, fun x => absurd (returningTimer x) unreturned⟩

/-- The return ends with its timer (R152). -/
theorem Hold.wf.returns (w : h.wf) (hs : h.state = .returning) :
    ({ h with state := .owned, returningTimer := none } : Hold).wf := by
  obtain ⟨grant, drivers, reclaim, reclaimTimer, _⟩ := w
  simp only [hs, reduceCtorEq, iff_false, imp_false] at grant drivers reclaim reclaimTimer
  exact ⟨by simp [grant], by simp [drivers], fun x => absurd x reclaim, fun x => absurd x reclaimTimer, by simp⟩

/-- A grant asserts HOLDGRANT and turns the drivers off (R148). -/
theorem Hold.wf.grants (w : h.wf) (hs : h.state = .releasing) :
    ({ h with state := .granted, grantLine := true, driversOff := true } : Hold).wf := by
  obtain ⟨_, _, _, _, returningTimer⟩ := w
  exact ⟨by simp, by simp, fun _ => rfl, fun _ => rfl, fun x => by simp [returningTimer x] at hs⟩

/-- The entry to RETURNING takes back every output and begins its timer (R151, R152). -/
theorem wf_returning (h : Hold) (now : Nat) :
    ({ h with state := .returning, grantLine := false, reclaimLine := false, reclaimTimer := none, driversOff := false,
              returningTimer := startTimer now returningMs } : Hold).wf := by
  simp [Hold.wf]

/-- RECLAIM follows the job count while GRANTED (R149). -/
theorem Hold.wf.reclaims (w : h.wf) (jobs : Bool) :
    ({ h with reclaimLine := decide (h.state = .granted) && jobs } : Hold).wf := by
  obtain ⟨grant, drivers, _, reclaimTimer, returningTimer⟩ := w
  exact ⟨grant, drivers, fun x => by simp at x; exact x.1, reclaimTimer, returningTimer⟩

/-- The reclaim timer runs in GRANTED alone (R150). -/
theorem Hold.wf.timed (w : h.wf) (t : Option Timer) (ht : t.isSome = true → h.state = .granted) :
    ({ h with reclaimTimer := t } : Hold).wf := by
  obtain ⟨grant, drivers, reclaim, _, returningTimer⟩ := w
  exact ⟨grant, drivers, reclaim, ht, returningTimer⟩

end OneHold

/-! ### The operations of the Hold Controllers (R143 to R152) -/

/-- Both holds' outputs and timers go with their states. -/
def Core.holdsWf (c : Core) : Prop := ∀ g : Segment, (c.holds.get g).wf

theorem holdsWf_of_eq {c d : Core} (h : d.holds = c.holds) (w : c.holdsWf) : d.holdsWf := by
  unfold Core.holdsWf
  rw [h]
  exact w

section Holds

variable (e : Env) (g : Segment) {c : Core}

/-- One hold replaced by one that agrees with its state. -/
theorem holdsWf_of_set {d : Core} (x : Hold) (w : c.holdsWf) (hx : x.wf) (h : d.holds = c.holds.set g x) :
    d.holdsWf := by
  intro p
  rw [h]
  by_cases hp : p = g
  · rw [hp, PerSegment.get_set_same]; exact hx
  · rw [PerSegment.get_set_ne _ _ _ _ hp]; exact w p

theorem holdsWf_setHold (f : Hold → Hold) (w : c.holdsWf) (hf : (f (c.holds.get g)).wf) : (c.setHold g f).holdsWf :=
  holdsWf_of_set g _ w hf rfl

theorem tryRelease_holdsWf (w : c.holdsWf) : (c.tryRelease e g).holdsWf := by
  unfold Core.tryRelease
  dsimp only
  split
  · next h =>
    have begun : (c.setHold g fun x => { x with state := .releasing }).holdsWf :=
      holdsWf_setHold g _ w ((w g).moves .releasing (by simp [h.1]) (by simp [h.1]) (by simp))
    exact holdsWf_of_eq (enterReleasing_holds e g c) begun
  · exact w

/-- An entry to OWNED without a hold (R147). -/
theorem owned_holdsWf (w : c.holdsWf) (hs : (c.holds.get g).state = .releasing) :
    (c.setHold g fun x => { x with state := .owned }).holdsWf :=
  holdsWf_setHold g _ w ((w g).moves .owned (by simp [hs]) (by simp [hs]) (by simp))

theorem reclaimOwned_holdsWf (w : c.holdsWf) (hs : (c.holds.get g).state = .releasing) :
    (c.reclaimOwned e g).holdsWf :=
  tryRelease_holdsWf e g (holdsWf_of_eq (startDuePass_holds e g _) (owned_holdsWf g w hs))

theorem grant_holdsWf (w : c.holdsWf) (hs : (c.holds.get g).state = .releasing) : (c.grant e g).holdsWf :=
  holdsWf_of_set g _ w ((w g).grants hs) (by simp [Core.grant])

theorem finishRelease_holdsWf (w : c.holdsWf) : (c.finishRelease e g).holdsWf := by
  unfold Core.finishRelease
  dsimp only
  split
  · next h =>
    split
    · split
      · exact grant_holdsWf e g w h.1
      · exact w
    · exact reclaimOwned_holdsWf e g w h.1
  · exact w

theorem enterReturning_holdsWf (reason : HoldReason) (w : c.holdsWf) : (c.enterReturning e g reason).holdsWf :=
  holdsWf_of_set g _ w (wf_returning (c.holds.get g) e.now) rfl

theorem revoke_holdsWf (w : c.holdsWf) : (c.revoke e g).holdsWf :=
  enterReturning_holdsWf e g .revoked (holdsWf_setHold g _ w (w g))

theorem holdreqSettles_holdsWf (w : c.holdsWf) : (c.holdreqSettles e g).holdsWf := by
  unfold Core.holdreqSettles
  split
  · unfold Core.holdDeasserted
    have taken := holdsWf_setHold g (fun x => { x with filtered := false, filterTimer := none, rearm := false }) w (w g)
    dsimp only
    split
    · exact enterReturning_holdsWf e g .released taken
    · exact taken
  · exact tryRelease_holdsWf e g (holdsWf_setHold g _ w (w g))

theorem returned_holdsWf (w : c.holdsWf) (hs : (c.holds.get g).state = .returning) : (c.returned e g).holdsWf := by
  have owned : (c.reowned e g).holdsWf := holdsWf_of_set g _ w ((w g).returns hs) rfl
  rw [returned_eq]
  exact tryRelease_holdsWf e g (holdsWf_of_eq (triggerPass_holds e g _) owned)

theorem holdAtCloseAll_holdsWf (w : c.holdsWf) : (c.holdAtCloseAll e g).holdsWf := by
  unfold Core.holdAtCloseAll
  split
  · exact w
  · next hs => exact holdsWf_of_eq (startDuePass_holds e g _) (owned_holdsWf g w hs)
  · next hs => exact holdsWf_setHold g _ w ((w g).timed _ fun _ => hs)
  · exact w

/-- A running reclaim timer under a new length still runs in GRANTED alone (R150). -/
theorem retimed_holdsWf (length : Nat) (w : c.holdsWf) :
    (c.setHold g fun x => { x with reclaimTimer := retime length (c.holds.get g).reclaimTimer }).holdsWf := by
  obtain ⟨_, _, _, running, _⟩ := w g
  exact holdsWf_setHold g _ w ((w g).timed _ (by simpa [retime] using running))

theorem holdBelowCloseAll_holdsWf (w : c.holdsWf) : (c.holdBelowCloseAll e g).holdsWf := by
  unfold Core.holdBelowCloseAll
  split
  · exact holdsWf_setHold g _ w ((w g).timed none (by simp))
  · exact tryRelease_holdsWf e g w

theorem driveReclaim_holdsWf (w : c.holdsWf) : (c.driveReclaim g).holdsWf :=
  holdsWf_setHold g _ w ((w g).reclaims _)

end Holds

/-! ### The end of an event (log entry 12) -/

@[simp] theorem noteBuilding_holds (e : Env) (c : Core) : (c.noteBuilding e).holds = c.holds := by
  unfold Core.noteBuilding
  dsimp only
  split <;> rfl

theorem settle_holdsWf (e : Env) {c : Core} (w : c.holdsWf) : (c.settle e).holdsWf := by
  have tidied : (((c.tidyRequests e .seg0).tidyRequests e .seg1).tidyFollow e).holdsWf := w
  have released := finishRelease_holdsWf e .seg1 (finishRelease_holdsWf e .seg0 tidied)
  have kept (d : Core) : ((((d.passUpkeep e .seg0).passUpkeep e .seg1).arbitrate e .seg0).arbitrate e .seg1).holds =
      d.holds := by simp
  have driven := driveReclaim_holdsWf .seg1 (driveReclaim_holdsWf .seg0 (holdsWf_of_eq (kept _) released))
  unfold Core.settle
  exact holdsWf_of_eq (noteBuilding_holds e _) driven

/-! ### The Weather Assessor -/

section Weather

variable (e : Env) {k : Sky}

@[simp] theorem setLatch_holds (o : OpeningId) (k : Sky) : (k.setLatch e o).core.holds = k.core.holds := by
  unfold Sky.setLatch
  split
  · rfl
  · exact recheckDrive_holds _ o _

@[simp] theorem setLatches_holds (k : Sky) : (k.setLatches e).core.holds = k.core.holds :=
  List.foldlRecOn (motive := fun x => x.core.holds = k.core.holds) _ _ rfl fun x hx o _ =>
    (setLatch_holds e o x).trans hx

@[simp] theorem writeLatch_holds (o : OpeningId) (present : Bool) (k : Sky) :
    (k.writeLatch e o present).core.holds = k.core.holds :=
  writeLatch_core e o k present (fun c => c.holds = k.core.holds) rfl rfl fun d _ => recheckDrive_holds d o _

/-- A change of the level before the holds meet it: LEVEL_CHANGED, the set of openings and the latches (R65). -/
def Sky.levelled (e : Env) (new : Level) (k : Sky) : Sky :=
  let old := k.weather.level
  let k := { weather := { k.weather with level := new }, core := k.core.hand .levelChanged : Sky }
  let k := if decide (old = .watch) != decide (new = .watch) then { k with core := k.core.joinAll e.present } else k
  if old.height < new.height ∧ 2 ≤ new.height then k.setLatches e
  else if old = .closeExposed ∧ new = .watch then { k with weather := k.weather.clearLatches }
  else k

theorem levelled_holds (new : Level) (k : Sky) : (k.levelled e new).core.holds = k.core.holds := by
  have joined (x : Sky) (b : Bool) : (if b then { x with core := x.core.joinAll e.present } else x).core.holds =
      x.core.holds := by cases b <;> simp
  unfold Sky.levelled
  dsimp only
  split
  · exact (setLatches_holds e _).trans (joined _ _)
  · split
    · exact joined _ _
    · exact joined _ _

theorem changeLevel_eq (new : Level) (k : Sky) : k.changeLevel e new =
    if new = .closeAll then
      { k.levelled e new with
        core := ((k.levelled e new).core.holdAtCloseAll (e.under (k.levelled e new).weather) .seg0).holdAtCloseAll
          (e.under (k.levelled e new).weather) .seg1 }
    else if k.weather.level = .closeAll then
      { k.levelled e new with
        core := ((k.levelled e new).core.holdBelowCloseAll (e.under (k.levelled e new).weather) .seg0).holdBelowCloseAll
          (e.under (k.levelled e new).weather) .seg1 }
    else k.levelled e new := rfl

theorem changeLevel_holdsWf (new : Level) (w : k.core.holdsWf) : (k.changeLevel e new).core.holdsWf := by
  have levelled : (k.levelled e new).core.holdsWf := holdsWf_of_eq (levelled_holds e new k) w
  rw [changeLevel_eq]
  split
  · exact holdAtCloseAll_holdsWf _ .seg1 (holdAtCloseAll_holdsWf _ .seg0 levelled)
  · split
    · exact holdBelowCloseAll_holdsWf _ .seg1 (holdBelowCloseAll_holdsWf _ .seg0 levelled)
    · exact levelled

theorem evaluate_holdsWf (w : k.core.holdsWf) : (k.evaluate e).core.holdsWf := by
  unfold Sky.evaluate
  dsimp only
  split
  · exact changeLevel_holdsWf e _ w
  · exact w

theorem dryOutEnds_holdsWf (w : k.core.holdsWf) : (k.dryOutEnds e).core.holdsWf := evaluate_holdsWf e w

theorem standDownEnds_holdsWf (w : k.core.holdsWf) : (k.standDownEnds e).core.holdsWf :=
  evaluate_holdsWf e (changeLevel_holdsWf e _ w)

theorem rainFilterEnds_holdsWf (x : RainContact) (w : k.core.holdsWf) : (k.rainFilterEnds e x).core.holdsWf := by
  unfold Sky.rainFilterEnds Sky.judgeRain
  dsimp only
  split
  · split
    · exact evaluate_holdsWf e w
    · exact w
  · split <;> exact w

theorem deriveArc_holdsWf (w : k.core.holdsWf) : (k.deriveArc e).core.holdsWf := by
  unfold Sky.deriveArc
  dsimp only
  split
  · exact holdsWf_of_eq (setLatches_holds e _) w
  · exact w

theorem vaneReads_holdsWf (r : Sector) (w : k.core.holdsWf) : (k.vaneReads e r).core.holdsWf := deriveArc_holdsWf e w

theorem sectorSettles_holdsWf (w : k.core.holdsWf) : (k.sectorSettles e).core.holdsWf := by
  unfold Sky.sectorSettles
  split
  · exact w
  · exact deriveArc_holdsWf e w

theorem placeAdvisory_holdsWf (kind : AdvisoryKind) (lead duration : Nat) (w : k.core.holdsWf) :
    (k.placeAdvisory e kind lead duration).core.holdsWf := evaluate_holdsWf e w

theorem cancelAdvisory_holdsWf (w : k.core.holdsWf) : (k.cancelAdvisory e).core.holdsWf := evaluate_holdsWf e w

theorem warmUpEnds_holdsWf (w : k.core.holdsWf) : (k.warmUpEnds e).core.holdsWf := evaluate_holdsWf e w

theorem gustEnds_holdsWf (w : k.core.holdsWf) : (k.gustEnds e).core.holdsWf := evaluate_holdsWf e w

theorem minuteMark_holdsWf (w : k.core.holdsWf) : (k.minuteMark e).core.holdsWf := by
  unfold Sky.minuteMark
  split
  · exact w
  · split
    · exact evaluate_holdsWf e w
    · exact evaluate_holdsWf e w

end Weather

/-! ### A part out of reset -/

/-- The part is out of reset and its holds' outputs and timers go with their states. -/
def State.awakeWf (s : State) : Prop := s.inReset = false ∧ s.core.holdsWf

theorem awakeWf_iff {s : State} (h : s.inReset = false) : s.awakeWf ↔ HoldsWf s := by
  simp [State.awakeWf, HoldsWf, Core.holdsWf, h]

section Awake

variable {s : State}

theorem State.awakeWf.holdsWf (w : s.awakeWf) : HoldsWf s := (awakeWf_iff w.1).1 w

/-- A change that keeps the phase and the holds. -/
theorem State.awakeWf.of_eq {t : State} (w : s.awakeWf) (hp : t.phase = s.phase) (hh : t.core.holds = s.core.holds) :
    t.awakeWf :=
  ⟨by unfold State.inReset; rw [hp]; exact w.1, holdsWf_of_eq hh w.2⟩

theorem State.awakeWf.within (w : s.awakeWf) (f : Env → Core → Core)
    (hf : ∀ e : Env, s.core.holdsWf → (f e s.core).holdsWf) : (s.within f).awakeWf := ⟨w.1, hf _ w.2⟩

theorem State.awakeWf.onSky (w : s.awakeWf) (f : Env → Sky → Sky)
    (hf : ∀ (e : Env) (k : Sky), k.core.holdsWf → (f e k).core.holdsWf) : (s.onSky f).awakeWf := ⟨w.1, hf _ _ w.2⟩

theorem State.awakeWf.setWeather (w : s.awakeWf) (x : Weather) : ({ s with weather := x } : State).awakeWf := w

theorem State.awakeWf.settled (w : s.awakeWf) : s.settled.awakeWf :=
  ⟨by unfold State.inReset; rw [State.settled_phase]; exact w.1, by
    rw [State.settled_core]; exact settle_holdsWf _ w.2⟩

end Awake

/-! ### Events and expiries -/

section Events

variable {s : State}

theorem setInputs_holdsWf (x : Inputs) (w : HoldsWf s) : HoldsWf ({ s with inputs := x } : State) := w

theorem unlessHeld_holdsWf (f : State → State) (w : HoldsWf s) (hf : s.awakeWf → HoldsWf (f s)) :
    HoldsWf (s.unlessHeld f) := by
  cases hr : s.inReset with
  | true => rw [unlessHeld_held s f hr]; exact w
  | false => rw [unlessHeld_running s f hr]; exact hf ((awakeWf_iff hr).2 w)

theorem expiry_holdsWf (t : Option Timer) (f : State → State) (w : HoldsWf s)
    (hf : ∀ m : Nat, t.isSome = true → (s.atMoment m).awakeWf → HoldsWf (f (s.atMoment m))) :
    HoldsWf (s.expiry t f) := by
  unfold State.expiry
  refine unlessHeld_holdsWf _ w fun awake => ?_
  cases t with
  | none => exact w
  | some x => exact hf _ rfl awake

theorem coreEvent_holdsWf (f : Env → Core → Core) (w : HoldsWf s) (hf : ∀ e : Env, (f e s.core).holds = s.core.holds) :
    HoldsWf (s.coreEvent f) :=
  unlessHeld_holdsWf _ w fun awake => (awake.within f fun e => holdsWf_of_eq (hf e)).settled.holdsWf

theorem coreExpiry_holdsWf (t : Option Timer) (f : Env → Core → Core) (w : HoldsWf s)
    (hf : ∀ e : Env, t.isSome = true → s.core.holdsWf → (f e s.core).holdsWf) : HoldsWf (s.coreExpiry t f) :=
  expiry_holdsWf t _ w fun _ ht awake =>
    (awake.within f fun e => hf e ht).settled.holdsWf

/-- The expiry of a timer that concerns no hold. -/
theorem coreExpiry_leaves_holdsWf (t : Option Timer) (f : Env → Core → Core) (w : HoldsWf s)
    (hf : ∀ e : Env, (f e s.core).holds = s.core.holds) : HoldsWf (s.coreExpiry t f) :=
  coreExpiry_holdsWf t f w fun e _ => holdsWf_of_eq (hf e)

theorem skyExpiry_holdsWf (t : Option Timer) (f : Env → Sky → Sky) (w : HoldsWf s)
    (hf : ∀ (e : Env) (k : Sky), k.core.holdsWf → (f e k).core.holdsWf) : HoldsWf (s.skyExpiry t f) :=
  expiry_holdsWf t _ w fun _ _ awake => (awake.onSky f hf).settled.holdsWf

end Events

/-! ### The Supply Monitor -/

section Supply

variable {s : State}

theorem judgePause_holds (s : State) : s.judgePause.core.holds = s.core.holds := by
  unfold State.judgePause
  dsimp only
  split <;> rfl

theorem judgePause_awakeWf (w : s.awakeWf) : s.judgePause.awakeWf := w.of_eq rfl (judgePause_holds s)

theorem judgeTrip_awakeWf (w : s.awakeWf) : s.judgeTrip.awakeWf := w

theorem budgetChanged_awakeWf (w : s.awakeWf) : s.budgetChanged.awakeWf := judgeTrip_awakeWf (judgePause_awakeWf w)

theorem enterSupply_awakeWf (new : SupplyState) (w : s.awakeWf) : (s.enterSupply new).awakeWf := by
  refine w.of_eq rfl ?_
  unfold State.enterSupply
  dsimp only [State.within_core]
  split
  · exact supplyNormal_holds _ _ _
  · exact outage_holds _ _
  · rfl
  · rfl

theorem mainsChanges_awakeWf (w : s.awakeWf) : s.mainsChanges.awakeWf := by
  unfold State.mainsChanges
  exact budgetChanged_awakeWf w

theorem tripEnds_awakeWf (w : s.awakeWf) : s.tripEnds.awakeWf := w.of_eq rfl (shed_holds _ _)

theorem judgeSupply_awakeWf (w : s.awakeWf) : s.judgeSupply.awakeWf := by
  unfold State.judgeSupply
  dsimp only
  split
  · exact w
  · exact enterSupply_awakeWf _ w

end Supply

/-! ### Requests -/

section Requests

variable {s : State}

@[simp] theorem removeClaims_holds (s : State) (reason : ExpiryReason) (which : Claim → Bool) :
    (s.removeClaims reason which).core.holds = s.core.holds :=
  foldl_holds _ (fun c x => claimRemoved_holds _ reason x c) _ _

theorem removeClaims_awakeWf (reason : ExpiryReason) (which : Claim → Bool) (w : s.awakeWf) :
    (s.removeClaims reason which).awakeWf := w.of_eq rfl (removeClaims_holds s reason which)

theorem agingSweep_awakeWf (w : s.awakeWf) : s.agingSweep.awakeWf := removeClaims_awakeWf _ _ w

theorem serveReadOpening_awakeWf (p : Role) (b : Byte) (w : s.awakeWf) : (serveReadOpening p b s).1.awakeWf := by
  unfold serveReadOpening
  dsimp only
  split
  · exact w
  · split <;> exact w

/-- A claim placed or refreshed leaves the holds (R30, R31). -/
theorem placeClaim_awakeWf (who : Claimant) (scope : ClaimScope) (position : Nat) (w : s.awakeWf) :
    (s.placeClaim who scope position).1.awakeWf := by
  unfold State.placeClaim
  dsimp only
  split
  · exact w
  · split
    · exact w
    · split
      · refine w.of_eq rfl ?_
        dsimp only
        split
        · exact joinAll_holds _ _
        · rfl
      · split
        · exact w.of_eq rfl (joinAll_holds _ _)
        · exact w

theorem serveClaim_awakeWf (p : Role) (a b x : Byte) (w : s.awakeWf) : (serveClaim p a b x s).1.awakeWf := by
  unfold serveClaim
  split
  · exact w
  · split
    · exact w
    · exact placeClaim_awakeWf _ _ _ w

theorem serveRelease_awakeWf (p : Role) (a b : Byte) (w : s.awakeWf) : (serveRelease p a b s).1.awakeWf := by
  unfold serveRelease
  split
  · exact w
  · split
    · exact w
    · split
      · exact w
      · exact w.of_eq rfl (joinAll_holds _ _)

theorem serveAdvisory_awakeWf (a b : Byte) (d : Word16) (w : s.awakeWf) : (serveAdvisory a b d s).1.awakeWf := by
  have cancelled := (w.onSky Sky.cancelAdvisory fun e _ => cancelAdvisory_holdsWf e).settled
  have placed (kind : AdvisoryKind) := (w.onSky (fun e k => k.placeAdvisory e kind b.toNat d.toNat)
    fun e _ => placeAdvisory_holdsWf e kind b.toNat d.toNat).settled
  unfold serveAdvisory
  split
  · exact w
  · split
    · exact w
    · split
      · exact w
      · split
        · split
          · exact w
          · exact cancelled
        · exact placed _

theorem putStatic_awakeWf (i : Fin 32) (x : StaticEntry) (w : s.awakeWf) : (s.putStatic i x).awakeWf := by
  unfold State.putStatic
  have written : (s.withStatics (put s.work.statics i (some x))).awakeWf := w
  refine (written.within _ fun e => holdsWf_of_eq ?_).settled
  dsimp only
  split
  · exact (recheckAll_holds _ _ _).trans (joinAll_holds _ _)
  · exact joinAll_holds _ _

theorem serveStaticSet_awakeWf (a b k x : Byte) (w : s.awakeWf) : (serveStaticSet a b k x s).1.awakeWf := by
  have put (i : Fin 32) (x : StaticEntry) : (s.putStatic i x).awakeWf := putStatic_awakeWf i x w
  have set (x : StaticEntry) : (s.setStatic x).1.awakeWf := by
    unfold State.setStatic
    split
    · exact w
    · split
      · exact put _ _
      · split
        · exact put _ _
        · exact w
  unfold serveStaticSet
  split
  · exact w
  · split
    · exact w
    · split
      · exact w
      · exact set _

theorem serveStaticClear_awakeWf (a b : Byte) (w : s.awakeWf) : (serveStaticClear a b s).1.awakeWf := by
  unfold serveStaticClear
  split
  · exact w
  · split
    · exact w
    · split
      · exact w
      · split
        · exact w
        · exact w.of_eq rfl (joinAll_holds _ _)

theorem serveClearFault_awakeWf (b : Byte) (w : s.awakeWf) : (serveClearFault b s).1.awakeWf := by
  unfold serveClearFault
  split
  · exact w
  · split
    · exact w
    · split
      · exact w
      · exact (w.within _ fun e => holdsWf_of_eq (clearFault_holds e _ _)).settled

theorem serveResync_awakeWf (b : Byte) (w : s.awakeWf) : (serveResync b s).1.awakeWf := by
  unfold serveResync
  split
  · exact w
  · exact (w.within _ fun e => holdsWf_of_eq (foldl_holds _ (fun c g => triggerPass_holds e g c) _ _)).settled

theorem written_awakeWf (o : OpeningId) (m : Commissioned) (w : s.awakeWf) : (s.written o m).awakeWf := by
  refine w.of_eq rfl (written_core s o m (fun c => c.holds = s.core.holds) ?_ (fun _ h => h)
    (fun d c h => (recheckDrive_holds d o c).trans h) fun _ _ h => h)
  unfold State.rewritten
  simp [Core.rewritten]

theorem serveOpeningWrite_awakeWf (a b c d e f g h i : Byte) (w : s.awakeWf) :
    (serveOpeningWrite a b c d e f g h i s).1.awakeWf := by
  have write (o : OpeningId) (m : Commissioned) : (s.writeOpening o m).awakeWf := (written_awakeWf o m w).settled
  unfold serveOpeningWrite
  split
  · exact w
  · split
    · exact w
    · split
      · exact w
      · split
        · exact w
        · split
          · exact w
          · split
            · exact w
            · exact write _ _

theorem endAdmission_awakeWf (z : ZoneId) (before after : Zone) (who : Claimant) (w : s.awakeWf) :
    (s.endAdmission z before after who).awakeWf := by
  unfold State.endAdmission
  split
  · exact removeClaims_awakeWf _ _ w
  · exact w

theorem writeZone_awakeWf (z : ZoneId) (new : Zone) (w : s.awakeWf) : (s.writeZone z new).awakeWf := by
  have ended := endAdmission_awakeWf z (look s.work.zones z) new .security
    (endAdmission_awakeWf (s := { s with work := { s.work with zones := put s.work.zones z new } }) z
      (look s.work.zones z) new .ventilation w)
  exact ended.of_eq rfl (joinAll_holds _ _)

theorem serveZoneWrite_awakeWf (a b c d e f : Byte) (w : s.awakeWf) : (serveZoneWrite a b c d e f s).1.awakeWf := by
  unfold serveZoneWrite
  split
  · exact w
  · split
    · exact w
    · exact writeZone_awakeWf _ _ w

end Requests

/-! ### SETTINGS_WRITE: what each changed setting does at once (R179) -/

section Settings

variable {s : State} (old : Settings)

theorem agingChanged_awakeWf (w : s.awakeWf) : (s.agingChanged old).awakeWf := by
  unfold State.agingChanged
  split
  · exact agingSweep_awakeWf w
  · exact w

theorem filterChanged_awakeWf (x : RainContact) (w : s.awakeWf) : (s.filterChanged x).awakeWf := by
  unfold State.filterChanged
  dsimp only
  split
  · exact (w.setWeather _).onSky _ fun e _ => rainFilterEnds_holdsWf e x
  · exact w

theorem rainFilterChanged_awakeWf (w : s.awakeWf) : (s.rainFilterChanged old).awakeWf := by
  unfold State.rainFilterChanged
  split
  · exact w
  · exact filterChanged_awakeWf .facade (filterChanged_awakeWf .roof w)

theorem dryOutChanged_awakeWf (w : s.awakeWf) : (s.dryOutChanged old).awakeWf := by
  unfold State.dryOutChanged
  dsimp only
  split
  · exact w
  · split
    · exact (w.setWeather _).onSky _ fun e _ => dryOutEnds_holdsWf e
    · exact w

theorem thresholdsChanged_awakeWf (w : s.awakeWf) : (s.thresholdsChanged old).awakeWf := by
  unfold State.thresholdsChanged
  split
  · exact w
  · exact w.onSky _ fun e _ => evaluate_holdsWf e

theorem standDownChanged_awakeWf (w : s.awakeWf) : (s.standDownChanged old).awakeWf := by
  unfold State.standDownChanged
  dsimp only
  split
  · exact w
  · split
    · exact (w.setWeather _).onSky _ fun e _ => standDownEnds_holdsWf e
    · exact w

theorem ceilingChanged_awakeWf (w : s.awakeWf) : (s.ceilingChanged old).awakeWf := by
  unfold State.ceilingChanged
  dsimp only
  split
  · exact w.of_eq rfl (joinAll_holds _ _)
  · exact w

/-- A reclaim timer whose length has passed revokes the grant (R150). -/
theorem reclaimRetimed_awakeWf (g : Segment) (w : s.awakeWf) : (s.reclaimRetimed g).awakeWf := by
  unfold State.reclaimRetimed
  dsimp only
  refine w.within _ fun e holds => ?_
  have retimed := retimed_holdsWf g (seconds s.work.settings.reclaimTimeout) holds
  split
  · exact revoke_holdsWf e g retimed
  · exact retimed

theorem reclaimChanged_awakeWf (w : s.awakeWf) : (s.reclaimChanged old).awakeWf := by
  unfold State.reclaimChanged
  split
  · exact w
  · exact reclaimRetimed_awakeWf .seg1 (reclaimRetimed_awakeWf .seg0 w)

theorem budgetsChanged_awakeWf (old : Content) (w : s.awakeWf) : (s.budgetsChanged old).awakeWf := by
  unfold State.budgetsChanged
  split
  · exact w
  · exact budgetChanged_awakeWf w

theorem marksChanged_awakeWf (w : s.awakeWf) : (s.marksChanged old).awakeWf := by
  unfold State.marksChanged
  split
  · exact w
  · exact judgePause_awakeWf w

theorem levelsChanged_awakeWf (w : s.awakeWf) : (s.levelsChanged old).awakeWf := by
  unfold State.levelsChanged
  dsimp only
  split
  · exact w
  · exact judgeSupply_awakeWf w

theorem writeSettings_awakeWf (new : Settings) (w : s.awakeWf) : (s.writeSettings new).awakeWf := by
  have written : ({ s with work := { s.work with settings := new } } : State).awakeWf := w
  have weather := thresholdsChanged_awakeWf s.work.settings (dryOutChanged_awakeWf s.work.settings
    (rainFilterChanged_awakeWf s.work.settings (agingChanged_awakeWf s.work.settings written)))
  have holds := reclaimChanged_awakeWf s.work.settings (ceilingChanged_awakeWf s.work.settings
    (standDownChanged_awakeWf s.work.settings weather))
  exact (levelsChanged_awakeWf s.work.settings (marksChanged_awakeWf s.work.settings
    (budgetsChanged_awakeWf s.work holds))).settled

theorem serveSettingsWrite_awakeWf (new : Settings) (w : s.awakeWf) : (serveSettingsWrite new s).1.awakeWf := by
  unfold serveSettingsWrite
  split
  · exact w
  · split
    · exact w
    · exact writeSettings_awakeWf _ w

end Settings

/-! ### The master ports -/

/-- Every request leaves the part out of reset and its holds in agreement (R174). -/
theorem serve_awakeWf (r : MasterRequest) (p : Role) {s : State} (w : s.awakeWf) : (r.serve p s).1.awakeWf := by
  cases r with
  | readOpening b => exact serveReadOpening_awakeWf p b w
  | claim a b x => exact serveClaim_awakeWf p a b x w
  | release a b => exact serveRelease_awakeWf p a b w
  | advisory a b d => exact serveAdvisory_awakeWf a b d w
  | staticSet a b k x => exact serveStaticSet_awakeWf a b k x w
  | staticClear a b => exact serveStaticClear_awakeWf a b w
  | clearFault b => exact serveClearFault_awakeWf b w
  | resync b => exact serveResync_awakeWf b w
  | openingWrite => exact serveOpeningWrite_awakeWf _ _ _ _ _ _ _ _ _ w
  | zoneWrite => exact serveZoneWrite_awakeWf _ _ _ _ _ _ w
  | settingsWrite x => exact serveSettingsWrite_awakeWf x w
  | readStatus | readEvents | settingsRead | reset => exact w
  | readBlock | readWeather | setMask | forceEvent | readStatic | readClaim | zoneRead | readCounters | save | mode =>
    simp only [MasterRequest.serve, serveReadBlock, serveReadWeather, serveSetMask, serveForceEvent, serveReadStatic,
      serveReadClaim, serveZoneRead, serveReadCounters, serveSave, serveMode]
    repeat' split
    all_goals exact w

theorem takeRequest_awakeWf (p : Role) (r : MasterRequest) {s : State} (w : s.awakeWf) :
    (s.takeRequest p r).awakeWf := by
  rcases takeRequest_cases s p r with h | ⟨y, h⟩ | ⟨y, _, h⟩ <;> rw [h]
  · exact w
  · exact w
  · exact serve_awakeWf r p w

/-- A request on a part held in reset is discarded (R173). -/
theorem takeRequest_holdsWf (p : Role) (r : MasterRequest) {s : State} (w : HoldsWf s) :
    HoldsWf (s.takeRequest p r) := by
  cases hr : s.inReset with
  | true => rw [takeRequest_held s p r hr]; exact w
  | false => exact (takeRequest_awakeWf p r ((awakeWf_iff hr).2 w)).holdsWf

section Bytes

variable (P : State → Prop) (ports : ∀ (s : State) (p : Role) (f : Port → Port), P s → P (s.setPort p f))
  (requests : ∀ (s : State) (p : Role) (r : MasterRequest), P s → P (s.takeRequest p r))

include ports requests

/-- What the ports' own changes and every request keep, a complete frame keeps (R172, R173). -/
theorem completeFrame_keeps (s : State) (p : Role) (frame : List RxByte) (w : P s) : P (s.completeFrame p frame).1 := by
  have held := ports s p (fun x => { x with assembly := .hunting, buffer := some frame }) w
  have emptied (s : State) (w : P s) : P (s.setPort p fun x => { x with buffer := none }) := ports s p _ w
  have taken (s : State) (w : P s) : P (s.takeFrame p frame) := by
    unfold State.takeFrame
    dsimp only
    split
    · exact w
    · split
      · exact ports _ _ _ w
      · split
        · exact ports _ _ _ w
        · exact requests _ _ _ w
  unfold State.completeFrame
  dsimp only
  split
  · exact emptied _ held
  · split
    · exact emptied _ held
    · exact emptied _ (taken _ held)

theorem takeByte_keeps (s : State) (p : Role) (b : RxByte) (w : P s) : P (s.takeByte p b).1 := by
  have assembled (a : Assembly) : P (s.setPort p fun x => { x with assembly := a }) := ports s p _ w
  unfold State.takeByte
  split
  · split
    · exact assembled _
    · exact w
  · split
    · exact assembled _
    · dsimp only
      split
      · exact completeFrame_keeps P ports requests _ _ _ w
      · exact assembled _

/-- What the ports' own changes and every request keep, any bytes keep (R171, R172). -/
theorem takeBytes_keeps (s : State) (p : Role) (bytes : List RxByte) (w : P s) : P (s.takeBytes p bytes) := by
  unfold State.takeBytes
  generalize 4096 = fuel
  induction fuel generalizing s bytes with
  | zero => exact w
  | succ fuel ih =>
    cases bytes with
    | nil => exact w
    | cons b rest => exact ih _ _ (takeByte_keeps P ports requests s p b w)

end Bytes

section Received

variable {s : State} (p : Role)

theorem setPort_holdsWf (f : Port → Port) (w : HoldsWf s) : HoldsWf (s.setPort p f) := w

theorem completeFrame_holdsWf (frame : List RxByte) (w : HoldsWf s) : HoldsWf (s.completeFrame p frame).1 :=
  completeFrame_keeps HoldsWf (fun _ q f => setPort_holdsWf q f) (fun _ q r => takeRequest_holdsWf q r) s p frame w

theorem takeByte_holdsWf (b : RxByte) (w : HoldsWf s) : HoldsWf (s.takeByte p b).1 :=
  takeByte_keeps HoldsWf (fun _ q f => setPort_holdsWf q f) (fun _ q r => takeRequest_holdsWf q r) s p b w

theorem takeBytes_holdsWf (bytes : List RxByte) (w : HoldsWf s) : HoldsWf (s.takeBytes p bytes) :=
  takeBytes_keeps HoldsWf (fun _ q f => setPort_holdsWf q f) (fun _ q r => takeRequest_holdsWf q r) s p bytes w

end Received

/-! ### Resets and start-up (R196 to R198) -/

/-- Held in reset both outputs are deasserted and the drivers off (R196). -/
theorem enterReset_holdsWf (k : ResetKind) (s : State) : HoldsWf (s.enterReset k) := by
  obtain ⟨_, _, _, _, _, outputs⟩ := enterReset_cutOff s k
  obtain ⟨_, _, holds⟩ := outputs .service
  exact holds

/-- The load event begins both holds OWNED (R142, R197). -/
theorem load_holdsWf (s : State) : HoldsWf s.load := by
  obtain ⟨d, rest, _, loaded⟩ := load_core s
  have fresh : (s.core.cleared s.clock s.store.content s.inputs).holdsWf := fun g => by
    rw [holds_cleared]; exact wf_fresh _
  refine State.awakeWf.holdsWf ⟨rfl, ?_⟩
  rw [loaded]
  exact holdsWf_of_eq (c := d) rfl (holdsWf_of_eq rest.holds fresh)

/-- The last byte of a reply keeps the holds, or begins the soft reset (R173, R181). -/
theorem replyLeaves_holdsWf (p : Role) {s : State} (w : HoldsWf s) : HoldsWf (s.replyLeaves p) := by
  unfold State.replyLeaves
  dsimp only
  split
  · exact enterReset_holdsWf _ _
  · exact w

/-! ### Events of the slots and segments that concern no hold -/

theorem runLimitEnds_holds (e : Env) (i : SlotId) (c : Core) : (c.runLimitEnds e i).holds = c.holds := by
  unfold Core.runLimitEnds
  split
  · rfl
  · exact requestStop_holds e _ _ _

theorem windowEnds_holds (e : Env) (g : Segment) (c : Core) : (c.windowEnds e g).holds = c.holds := by
  unfold Core.windowEnds
  split
  · rfl
  · exact takeTimeout_holds e g _ c

theorem progressDue_holds (e : Env) (i : SlotId) (c : Core) : (c.progressDue e i).holds = c.holds := by
  unfold Core.progressDue
  split <;> rfl

theorem reProbeDue_holds (e : Env) (o : OpeningId) (c : Core) : (c.reProbeDue e o).holds = c.holds := by
  unfold Core.reProbeDue
  dsimp only
  split <;> rfl

/-! ### Every command -/

/-- The state a command answers is the one it is given. -/
theorem next_holdsWf {t u : State} (h : (Host.Outcome.next u : Result) = .next t) (w : HoldsWf u) : HoldsWf t := by
  cases h; exact w

theorem returningTimer_state {s : State} (g : Segment) (w : s.core.holdsWf)
    (ht : (s.core.holds.get g).returningTimer.isSome = true) : (s.core.holds.get g).state = .returning := by
  obtain ⟨_, _, _, _, returningTimer⟩ := w g
  exact returningTimer ht

/-- Every command keeps each hold's outputs and timers in agreement with its state. -/
theorem exec_holdsWf (i : Instr) (s t : State) (h : exec i s = .next t) (w : HoldsWf s) : HoldsWf t := by
  cases i with
  | readOpening | readBlock | readWeather | readStatus | readEvents | setMask | forceEvent | claim | release | advisory
  | staticSet | staticClear | readStatic | readClaim | zoneRead | readCounters | clearFault | resync | openingWrite
  | zoneWrite | settingsWrite | settingsRead | save | mode | reset =>
    exact next_holdsWf h (takeRequest_holdsWf _ _ w)
  | requestFrameArrival p frame =>
    exact next_holdsWf h (unlessHeld_holdsWf _ w fun _ => takeBytes_holdsWf p _ (completeFrame_holdsWf p frame w))
  | byteReceived p b =>
    exact next_holdsWf h (unlessHeld_holdsWf _ w fun _ => takeBytes_holdsWf p _ (takeByte_holdsWf p b w))
  | frameGapTimeout p => exact next_holdsWf h (unlessHeld_holdsWf _ w fun _ => w)
  | replySent p => exact next_holdsWf h (unlessHeld_holdsWf _ w fun _ => replyLeaves_holdsWf p w)
  | powerOnReset | resetPinAssert => exact next_holdsWf h (enterReset_holdsWf _ s)
  | logicSupplyFall micros =>
    refine next_holdsWf h ?_
    split
    · exact enterReset_holdsWf _ s
    · exact w
  | loadEvent =>
    refine next_holdsWf h ?_
    split
    · exact load_holdsWf s
    · exact w
  | noticeEvent =>
    refine next_holdsWf h ?_
    split
    · next hp =>
      have awake : s.awakeWf := (awakeWf_iff (by unfold State.inReset; rw [hp])).2 w
      exact State.awakeWf.holdsWf ⟨rfl, awake.2⟩
    · exact w
    · exact w
  | saveCompletion intact =>
    refine next_holdsWf h (unlessHeld_holdsWf _ w fun _ => ?_)
    split <;> exact w
  | rainContactChange | mainsLineChange =>
    exact next_holdsWf h (unlessHeld_holdsWf _ (setInputs_holdsWf _ w) fun _ => w)
  | anemometerPulse micros =>
    refine next_holdsWf h (unlessHeld_holdsWf _ w fun _ => ?_)
    split <;> exact w
  | rainFilterExpiry x => exact next_holdsWf h (skyExpiry_holdsWf _ _ w fun e _ => rainFilterEnds_holdsWf e x)
  | dryOutExpiry => exact next_holdsWf h (skyExpiry_holdsWf _ _ w fun e _ => dryOutEnds_holdsWf e)
  | gustWindowEnd => exact next_holdsWf h (skyExpiry_holdsWf _ _ w fun e _ => gustEnds_holdsWf e)
  | stabilityTimerExpiry => exact next_holdsWf h (skyExpiry_holdsWf _ _ w fun e _ => sectorSettles_holdsWf e)
  | advisoryMinuteMark => exact next_holdsWf h (skyExpiry_holdsWf _ _ w fun e _ => minuteMark_holdsWf e)
  | standDownExpiry => exact next_holdsWf h (skyExpiry_holdsWf _ _ w fun e _ => standDownEnds_holdsWf e)
  | warmUpExpiry => exact next_holdsWf h (skyExpiry_holdsWf _ _ w fun e _ => warmUpEnds_holdsWf e)
  | vaneChange lines =>
    refine next_holdsWf h ?_
    split
    · exact w
    · exact unlessHeld_holdsWf _ (setInputs_holdsWf _ w) fun awake =>
        (awake.onSky _ fun e _ => vaneReads_holdsWf e _).settled.holdsWf
  | agingSweep => exact next_holdsWf h (expiry_holdsWf _ _ w fun _ _ awake => (agingSweep_awakeWf awake).holdsWf)
  | resolveOpening => exact next_holdsWf h (coreEvent_holdsWf _ w fun e => resolveNext_holds e _ _)
  | startWalk => exact next_holdsWf h (coreEvent_holdsWf _ w fun e => startWalk_holds e _)
  | nodeFrameSent g => exact next_holdsWf h (coreEvent_holdsWf _ w fun e => frameSent_holds e g _)
  | nodeReply g r => exact next_holdsWf h (coreEvent_holdsWf _ w fun e => replyArrives_holds e g r _)
  | nodeReplyBusy g a => exact next_holdsWf h (coreEvent_holdsWf _ w fun e => busyArrives_holds e g a _)
  | invalidNodeFrame g bs gap => exact next_holdsWf h (coreEvent_holdsWf _ w fun e => frameArrives_holds e g bs gap _)
  | turnaroundEnd | restTimerExpiry | dwellTimerExpiry | followPollTimerExpiry | enrollmentRetry =>
    exact next_holdsWf h (coreExpiry_leaves_holdsWf _ _ w fun _ => rfl)
  | replyWindowExpiry g => exact next_holdsWf h (coreExpiry_leaves_holdsWf _ _ w fun e => windowEnds_holds e g _)
  | runLimitExpiry i => exact next_holdsWf h (coreExpiry_leaves_holdsWf _ _ w fun e => runLimitEnds_holds e i _)
  | orphanHoldEnd i => exact next_holdsWf h (coreExpiry_leaves_holdsWf _ _ w fun e => endOrphan_holds e i _)
  | progressPollTimerExpiry i => exact next_holdsWf h (coreExpiry_leaves_holdsWf _ _ w fun e => progressDue_holds e i _)
  | idlePollRound g => exact next_holdsWf h (coreExpiry_leaves_holdsWf _ _ w fun e => pollRound_holds e g _)
  | reProbeTimerExpiry o => exact next_holdsWf h (coreExpiry_leaves_holdsWf _ _ w fun e => reProbeDue_holds e o _)
  | holdreqChange g raw =>
    exact next_holdsWf h (unlessHeld_holdsWf _ (setInputs_holdsWf _ w) fun awake =>
      State.awakeWf.holdsWf ⟨awake.1, holdsWf_setHold g _ awake.2 (awake.2 g)⟩)
  | holdreqFilterExpiry g => exact next_holdsWf h (coreExpiry_holdsWf _ _ w fun e _ => holdreqSettles_holdsWf e g)
  | reclaimTimerExpiry g => exact next_holdsWf h (coreExpiry_holdsWf _ _ w fun e _ => revoke_holdsWf e g)
  | returningTimerExpiry g =>
    exact next_holdsWf h (coreExpiry_holdsWf _ _ w fun e ht holds =>
      returned_holdsWf e g holds (returningTimer_state g holds ht))
  | motorVoltageChange v =>
    exact next_holdsWf h (unlessHeld_holdsWf _ (setInputs_holdsWf _ w) fun awake =>
      (judgeSupply_awakeWf awake).settled.holdsWf)
  | rideThroughExpiry =>
    exact next_holdsWf h (expiry_holdsWf _ _ w fun _ _ awake => (enterSupply_awakeWf .out awake).settled.holdsWf)
  | mainsFilterExpiry =>
    exact next_holdsWf h (expiry_holdsWf _ _ w fun _ _ awake => (mainsChanges_awakeWf awake).holdsWf)
  | measuredCurrentChange i =>
    exact next_holdsWf h (unlessHeld_holdsWf _ (setInputs_holdsWf _ w) fun awake =>
      (judgeTrip_awakeWf (judgePause_awakeWf awake)).holdsWf)
  | pauseLimitExpiry => exact next_holdsWf h (expiry_holdsWf _ _ w fun _ _ awake => awake.holdsWf)
  | tripTimerExpiry =>
    exact next_holdsWf h (expiry_holdsWf _ _ w fun _ _ awake => (tripEnds_awakeWf awake).settled.holdsWf)

end Sys2Proof.Machine

open Sys2Proof Sys2Proof.Machine

/-- Settles O59: a millisecond that passes leaves the holds, and every command keeps them in agreement. -/
theorem stepKeepsHoldOutputs : Obligations.StepKeepsHoldOutputs := by
  intro s t w h
  unfold step at h
  split at h
  · exact next_holdsWf h w
  · exact exec_holdsWf _ _ t h w

end

section
/-! SUPPORT. The start pause by the row that applies, the mains filter, and what each judgement of the Supply Monitor
leaves; the statements on the mains filter and on the start pause. -/

namespace Sys2Proof.Machine

/-! ### Marks and budgets (R162, R164) -/

theorem atHighMark_iff (current budget high : Nat) :
    atHighMark current budget high = true ↔ budget * high ≤ current * 100 := by simp [atHighMark]

theorem atLowMark_iff (current budget low : Nat) :
    atLowMark current budget low = true ↔ current * 100 ≤ budget * low := by simp [atLowMark]

/-- The budget in force, by the mains state (R162). -/
theorem budget_eq (s : State) : s.budget =
    if s.supply.mains = .mains then s.work.settings.mainsBudget else s.work.settings.batteryBudget := by
  unfold State.budget budgetOf
  cases s.supply.mains <;> rfl

theorem flipMains_ne (m : MainsState) : flipMains m ≠ m := by cases m <;> decide

/-! ### The start pause by R164's rows -/

section Pause

variable (s : State)

/-- NONE at or above the high mark: a pause of 10 s begins. -/
theorem judgePause_begins (hp : s.supply.pause = .none)
    (hi : s.budget * s.work.settings.highMark ≤ s.inputs.current * 100) : s.judgePause.supply =
      { s.supply with pause := .paused, pauseLimit := some ⟨s.clock, 10000⟩ } := by
  simp only [State.judgePause, Supply.judgePause, hp, (atHighMark_iff _ _ _).2 hi, if_true]
  rfl

/-- PAUSED at or below the low mark: the pause ends and a start walk is triggered. -/
theorem judgePause_ends (hp : s.supply.pause = .paused)
    (hi : s.inputs.current * 100 ≤ s.budget * s.work.settings.lowMark) :
    s.judgePause.supply = { s.supply with pause := .none, pauseLimit := none } ∧
      s.judgePause.core = s.core.trigger := by
  simp only [State.judgePause, Supply.judgePause, hp, (atLowMark_iff _ _ _).2 hi, if_true, and_self]

/-- BARRED above the low mark: nothing changes. -/
theorem judgePause_barred (hp : s.supply.pause = .barred)
    (hi : s.budget * s.work.settings.lowMark < s.inputs.current * 100) : s.judgePause.supply = s.supply := by
  have above : atLowMark s.inputs.current s.budget s.work.settings.lowMark = false :=
    Bool.eq_false_iff.2 fun h => Nat.not_le.2 hi ((atLowMark_iff _ _ _).1 h)
  simp only [State.judgePause, Supply.judgePause, hp, above, Bool.false_eq_true, if_false]

/-- The drive core judges no pause: it takes a start-walk trigger or nothing. -/
theorem judgePause_core_cases : s.judgePause.core = s.core ∨ s.judgePause.core = s.core.trigger := by
  unfold State.judgePause
  dsimp only
  split
  · exact .inr rfl
  · exact .inl rfl

/-- A judgement of the start pause frees no slot and moves no job. -/
theorem judgePause_drives : s.judgePause.core.slots = s.core.slots ∧ s.judgePause.core.openings = s.core.openings ∧
    s.judgePause.core.queue = s.core.queue ∧ s.judgePause.core.notices = s.core.notices := by
  rcases judgePause_core_cases s with h | h <;> rw [h] <;> exact ⟨rfl, rfl, rfl, rfl⟩

end Pause

/-- MEASURED_CURRENT_CHANGE of a part that runs, within the range of R154. -/
theorem exec_measuredCurrentChange_running (i : Nat) (s : State) (hr : s.inReset = false) (hi : i ≤ 999) :
    exec (.measuredCurrentChange i) s =
      .next ({ s with inputs := { s.inputs with current := i } } : State).judgePause.judgeTrip := by
  rw [exec_measuredCurrentChange, Nat.min_eq_left hi, unlessHeld_running _ _ (by exact hr)]

/-! ### A change of the mains state (R161, R162) -/

/-- A state whose mains state has changed, before the pause and the trip are judged by its budget. -/
def State.mainsFlipped (s : State) : State :=
  { s with supply := { s.supply with mains := flipMains s.supply.mains, mainsFilter := none }
           core := s.core.hand .supplyChanged }

theorem mainsChanges_eq (s : State) : s.mainsChanges = s.mainsFlipped.budgetChanged := rfl

/-- A change of the budget in force leaves the mains state and its filter, the drives and the notices, and triggers a
start walk. -/
theorem budgetChanged_leaves (s : State) :
    s.budgetChanged.supply.mains = s.supply.mains ∧ s.budgetChanged.supply.mainsFilter = s.supply.mainsFilter ∧
      s.budgetChanged.work = s.work ∧ s.budgetChanged.core.walkTriggered = true ∧
      s.budgetChanged.core.slots = s.core.slots ∧ s.budgetChanged.core.openings = s.core.openings ∧
      s.budgetChanged.core.queue = s.core.queue ∧ s.budgetChanged.core.notices = s.core.notices := by
  obtain ⟨_, mains, filter, _⟩ := judgePause_supply s
  obtain ⟨slots, openings, queue, notices⟩ := judgePause_drives s
  exact ⟨mains, filter, rfl, rfl, slots, openings, queue, notices⟩

/-- A raw mains level that agrees with the mains state stops the filter (R161). -/
theorem takeMains_agrees (now : Nat) (raw : MainsState) (u : Supply) (h : raw = u.mains) :
    (u.takeMains now raw).mainsFilter = none := by
  simp [Supply.takeMains, debounce, h]

/-- A raw mains level that disagrees begins the filter of 1 s (R161). -/
theorem takeMains_begins (now : Nat) (raw : MainsState) (u : Supply) (h : raw ≠ u.mains) (hf : u.mainsFilter = none) :
    (u.takeMains now raw).mainsFilter = some ⟨now, 1000⟩ := by
  simp [Supply.takeMains, debounce, h, hf, startTimer, mainsFilterMs]

/-- MAINS_LINE_CHANGE of a part that runs: the raw level is read and taken by the filter. -/
theorem exec_mainsLineChange_running (raw : MainsState) (s : State) (hr : s.inReset = false) :
    exec (.mainsLineChange raw) s =
      .next { s with inputs := { s.inputs with mainsLine := raw }, supply := s.supply.takeMains s.clock raw } := by
  rw [exec_mainsLineChange, unlessHeld_running _ _ (by exact hr)]

end Sys2Proof.Machine

open Sys2Proof Sys2Proof.Machine

/-- Settles O49: the filter by the raw level, and its expiry as a flip of the mains state under a changed budget. -/
theorem mainsChangesTheBudget : Obligations.MainsChangesTheBudget := by
  intro raw f s hr
  refine ⟨⟨_, exec_mainsLineChange_running raw s hr, rfl, takeMains_agrees _ raw _, takeMains_begins _ raw _, rfl,
    rfl⟩, fun hf => ?_⟩
  refine ⟨(s.atMoment (f.start + f.length)).mainsChanges, by rw [exec_mainsFilterExpiry, hf, expiry_running _ _ _ hr],
    ?_⟩
  rw [mainsChanges_eq]
  obtain ⟨mains, filter, work, walk, slots, openings, queue, notices⟩ :=
    budgetChanged_leaves (s.atMoment (f.start + f.length)).mainsFlipped
  refine ⟨fun h => flipMains_ne _ (mains.symm.trans h), filter, ?_, fun p => ?_, walk, slots, openings, queue⟩
  · rw [budget_eq, work]
    rfl
  · rw [notices]
    exact hand_latches s.core.notices .supplyChanged p rfl

/-- Settles O50: R164's rows at a measured current, and R165's expiry. -/
theorem startPause : Obligations.StartPause := by
  intro i f s hr hi
  refine ⟨⟨_, exec_measuredCurrentChange_running i s hr hi, rfl, fun hp high => ?begins, fun hp low => ?ends,
    fun hp above => ?barred, ?drives⟩, fun hf => ?limit⟩
  case begins =>
    have begun := judgePause_begins { s with inputs := { s.inputs with current := i } } hp high
    exact ⟨congrArg Supply.pause begun, congrArg Supply.pauseLimit begun⟩
  case ends =>
    obtain ⟨ended, core⟩ := judgePause_ends { s with inputs := { s.inputs with current := i } } hp low
    exact ⟨congrArg Supply.pause ended, congrArg Supply.pauseLimit ended, congrArg Core.walkTriggered core⟩
  case barred =>
    have kept := judgePause_barred { s with inputs := { s.inputs with current := i } } hp above
    exact (congrArg Supply.pause kept).trans hp
  case drives =>
    obtain ⟨slots, openings, queue, _⟩ := judgePause_drives { s with inputs := { s.inputs with current := i } }
    exact ⟨slots, openings, queue, rfl⟩
  case limit =>
    refine ⟨(s.atMoment (f.start + f.length)).pauseLimitEnds,
      by rw [exec_pauseLimitExpiry, hf, expiry_running _ _ _ hr], rfl, rfl, rfl, fun p => ?_, rfl, rfl⟩
    exact hand_latches s.core.notices .pauseTimeout p rfl

end

section
/-! SUPPORT. The supply state by voltage, what the entry to OUT leaves of the drives and the segments, and what the
return from it resumes; the statement on them. -/

namespace Sys2Proof.Machine

/-! ### The supply state by voltage (R155, R156) -/

/-- A list of checks names no field exactly when its first finds nothing and the rest name none. -/
theorem check_passes_iff (broken : Prop) [Decidable broken] (n : Nat) (rest : Option Nat) :
    (if broken then some n else rest) = none ↔ ¬broken ∧ rest = none := by
  by_cases h : broken
  · rw [if_pos h]
    exact ⟨nofun, fun k => absurd h k.1⟩
  · rw [if_neg h]
    exact ⟨fun k => ⟨h, k⟩, fun k => k.2⟩

/-- The supply levels of valid settings, in R155's order. -/
theorem settingsValid_levels (r : Settings) (h : settingsValid r = true) :
    r.outSet < r.sagSet ∧ r.sagSet < r.sagRelease ∧ r.outSet < r.outRelease ∧ r.outRelease < r.sagRelease := by
  have unbroken : brokenRelation r = none := by
    simpa using (Bool.and_eq_true_iff.1 h).2
  simp only [brokenRelation, check_passes_iff] at unbroken
  obtain ⟨_, _, _, _, sag, release, out, _⟩ := unbroken
  omega

/-- R156's table. -/
theorem judgeVoltage_rows (r : Settings) (v : Nat) (h : settingsValid r = true) :
    (judgeVoltage r v .normal = if v < r.outSet then .outPending else if v < r.sagSet then .sag else .normal) ∧
    (v < r.outSet → judgeVoltage r v .sag = .outPending) ∧ (r.sagRelease < v → judgeVoltage r v .sag = .normal) ∧
    (r.outSet ≤ v → v ≤ r.sagRelease → judgeVoltage r v .sag = .sag) ∧
    (r.sagRelease < v → judgeVoltage r v .outPending = .normal) ∧
    (r.outRelease < v → v ≤ r.sagRelease → judgeVoltage r v .outPending = .sag) ∧
    (v ≤ r.outRelease → judgeVoltage r v .outPending = .outPending) ∧
    (judgeVoltage r v .out = if r.sagRelease < v then .normal else .out) := by
  obtain ⟨_, _, _, _⟩ := settingsValid_levels r h
  refine ⟨rfl, fun low => if_pos low, fun high => ?_, fun above below => ?_, fun high => if_pos high,
    fun above below => ?_, fun low => ?_, rfl⟩
  · exact (if_neg (by omega)).trans (if_pos high)
  · exact (if_neg (by omega)).trans (if_neg (by omega))
  · exact (if_neg (by omega)).trans (if_pos above)
  · exact (if_neg (by omega)).trans (if_neg (by omega))

section Judged

variable (s : State)

/-- A voltage that gives the state held changes nothing. -/
theorem judgeSupply_stays (h : judgeVoltage s.work.settings s.inputs.voltage s.supply.state = s.supply.state) :
    s.judgeSupply = s := if_pos h

/-- A voltage that gives another state enters it. -/
theorem judgeSupply_enters (new : SupplyState)
    (h : judgeVoltage s.work.settings s.inputs.voltage s.supply.state = new) (hn : new ≠ s.supply.state) :
    s.judgeSupply = s.enterSupply new := by
  subst h
  exact if_neg hn

/-- A judgement of the voltage gives the state R156 names and, in OUT_PENDING newly entered, a ride-through of 300 ms;
the mains state stays. -/
theorem judgeSupply_supply :
    s.judgeSupply.supply.state = judgeVoltage s.work.settings s.inputs.voltage s.supply.state ∧
      (s.supply.state ≠ .outPending → s.judgeSupply.supply.state = .outPending →
        s.judgeSupply.supply.rideThrough = some ⟨s.clock, 300⟩) ∧
      s.judgeSupply.supply.mains = s.supply.mains := by
  by_cases h : judgeVoltage s.work.settings s.inputs.voltage s.supply.state = s.supply.state
  · rw [judgeSupply_stays s h]
    exact ⟨h.symm, fun unlike like => absurd like unlike, rfl⟩
  · rw [judgeSupply_enters s _ rfl h]
    exact ⟨rfl, fun _ entered => if_pos entered, rfl⟩

/-- A judgement of the voltage leaves the other blocks (R156). -/
theorem judgeSupply_leaves : s.agreesOutside s.judgeSupply ∧ s.judgeSupply.weather = s.weather := by
  by_cases h : judgeVoltage s.work.settings s.inputs.voltage s.supply.state = s.supply.state
  · rw [judgeSupply_stays s h]
    exact ⟨agreesOutside_refl s, rfl⟩
  · rw [judgeSupply_enters s _ rfl h]
    exact ⟨agreesOutside_within _ _, rfl⟩

end Judged

/-- MOTOR_VOLTAGE_CHANGE of a part that runs, within the range of R154. -/
theorem exec_motorVoltageChange_running (v : Nat) (s : State) (hr : s.inReset = false) (hv : v ≤ 600) :
    exec (.motorVoltageChange v) s =
      .next ({ s with inputs := { s.inputs with voltage := v } } : State).judgeSupply.settled := by
  rw [exec_motorVoltageChange, Nat.min_eq_left hv, unlessHeld_running _ _ (by exact hr)]

/-! ### The drives on entry to OUT (R21, R159 step 2) -/

/-- A fold establishes of each member what that member's step establishes and every step keeps. -/
theorem foldl_establishes {α : Type} (P : α → Core → Prop) (f : Core → α → Core) (made : ∀ c x, P x (f c x))
    (keeps : ∀ c x y, P y c → P y (f c x)) (l : List α) (c : Core) (x : α) (hx : x ∈ l) : P x (l.foldl f c) := by
  induction l generalizing c with
  | nil => exact absurd hx List.not_mem_nil
  | cons y rest ih =>
    by_cases later : x ∈ rest
    · exact ih _ later
    · obtain rfl : x = y := (List.mem_cons.1 hx).resolve_right later
      exact foldl_keeps (P x) f (fun c y h => keeps c y x h) rest _ (made c x)

section OutageDrives

variable (e : Env) (c : Core)

/-- The drive of a slot ends in a freed slot, an orphan's or one whose job returns to the queue. -/
theorem outageSlot_cases (i : SlotId) (P : Core → Prop) (frees : P (c.freeSlot e i))
    (returns : ∀ x : Slot, look c.slots i = some x → x.phase ≠ .orphan →
      P (((c.freeSlot e i).setLive x.opening fun l => { l with position := .unknown }).enqueue e x.opening
        ((c.live x.opening).target.getD x.target) ((c.live x.opening).jobClass.getD x.cls) .tail)) :
    P (c.outageSlot e i) := by
  unfold Core.outageSlot
  split
  · next hx => simpa only [Core.freeSlot, hx] using frees
  · next x hx =>
    dsimp only
    split
    · exact frees
    · next ho =>
      rw [live_freeSlot]
      exact returns x hx ho

theorem outageSlot_slots (i : SlotId) : (c.outageSlot e i).slots = (c.freeSlot e i).slots :=
  outageSlot_cases e c i (fun d => d.slots = (c.freeSlot e i).slots) rfl fun _ _ _ => rfl

theorem outageSlot_notices (i : SlotId) : (c.outageSlot e i).notices = c.notices :=
  outageSlot_cases e c i (fun d => d.notices = c.notices) (freeSlot_notices e i c) fun _ _ _ => freeSlot_notices e i c

theorem line_outageSlot (i : SlotId) : LineKept c (c.outageSlot e i) :=
  outageSlot_cases e c i (LineKept c) (line_freeSlot e c i) fun _ _ _ => (line_freeSlot e c i).trans (.of_segments rfl)

/-- No outage fills a slot again. -/
theorem look_outageSlot_empty (i j : SlotId) (h : look c.slots j = none) : look (c.outageSlot e i).slots j = none := by
  rw [outageSlot_slots]
  by_cases hj : j = i
  · rw [hj]; exact look_freeSlot_same e c i
  · rw [look_freeSlot_ne e c i j hj]; exact h

/-- A QUEUED opening's position is UNKNOWN (R13, log entry 41). -/
def Core.forgotten (o : OpeningId) (c : Core) : Prop := (c.live o).state = .queued → (c.live o).position = .unknown

theorem forgetQueued_forgets (o : OpeningId) : (c.forgetQueued o).forgotten o := by
  unfold Core.forgetQueued
  split
  · exact fun _ => by simp
  · next h => exact fun queued => absurd queued h

theorem forgetQueued_keeps (o q : OpeningId) (h : c.forgotten q) : (c.forgetQueued o).forgotten q := by
  unfold Core.forgetQueued
  split
  · unfold Core.forgotten
    rw [live_setLive]
    split
    · exact fun _ => rfl
    · exact h
  · exact h

theorem forgetQueued_slots (o : OpeningId) : (c.forgetQueued o).slots = c.slots := by
  unfold Core.forgetQueued; split <;> rfl

theorem forgetQueued_notices (o : OpeningId) : (c.forgetQueued o).notices = c.notices := by
  unfold Core.forgetQueued; split <;> rfl

theorem forgetQueued_segments (o : OpeningId) : (c.forgetQueued o).segments = c.segments := by
  unfold Core.forgetQueued; split <;> rfl

/-- The outage empties every slot. -/
theorem outageDrives_slots (i : SlotId) : look (c.outageDrives e).slots i = none := by
  refine foldl_keeps (fun d => look d.slots i = none) _ (fun d o h => by rw [forgetQueued_slots]; exact h) _ _ ?_
  exact foldl_establishes (fun i d => look d.slots i = none) _
    (fun d i => by rw [outageSlot_slots]; exact look_freeSlot_same e d i)
    (fun d i j h => look_outageSlot_empty e d i j h) allSlots c i (mem_allSlots i)

theorem outageDrives_forgotten (o : OpeningId) : (c.outageDrives e).forgotten o :=
  foldl_establishes Core.forgotten _ forgetQueued_forgets forgetQueued_keeps allOpenings _ o (mem_allOpenings o)

theorem outageDrives_notices : (c.outageDrives e).notices = c.notices := by
  refine foldl_keeps (fun d => d.notices = c.notices) _ (fun d o h => (forgetQueued_notices d o).trans h) _ _ ?_
  exact foldl_keeps (fun d => d.notices = c.notices) _ (fun d i h => (outageSlot_notices e d i).trans h) _ _ rfl

theorem line_outageDrives : LineKept c (c.outageDrives e) := by
  refine foldl_keeps (LineKept c) _ (fun d o h => h.trans (.of_segments (forgetQueued_segments d o))) _ _ ?_
  exact foldl_keeps (LineKept c) _ (fun d i h => h.trans (line_outageSlot e d i)) _ _ (.refl c)

end OutageDrives

/-! ### The segments on entry to OUT (R139, R159 step 3) -/

section Suspended

variable (e : Env) (g : Segment) (c : Core)

/-- A core whose segment is cut off, before its RUNNING pass is made DUE. -/
def Core.silenced (e : Env) (g : Segment) (c : Core) : Core :=
  (c.setSegment g fun s => { s with inFlight := none, requests := [] }).stopTimers e g

theorem suspend_cases (P : Core → Prop) (stays : P (c.silenced e g)) (due : P ((c.silenced e g).makeDue g)) :
    P (c.suspend e g) := by
  unfold Core.suspend Core.suspendPass
  split
  · exact due
  · exact stays

theorem live_silenced (o : OpeningId) :
    (c.silenced e g).live o = if e.segment o = g then (c.live o).stopPolls else c.live o := look_tabulate _ o

theorem suspend_slots : (c.suspend e g).slots = c.slots :=
  suspend_cases e g c (fun d => d.slots = c.slots) rfl rfl

theorem suspend_notices : (c.suspend e g).notices = c.notices :=
  suspend_cases e g c (fun d => d.notices = c.notices) rfl rfl

/-- A segment cut off stops polls and probes, and no opening's state or position changes (R139). -/
theorem suspend_forgotten (o : OpeningId) (h : c.forgotten o) : (c.suspend e g).forgotten o := by
  have kept : (c.silenced e g).forgotten o := by
    unfold Core.forgotten
    rw [live_silenced]
    split
    · exact h
    · exact h
  exact suspend_cases e g c (fun d => d.forgotten o) kept kept

/-- A segment cut off has nothing pending and nothing in flight; its nodes' counts stay. -/
theorem suspend_segment : ((c.suspend e g).segments.get g).requests = [] ∧
    ((c.suspend e g).segments.get g).inFlight = none ∧
    ((c.suspend e g).segments.get g).counts = (c.segments.get g).counts := by
  apply suspend_cases e g c fun d => (d.segments.get g).requests = [] ∧ (d.segments.get g).inFlight = none ∧
    (d.segments.get g).counts = (c.segments.get g).counts
  · simp [Core.silenced, Core.stopTimers]
  · simp [Core.silenced, Core.stopTimers, Core.makeDue, SegmentCtl.dropPass, dropPassRequests]

theorem suspend_other (h : Segment) (hg : h ≠ g) : (c.suspend e g).segments.get h = c.segments.get h := by
  have other : (c.silenced e g).segments.get h = c.segments.get h := by
    simp [Core.silenced, Core.stopTimers, PerSegment.get_set_ne _ _ _ _ hg]
  refine suspend_cases e g c (fun d => d.segments.get h = c.segments.get h) other ?_
  rw [Core.makeDue, segments_get_setSegment, if_neg hg, other]

end Suspended

section Outage

variable (e : Env) (c : Core)

theorem outage_eq : c.outage e = ((c.outageDrives e).suspend e .seg0).suspend e .seg1 := rfl

theorem outage_slots (i : SlotId) : look (c.outage e).slots i = none := by
  rw [outage_eq, suspend_slots, suspend_slots]
  exact outageDrives_slots e c i

/-- With every slot empty nothing is reserved (R80). -/
theorem reservationSum_empty (h : ∀ i : SlotId, look c.slots i = none) : c.reservationSum = 0 := by
  have empty : c.slots = Vector.replicate 8 none := table_ext _ _ fun i => (h i).trans (look_replicate _ i).symm
  simp [Core.reservationSum, empty]

theorem outage_forgotten (o : OpeningId) : (c.outage e).forgotten o :=
  suspend_forgotten e .seg1 _ o (suspend_forgotten e .seg0 _ o (outageDrives_forgotten e c o))

theorem outage_notices : (c.outage e).notices = c.notices := by
  rw [outage_eq, suspend_notices, suspend_notices, outageDrives_notices]

/-- The outage cuts both segments off. -/
theorem outage_segment (g : Segment) : ((c.outage e).segments.get g).requests = [] ∧
    ((c.outage e).segments.get g).inFlight = none ∧
    ((c.outage e).segments.get g).counts = (c.segments.get g).counts := by
  rw [outage_eq, ← (line_outageDrives e c).counts]
  cases g with
  | seg0 =>
    rw [suspend_other e .seg1 _ .seg0 (by decide)]
    exact suspend_segment e .seg0 _
  | seg1 =>
    rw [← suspend_other e .seg0 (c.outageDrives e) .seg1 (by decide)]
    exact suspend_segment e .seg1 _

end Outage

/-! ### The return from OUT (R125, R131, R139, R160) -/

/-- A core whose segment has power again, its turnaround and its round begun, before its pass is triggered. -/
def Core.powered (e : Env) (g : Segment) (c : Core) : Core :=
  c.setSegment g fun s =>
    { s with turnaround := startTimer e.now turnaroundMs, roundTimer := startTimer e.now idleRoundMs }

section Resume

variable (e : Env) (g : Segment) (c : Core)

theorem resume_owned (h : (c.holds.get g).state = .owned) : c.resume e g = (c.powered e g).triggerPass e g := if_pos h

theorem resume_lent (h : (c.holds.get g).state ≠ .owned) : c.resume e g = c.triggerPass e g := if_neg h

/-- A pass trigger latches nothing. -/
theorem triggerPass_notices : (c.triggerPass e g).notices = c.notices := by
  unfold Core.triggerPass
  split
  · exact (startPass_starts e g c).notices
  · rfl

theorem resume_notices : (c.resume e g).notices = c.notices := by
  by_cases h : (c.holds.get g).state = .owned
  · rw [resume_owned e g c h]; exact triggerPass_notices e g _
  · rw [resume_lent e g c h]; exact triggerPass_notices e g c

/-- Traffic resumed on one segment leaves the other. -/
theorem resume_keeps (h : Segment) (hg : h ≠ g) : SegmentKept e h c (c.resume e g) := by
  by_cases ho : (c.holds.get g).state = .owned
  · have powered : SegmentKept e h c (c.powered e g) :=
      ⟨by rw [Core.powered, segments_get_setSegment, if_neg hg], fun _ _ => rfl⟩
    rw [resume_owned e g c ho]
    exact powered.trans (triggerPass_keeps e g h _ hg)
  · rw [resume_lent e g c ho]
    exact triggerPass_keeps e g h c hg

end Resume

/-- A core in which the traffic of a segment has been resumed since a state: on an OWNED segment the turnaround, the
round and a pass begun, on a lent one the pass DUE. -/
structure TrafficResumed (s : State) (g : Segment) (u : Core) : Prop where
  owned : (s.core.holds.get g).state = .owned → passBegun s g u ∧
    (u.segments.get g).turnaround = some ⟨s.clock, 2⟩ ∧ (u.segments.get g).roundTimer = some ⟨s.clock, 30000⟩
  lent : (s.core.holds.get g).state ≠ .owned → (u.segments.get g).pass = .due ∧ (u.segments.get g).resync = []

/-- Traffic resumed while the supply is not OUT and the holds and the segment's records are those of the state (R137,
R139). -/
theorem resume_resumed (s : State) (g : Segment) (c : Core) (on : s.supply.state ≠ .out)
    (hh : c.holds = s.core.holds) (hk : ∀ o : OpeningId, s.env.segment o = g → c.live o = s.core.live o) :
    TrafficResumed s g (c.resume s.env g) := by
  refine ⟨fun ho => ?_, fun ho => ?_⟩
  · have carried : (c.powered s.env g).carries s.env g = true := by
      have supply : s.env.supply ≠ .out := on
      have hold : ((c.powered s.env g).holds.get g).state = .owned := by rw [← ho, ← hh]; rfl
      simp [Core.carries, hold, supply]
    have started := triggerPass_carried s.env g (c.powered s.env g) carried
    rw [resume_owned _ _ _ (by rw [hh]; exact ho)]
    refine ⟨⟨started.pass, fun o => (started.resync o).trans ?_, started.position⟩, ?_, ?_⟩
    · exact and_congr_right fun _ => and_congr_right fun segment => by rw [← hk o segment]; rfl
    · rw [started.turnaround]; simp [Core.powered, startTimer, turnaroundMs]
    · rw [started.roundTimer]; simp [Core.powered, startTimer, idleRoundMs]
  · have uncarried : c.carries s.env g = false := by simp [Core.carries, hh, ho]
    rw [resume_lent _ _ _ (by rw [hh]; exact ho), triggerPass_uncarried _ _ _ uncarried]
    exact makeDue_segment g c

/-- What leaves a segment leaves the traffic resumed on it. -/
theorem TrafficResumed.of_kept {s : State} {g : Segment} {c d : Core} (h : TrafficResumed s g c)
    (k : SegmentKept s.env g c d) : TrafficResumed s g d := by
  refine ⟨fun ho => ?_, fun ho => ?_⟩
  · obtain ⟨⟨pass, list, position⟩, turnaround, round⟩ := h.owned ho
    rw [k.segment]
    refine ⟨⟨by rw [k.segment]; exact pass, fun o => by rw [k.segment]; exact list o, fun o present on => ?_⟩,
      turnaround, round⟩
    rw [k.live o on]
    exact position o present on
  · rw [k.segment]
    exact h.lent ho

/-- The return from OUT resumes both segments, each leaving the other, and triggers a start walk (R160). -/
theorem supplyNormal_resumed (s : State) (c : Core) (on : s.supply.state ≠ .out) (hh : c.holds = s.core.holds)
    (hl : ∀ o : OpeningId, c.live o = s.core.live o) (g : Segment) :
    TrafficResumed s g (c.supplyNormal s.env true) := by
  have first := resume_keeps s.env .seg0 c .seg1 (by decide)
  have second := resume_keeps s.env .seg1 (c.resume s.env .seg0) .seg0 (by decide)
  have triggered (h : Segment) : SegmentKept s.env h ((c.resume s.env .seg0).resume s.env .seg1)
      (c.supplyNormal s.env true) := ⟨rfl, fun _ _ => rfl⟩
  cases g with
  | seg0 => exact (resume_resumed s .seg0 c on hh fun o _ => hl o).of_kept (second.trans (triggered .seg0))
  | seg1 =>
    refine (resume_resumed s .seg1 _ on ((resume_holds _ _ _).trans hh) fun o segment => ?_).of_kept (triggered .seg1)
    exact (first.live o segment).trans (hl o)

theorem supplyNormal_notices (e : Env) (c : Core) : (c.supplyNormal e true).notices = c.notices :=
  (resume_notices e .seg1 _).trans (resume_notices e .seg0 c)

/-! ### A supply state entered (R156, R159, R160) -/

/-- A state whose supply state has been entered, before the drive core takes it. -/
def State.supplied (s : State) (new : SupplyState) : State := { s with supply := s.supply.enter s.clock new }

theorem enterSupply_out (s : State) :
    (s.enterSupply .out).core = (s.core.hand .supplyChanged).outage (s.supplied .out).env := by
  simp only [State.enterSupply, State.within_core]
  rfl

theorem enterSupply_normal (s : State) (h : s.supply.state = .out) : (s.enterSupply .normal).core =
    (s.core.hand .supplyChanged).supplyNormal (s.supplied .normal).env true := by
  simp only [State.enterSupply, State.within_core, h, decide_true]
  rfl

end Sys2Proof.Machine

open Sys2Proof Sys2Proof.Machine

/-- Settles O48: R156's table, the voltage judged, the ride-through's expiry as an outage, and the return as traffic
resumed segment by segment. -/
theorem voltageAndOutage : Obligations.VoltageAndOutage := by
  refine ⟨judgeVoltage_rows, fun v f s hr hv => ⟨?judged, fun hf => ?outage, fun hs high => ?back⟩⟩
  case judged =>
    obtain ⟨state, ride, mains⟩ := judgeSupply_supply { s with inputs := { s.inputs with voltage := v } }
    obtain ⟨⟨_, _, inputs, _, _, work, claims⟩, weather⟩ :=
      judgeSupply_leaves { s with inputs := { s.inputs with voltage := v } }
    refine ⟨_, exec_motorVoltageChange_running v s hr hv, ?_⟩
    simp only [State.settled_inputs, State.settled_supply, State.settled_work, State.settled_claims,
      State.settled_weather]
    exact ⟨inputs, state, ride, mains, work, claims, weather⟩
  case outage =>
    refine ⟨(s.atMoment (f.start + f.length)).enterSupply .out,
      by rw [exec_rideThroughExpiry, hf, expiry_running _ _ _ hr], rfl, rfl, ?_⟩
    rw [enterSupply_out]
    refine ⟨reservationSum_empty _ (outage_slots _ _), outage_slots _ _, outage_forgotten _ _, outage_segment _ _,
      fun p => ?_⟩
    rw [outage_notices]
    exact hand_latches s.core.notices .supplyChanged p rfl
  case back =>
    have normal : judgeVoltage s.work.settings v s.supply.state = .normal := by rw [hs]; exact if_pos high
    refine ⟨({ s with inputs := { s.inputs with voltage := v } } : State).enterSupply .normal, ?_, rfl, ?_⟩
    · rw [exec_motorVoltageChange_running v s hr hv, judgeSupply_enters _ .normal normal (by simp [hs])]
    · rw [enterSupply_normal _ (by exact hs)]
      refine ⟨rfl, fun p => ?_, fun g => ?_⟩
      · rw [supplyNormal_notices]
        exact hand_latches s.core.notices .supplyChanged p rfl
      · have resumed := supplyNormal_resumed (s.supplied .normal) (s.core.hand .supplyChanged)
          (by simp [State.supplied, Supply.enter]) rfl (fun _ => rfl) g
        exact ⟨resumed.owned, resumed.lent⟩

end

section
/-! SUPPORT. What a request may change: the blocks it names and the reply on its port, whatever its port assembles; the
statements on what every request leaves and on the requests that are not served. -/

namespace Sys2Proof.Machine

/-! ### A state seen without its ports, and the blocks a request writes -/

/-- A state with other master ports. -/
def State.withPorts (s : State) (ports : PerPort Port) : State := { s with ports := ports }

/-- A state with the blocks that a request may write taken from another state. -/
def MasterRequest.over (r : MasterRequest) (t s : State) : State :=
  { s with
    work := bif r.writesWork then t.work else s.work
    store := bif r.writesStore then t.store else s.store
    claims := bif r.writesClaims then t.claims else s.claims
    weather := bif r.writesWeather then t.weather else s.weather
    supply := bif r.writesSupply then t.supply else s.supply
    core := bif r.leavesCore then s.core else t.core }

/-- An answer to a request that reads no port and writes the request's own blocks alone. -/
def MasterRequest.confines (r : MasterRequest) (f : State → State × Verdict) : Prop :=
  ∀ (s : State) (ports : PerPort Port), f (s.withPorts ports) = (r.over (f s).1 (s.withPorts ports), (f s).2)

section Fields

variable (s : State) (ports : PerPort Port)

@[simp] theorem withPorts_own : s.withPorts s.ports = s := rfl
@[simp] theorem withPorts_env : (s.withPorts ports).env = s.env := rfl
@[simp] theorem withPorts_work : (s.withPorts ports).work = s.work := rfl
@[simp] theorem withPorts_claims : (s.withPorts ports).claims = s.claims := rfl
@[simp] theorem withPorts_within (f : Env → Core → Core) :
    (s.withPorts ports).within f = (s.within f).withPorts ports := rfl
@[simp] theorem withPorts_onSky (f : Env → Sky → Sky) :
    (s.withPorts ports).onSky f = (s.onSky f).withPorts ports := rfl
@[simp] theorem withPorts_settled : (s.withPorts ports).settled = s.settled.withPorts ports := by
  unfold State.settled; rfl
@[simp] theorem withPorts_editBarred : (s.withPorts ports).editBarred = s.editBarred := rfl

end Fields

/-- A choice between two confined answers, by a test that reads no port. -/
theorem ite_over {r : MasterRequest} {s : State} {x x' y y' : State × Verdict} {c d : Prop}
    [i : Decidable c] [j : Decidable d] (same : c = d) (h : x = (r.over y.1 s, y.2)) (h' : x' = (r.over y'.1 s, y'.2)) :
    (if c then x else x') = (r.over (if d then y else y').1 s, (if d then y else y').2) := by
  subst same
  by_cases hc : c
  · simpa only [if_pos hc] using h
  · simpa only [if_neg hc] using h'

section Served

theorem readOpening_confined (p : Role) (b : Byte) :
    (MasterRequest.readOpening b).confines (serveReadOpening p b) := by
  intro s ports
  unfold serveReadOpening
  cases finOf? 128 b.toNat with
  | none => rfl
  | some o => exact ite_over rfl rfl rfl

theorem readBlock_confined (b : Byte) : (MasterRequest.readBlock b).confines (serveReadBlock b) := by
  intro s ports
  unfold serveReadBlock
  cases finOf? 128 b.toNat with
  | none => rfl
  | some o => exact ite_over rfl rfl rfl

theorem claim_confined (p : Role) (a b x : Byte) : (MasterRequest.claim a b x).confines (serveClaim p a b x) := by
  intro s ports
  unfold serveClaim
  cases claimScopeOf a b with
  | error i => rfl
  | ok k =>
    cases positionOf? x with
    | none => rfl
    | some y =>
      refine ite_over rfl rfl ?_
      simp only [withPorts_env, withPorts_claims]
      split
      · rfl
      · split
        · rfl
        · split <;> rfl

theorem release_confined (p : Role) (a b : Byte) : (MasterRequest.release a b).confines (serveRelease p a b) := by
  intro s ports
  unfold serveRelease
  cases claimScopeOf a b with
  | error i => rfl
  | ok k =>
    refine ite_over rfl rfl ?_
    simp only [withPorts_claims]
    split <;> rfl

theorem advisory_confined (a b : Byte) (d : Word16) :
    (MasterRequest.advisory a b d).confines (serveAdvisory a b d) := by
  intro s ports
  unfold serveAdvisory
  cases advisoryKindOf? a with
  | none => rfl
  | some k =>
    simp only [withPorts_onSky, withPorts_settled]
    exact ite_over rfl rfl (ite_over rfl rfl (ite_over rfl (ite_over rfl rfl rfl) rfl))

theorem staticSet_confined (a b k x : Byte) :
    (MasterRequest.staticSet a b k x).confines (serveStaticSet a b k x) := by
  intro s ports
  refine ite_over rfl rfl ?_
  cases staticKeyOf a b with
  | error i => rfl
  | ok key =>
    cases staticKindOf k x with
    | error i => rfl
    | ok kind =>
      refine ite_over rfl rfl ?_
      simp only [withPorts_work]
      split
      · rfl
      · split <;> rfl

theorem staticClear_confined (a b : Byte) :
    (MasterRequest.staticClear a b).confines (serveStaticClear a b) := by
  intro s ports
  refine ite_over rfl rfl ?_
  cases staticKeyOf a b with
  | error i => rfl
  | ok key =>
    refine ite_over rfl rfl ?_
    simp only [withPorts_work]
    split <;> rfl

theorem clearFault_confined (b : Byte) : (MasterRequest.clearFault b).confines (serveClearFault b) := by
  intro s ports
  unfold serveClearFault
  cases finOf? 128 b.toNat with
  | none => rfl
  | some o =>
    simp only [withPorts_within, withPorts_settled]
    exact ite_over rfl rfl (ite_over rfl rfl rfl)

theorem openingWrite_confined (a b c d e f g h i : Byte) :
    (MasterRequest.openingWrite a b c d e f g h i).confines (serveOpeningWrite a b c d e f g h i) := by
  intro s ports
  simp only [serveOpeningWrite, withPorts_editBarred]
  split
  · rfl
  · cases openingFields a b c d e f g h i with
    | error i => rfl
    | ok x => exact ite_over rfl rfl (ite_over rfl rfl (ite_over rfl rfl (ite_over rfl rfl rfl)))

theorem save_confined : MasterRequest.save.confines serveSave := fun _ _ => ite_over rfl rfl rfl

theorem mode_confined (b : Byte) : (MasterRequest.mode b).confines (serveMode b) := by
  intro s ports
  unfold serveMode
  cases modeOf? b with
  | none => rfl
  | some m => exact ite_over rfl rfl rfl

/-- Each of the two admissions ends or stays as it was, and either way claims alone are removed (R27). -/
theorem writeZone_over (a b c d e f : Byte) (z : ZoneId) (new : Zone) (s : State) (ports : PerPort Port) :
    (s.withPorts ports).writeZone z new =
      (MasterRequest.zoneWrite a b c d e f).over (s.writeZone z new) (s.withPorts ports) := by
  simp only [State.writeZone, State.endAdmission, withPorts_work]
  by_cases ventilation : (look s.work.zones z).admits .ventilation && !new.admits .ventilation <;>
    by_cases security : (look s.work.zones z).admits .security && !new.admits .security <;>
      (simp only [ventilation, security, if_true]; rfl)

theorem zoneWrite_confined (a b c d e f : Byte) :
    (MasterRequest.zoneWrite a b c d e f).confines (serveZoneWrite a b c d e f) := by
  intro s ports
  simp only [serveZoneWrite, withPorts_editBarred]
  split
  · rfl
  · cases zoneFields a b c d e f with
    | error i => rfl
    | ok x => exact Prod.ext (writeZone_over a b c d e f x.1 x.2 s ports) rfl

end Served

/-! ### What a changed setting does at once (R179) -/

/-- A state with the claims, the Weather Assessor, the Supply Monitor and the drive core of another. -/
def State.withEffects (s t : State) : State :=
  { s with claims := t.claims, weather := t.weather, supply := t.supply, core := t.core }

/-- What a changed setting may do: it reads no port, and the record, the store and the rest of the part stay. -/
def EffectsOnly (op : State → State) : Prop :=
  ∀ (s : State) (ports : PerPort Port), op (s.withPorts ports) = (s.withPorts ports).withEffects (op s)

theorem EffectsOnly.own {op : State → State} (h : EffectsOnly op) (s : State) : op s = s.withEffects (op s) :=
  h s s.ports

theorem EffectsOnly.blind {op : State → State} (h : EffectsOnly op) (s : State) (ports : PerPort Port) :
    op (s.withPorts ports) = (op s).withPorts ports := by
  rw [h s ports, h.own s]
  rfl

theorem EffectsOnly.comp {f g : State → State} (hg : EffectsOnly g) (hf : EffectsOnly f) :
    EffectsOnly fun s => g (f s) := by
  intro s ports
  calc g (f (s.withPorts ports))
      = g ((f s).withPorts ports) := congrArg g (hf.blind s ports)
    _ = ((f s).withPorts ports).withEffects (g (f s)) := hg (f s) ports
    _ = ((s.withEffects (f s)).withPorts ports).withEffects (g (f s)) :=
      congrArg (fun t => (t.withPorts ports).withEffects (g (f s))) (hf.own s)
    _ = (s.withPorts ports).withEffects (g (f s)) := rfl

theorem ite_effects {s t t' x x' : State} {c d : Prop} [i : Decidable c] [j : Decidable d] (same : c = d)
    (h : x = s.withEffects t) (h' : x' = s.withEffects t') :
    (if c then x else x') = s.withEffects (if d then t else t') := by
  subst same
  by_cases hc : c
  · simpa only [if_pos hc] using h
  · simpa only [if_neg hc] using h'

section Settings

variable (old : Settings)

theorem settled_effects : EffectsOnly State.settled := by
  intro s ports
  rw [withPorts_settled]
  unfold State.settled
  rfl

theorem agingChanged_effects : EffectsOnly (State.agingChanged old) := fun _ _ => ite_effects rfl rfl rfl

theorem filterChanged_effects (x : RainContact) : EffectsOnly (State.filterChanged x) :=
  fun _ _ => ite_effects rfl rfl rfl

theorem rainFilterChanged_effects : EffectsOnly (State.rainFilterChanged old) := fun s ports =>
  ite_effects rfl rfl (((filterChanged_effects .facade).comp (filterChanged_effects .roof)) s ports)

theorem dryOutChanged_effects : EffectsOnly (State.dryOutChanged old) :=
  fun _ _ => ite_effects rfl rfl (ite_effects rfl rfl rfl)

theorem thresholdsChanged_effects : EffectsOnly (State.thresholdsChanged old) := fun _ _ => ite_effects rfl rfl rfl

theorem standDownChanged_effects : EffectsOnly (State.standDownChanged old) :=
  fun _ _ => ite_effects rfl rfl (ite_effects rfl rfl rfl)

theorem ceilingChanged_effects : EffectsOnly (State.ceilingChanged old) := fun _ _ => ite_effects rfl rfl rfl

theorem reclaimRetimed_effects (g : Segment) : EffectsOnly (State.reclaimRetimed g) := fun _ _ => rfl

theorem reclaimChanged_effects : EffectsOnly (State.reclaimChanged old) := fun s ports =>
  ite_effects rfl rfl (((reclaimRetimed_effects .seg1).comp (reclaimRetimed_effects .seg0)) s ports)

theorem budgetsChanged_effects (old : Content) : EffectsOnly (State.budgetsChanged old) :=
  fun _ _ => ite_effects rfl rfl rfl

theorem marksChanged_effects : EffectsOnly (State.marksChanged old) := fun _ _ => ite_effects rfl rfl rfl

theorem levelsChanged_effects : EffectsOnly (State.levelsChanged old) :=
  fun _ _ => ite_effects rfl rfl (ite_effects rfl rfl rfl)

/-- The effects of a changed record, in the order of log entry 22, and the checks at the end of the event. -/
def State.settingsTaken (old : Content) (s : State) : State :=
  let o := old.settings
  let s := (((s.agingChanged o).rainFilterChanged o).dryOutChanged o).thresholdsChanged o
  let s := ((s.standDownChanged o).ceilingChanged o).reclaimChanged o
  (((s.budgetsChanged old).marksChanged o).levelsChanged o).settled

theorem writeSettings_eq (s : State) (new : Settings) : s.writeSettings new =
    ({ s with work := { s.work with settings := new } } : State).settingsTaken s.work := rfl

theorem settingsTaken_effects (old : Content) : EffectsOnly (State.settingsTaken old) := by
  have weather := (thresholdsChanged_effects old.settings).comp ((dryOutChanged_effects old.settings).comp
    ((rainFilterChanged_effects old.settings).comp (agingChanged_effects old.settings)))
  have holds := (reclaimChanged_effects old.settings).comp ((ceilingChanged_effects old.settings).comp
    ((standDownChanged_effects old.settings).comp weather))
  exact settled_effects.comp ((levelsChanged_effects old.settings).comp ((marksChanged_effects old.settings).comp
    ((budgetsChanged_effects old).comp holds)))

end Settings

/-- An accepted SETTINGS_WRITE replaces the settings of the working copies and no other content (R179). -/
theorem writeSettings_work (s : State) (new : Settings) :
    (s.writeSettings new).work = { s.work with settings := new } := by
  rw [writeSettings_eq, (settingsTaken_effects s.work).own]
  rfl

theorem writeSettings_ports (s : State) (new : Settings) : (s.writeSettings new).ports = s.ports := by
  rw [writeSettings_eq, (settingsTaken_effects s.work).own]
  rfl

theorem settingsWrite_confined (x : Settings) : (MasterRequest.settingsWrite x).confines (serveSettingsWrite x) := by
  intro s ports
  simp only [serveSettingsWrite, withPorts_editBarred]
  split
  · rfl
  · cases settingsFault x with
    | some i => rfl
    | none =>
      have taken : (s.withPorts ports).writeSettings x =
          ({ s.withPorts ports with work := { s.work with settings := x } } : State).withEffects (s.writeSettings x) :=
        settingsTaken_effects s.work { s with work := { s.work with settings := x } } ports
      rw [← writeSettings_work s x] at taken
      exact Prod.ext taken rfl

/-! ### Every request -/

theorem serve_confined (r : MasterRequest) (p : Role) : r.confines (r.serve p) := by
  cases r with
  | readOpening b => exact readOpening_confined p b
  | readBlock b => exact readBlock_confined b
  | claim a b x => exact claim_confined p a b x
  | release a b => exact release_confined p a b
  | advisory a b d => exact advisory_confined a b d
  | staticSet a b k x => exact staticSet_confined a b k x
  | staticClear a b => exact staticClear_confined a b
  | clearFault b => exact clearFault_confined b
  | openingWrite a b c d e f g h i => exact openingWrite_confined a b c d e f g h i
  | zoneWrite a b c d e f => exact zoneWrite_confined a b c d e f
  | settingsWrite x => exact settingsWrite_confined x
  | save => exact save_confined
  | mode b => exact mode_confined b
  | readStatus | readEvents | settingsRead | reset => exact fun _ _ => rfl
  | readWeather | readStatic | readClaim | zoneRead | readCounters | setMask | forceEvent | resync =>
    intro s ports
    simp only [MasterRequest.serve, serveReadWeather, serveReadStatic, serveReadClaim, serveZoneRead,
      serveReadCounters, serveSetMask, serveForceEvent, serveResync]
    split <;> rfl

/-- What a permitted request's block leaves (R174). -/
theorem serve_over (r : MasterRequest) (p : Role) (s : State) : (r.serve p s).1 = r.over (r.serve p s).1 s :=
  congrArg Prod.fst (serve_confined r p s s.ports)

/-- A request's block reads no port (R174). -/
theorem serve_withPorts (r : MasterRequest) (p : Role) (s : State) (ports : PerPort Port) :
    r.serve p (s.withPorts ports) = ((r.serve p s).1.withPorts ports, (r.serve p s).2) :=
  (serve_confined r p s ports).trans
    (congrArg (fun t : State => (t.withPorts ports, (r.serve p s).2)) (serve_over r p s).symm)

/-! ### What is left of each block -/

section Over

variable (r : MasterRequest) (t s : State)

theorem over_self : r.over s s = s := by simp [MasterRequest.over]

theorem over_work (h : r.writesWork = false) : (r.over t s).work = s.work := by simp [MasterRequest.over, h]

theorem over_store (h : r.writesStore = false) : (r.over t s).store = s.store := by simp [MasterRequest.over, h]

theorem over_claims (h : r.writesClaims = false) : (r.over t s).claims = s.claims := by simp [MasterRequest.over, h]

theorem over_weather (h : r.writesWeather = false) : (r.over t s).weather = s.weather := by
  simp [MasterRequest.over, h]

theorem over_supply (h : r.writesSupply = false) : (r.over t s).supply = s.supply := by simp [MasterRequest.over, h]

theorem over_core (h : r.leavesCore = true) : (r.over t s).core = s.core := by simp [MasterRequest.over, h]

end Over

/-- Taking a request changes nothing, or writes the request's own blocks and sends a reply (R173, R174). -/
theorem takeRequest_over (r : MasterRequest) (p : Role) (s : State) : s.takeRequest p r = s ∨
    ∃ (t : State) (y : Reply), s.takeRequest p r = (r.over t s).sending p y := by
  rcases takeRequest_cases s p r with unchanged | ⟨y, refused⟩ | ⟨y, _, served⟩
  · exact .inl unchanged
  · exact .inr ⟨s, y, by rw [refused, over_self]⟩
  · exact .inr ⟨(r.serve p s).1, y, by rw [served, ← serve_over]⟩

end Sys2Proof.Machine

open Sys2Proof Sys2Proof.Machine

/-- Settles O5: a request is not taken while its port answers, and not served where R176 does not mark its role. -/
theorem requestsAreGated : Obligations.RequestsAreGated := by
  intro r p s
  refine ⟨fun _ answering => ?_, fun taken forbidden => exec_forbidden r p s taken forbidden⟩
  rw [exec_command, takeRequest_answering s p r answering]

/-- Settles O6: a request is taken with a reply over the blocks it may write, or not at all. -/
theorem requestsLeaveTheRest : Obligations.RequestsLeaveTheRest := by
  intro r p s
  refine ⟨s.takeRequest p r, exec_command r p s, ?_⟩
  rcases takeRequest_over r p s with h | ⟨t, y, h⟩ <;> rw [h]
  · exact ⟨rfl, rfl, rfl, rfl, fun _ _ => rfl, rfl, rfl, fun _ => rfl, fun _ => rfl, fun _ => rfl, fun _ => rfl,
      fun _ => rfl, fun _ => rfl⟩
  · refine ⟨rfl, rfl, rfl, rfl, fun q other => PerPort.get_set_ne _ _ _ _ other, ?_, ?_, over_work r t s,
      over_store r t s, over_claims r t s, over_weather r t s, over_supply r t s, over_core r t s⟩
    · rw [State.sending_ports, PerPort.get_set_same]
      rfl
    · rw [State.sending_ports, PerPort.get_set_same]
      rfl

end

section
/-! SUPPORT. The frames of the requests, as sent and as taken: payloads and codes, the checks of R172, and the bytes
that hunt and assemble; the statements on a whole frame and on the lines of a master port. -/

namespace Sys2Proof.Machine

/-! ### Payloads (R200) -/

/-- Whether numbers fit fields of given sizes, and are exactly as many. -/
def fieldsFit : List Bool → List Nat → Prop
  | [], [] => True
  | true :: ws, n :: ns => n < 65536 ∧ fieldsFit ws ns
  | false :: ws, n :: ns => n < 256 ∧ fieldsFit ws ns
  | _, _ => False

theorem joinBytes_twoBytes (n : Nat) (h : n < 65536) :
    (joinBytes (highByte (BitVec.ofNat 16 n)) (lowByte (BitVec.ofNat 16 n))).toNat = n := by
  rw [joinBytes_high_low, BitVec.toNat_ofNat, Nat.mod_eq_of_lt h]

/-- Fields that fit are read back from their bytes. -/
theorem splitFields_layFields (ws : List Bool) (ns : List Nat) (h : fieldsFit ws ns) :
    splitFields ws (layFields ws ns) = some ns := by
  induction ws generalizing ns with
  | nil =>
    cases ns with
    | nil => rfl
    | cons n ns => exact h.elim
  | cons wide ws ih =>
    cases ns with
    | nil => cases wide <;> exact h.elim
    | cons n ns =>
      cases wide with
      | true =>
        obtain ⟨fits, rest⟩ := h
        simp only [layFields, twoBytes, List.cons_append, List.nil_append, splitFields, ih ns rest, Option.map_some,
          joinBytes_twoBytes n fits]
      | false =>
        obtain ⟨fits, rest⟩ := h
        simp only [layFields, splitFields, ih ns rest, Option.map_some, byteOf_toNat n fits]

theorem settings_fieldsFit (x : Settings) (h : x.fits = true) : fieldsFit settingIsWide (settingsToList x) := by
  simp only [Settings.fits, List.all_cons, List.all_nil, Bool.and_eq_true, decide_eq_true_eq, and_true] at h
  simp only [settingIsWide, settingsToList, List.cons_append, List.nil_append, fieldsFit, h, and_self]

/-- A settings record that fits its frame is read back from its bytes (R200). -/
theorem settings_readBack (x : Settings) (h : x.fits = true) :
    (splitFields settingIsWide (settingsBytes x)).bind settingsOfList = some x := by
  rw [settingsBytes, splitFields_layFields _ _ (settings_fieldsFit x h)]
  rfl

theorem knownCode_code (r : MasterRequest) : knownCode r.code = true := by cases r <;> rfl

/-- A request's code and payload spell the request (R200). -/
theorem requestOf_payload (r : MasterRequest) (h : ∀ x : Settings, r = .settingsWrite x → x.fits = true) :
    requestOf r.code r.payload = some r := by
  cases r with
  | settingsWrite x => exact congrArg (Option.map MasterRequest.settingsWrite) (settings_readBack x (h x rfl))
  | setMask w => exact congrArg (fun w => some (MasterRequest.setMask w)) (joinBytes_high_low w)
  | forceEvent w => exact congrArg (fun w => some (MasterRequest.forceEvent w)) (joinBytes_high_low w)
  | advisory a b w => exact congrArg (fun w => some (MasterRequest.advisory a b w)) (joinBytes_high_low w)
  | _ => rfl

/-! ### Whole frames (R172, R199) -/

theorem dropLast_dropLast (l : List Byte) (a b : Byte) : (l ++ [a, b]).dropLast.dropLast = l := by
  rw [List.append_cons, List.dropLast_concat, List.dropLast_concat]

/-- A frame that ends in the CRC-16 of its contents passes (R199). -/
theorem frameCrcOk_checked (sync : Byte) (body : List Byte) :
    frameCrcOk (received ((sync :: body) ++ [highByte (crc16 body), lowByte (crc16 body)])) = true := by
  simp only [frameCrcOk, received_value, List.cons_append, List.drop_succ_cons, List.drop_zero, dropLast_dropLast,
    List.drop_left, decide_true]

theorem frameParts_frame (r : MasterRequest) : frameParts (received r.frame) = (r.code, r.payload) := by
  simp only [frameParts, received_value, MasterRequest.frame, List.cons_append, List.drop_succ_cons, List.drop_zero,
    dropLast_dropLast]
  rfl

theorem takeFrame_frame (r : MasterRequest) (p : Role) (s : State) (taken : s.takes p)
    (fits : ∀ x : Settings, r = .settingsWrite x → x.fits = true) :
    s.takeFrame p (received r.frame) = s.takeRequest p r := by
  simp [State.takeFrame, taken.2, frameParts_frame, knownCode_code, requestOf_payload r fits]

/-- No bytes are hunted again. -/
theorem takeBytes_nil (s : State) (p : Role) : s.takeBytes p [] = s := rfl

/-- One byte hunted again. -/
theorem takeBytes_one (s : State) (p : Role) (b : RxByte) (h : (s.takeByte p b).2 = []) :
    s.takeBytes p [b] = (s.takeByte p b).1 := by
  unfold State.takeBytes
  rw [State.huntBytes, h]
  rfl

theorem takes_setPort {s : State} (p : Role) (f : Port → Port) (taken : s.takes p)
    (quiet : (f (s.ports.get p)).answering = false) : (s.setPort p f).takes p :=
  ⟨taken.1, by rwa [State.setPort_ports, PerPort.get_set_same]⟩

/-- An answered request: what it writes and what it replies do not depend on the ports, and its own port is left with
the reply (R173). -/
theorem answer_withPorts (r : MasterRequest) (p : Role) (s : State) : ∃ (t : State) (y : Reply),
    ∀ ports : PerPort Port,
      (s.withPorts ports).answer p r = t.withPorts (ports.set p ((ports.get p).replying y)) := by
  cases permitted : r.permits p with
  | true =>
    refine ⟨(r.serve p s).1, (r.serve p s).2.reply r.code, fun ports => ?_⟩
    rw [answer_served _ p r permitted, serve_withPorts]
    rfl
  | false =>
    refine ⟨s, (Verdict.refused .notPermitted).reply r.code, fun ports => ?_⟩
    rw [answer_forbidden _ p r permitted]
    rfl

/-- A request taken on a port with a frame in its buffer, and the buffer emptied: what the request does on a port that
hunts with an empty buffer (R172, R173). -/
theorem takeRequest_buffered (r : MasterRequest) (p : Role) (s : State) (frame : List RxByte) (taken : s.takes p)
    (hunting : (s.ports.get p).assembly = .hunting) (empty : (s.ports.get p).buffer = none) :
    ((s.setPort p fun x => { x with assembly := .hunting, buffer := some frame }).takeRequest p r).setPort p
      (fun x => { x with buffer := none }) = s.takeRequest p r := by
  obtain ⟨t, y, answered⟩ := answer_withPorts r p s
  have own : s.answer p r = t.withPorts (s.ports.set p ((s.ports.get p).replying y)) := answered s.ports
  have buffered := answered (s.ports.set p { s.ports.get p with assembly := .hunting, buffer := some frame })
  rw [takeRequest_taken s p r taken, takeRequest_taken _ p r (takes_setPort p _ taken taken.2), own]
  refine (congrArg (fun u : State => u.setPort p fun x => { x with buffer := none }) buffered).trans ?_
  simp only [State.setPort, State.withPorts, PerPort.get_set_same, PerPort.set_set, Port.replying, hunting, empty]

/-- The frame of a request, received whole (R172, R173). -/
theorem completeFrame_frame (r : MasterRequest) (p : Role) (s : State) (taken : s.takes p)
    (hunting : (s.ports.get p).assembly = .hunting) (empty : (s.ports.get p).buffer = none)
    (fits : ∀ x : Settings, r = .settingsWrite x → x.fits = true) :
    s.completeFrame p (received r.frame) = (s.takeRequest p r, []) := by
  have held :=
    takes_setPort p (fun x => { x with assembly := .hunting, buffer := some (received r.frame) }) taken taken.2
  have crc : frameCrcOk (received r.frame) = true := frameCrcOk_checked _ _
  simp only [State.completeFrame, crc, received_noError, takeFrame_frame r p _ held fits, Bool.not_true,
    Bool.false_eq_true, if_false, takeRequest_buffered r p s _ taken hunting empty]

/-! ### Bytes in turn (R171, R172) -/

section Bytes

variable (p : Role) (b : RxByte) (s : State)

theorem takeByte_hunting (h : (s.ports.get p).assembly = .hunting) : s.takeByte p b =
    if b.value = 0x5A#8 then (s.setPort p fun x => { x with assembly := .assembling [b] }, []) else (s, []) := by
  simp only [State.takeByte, h]

/-- A length byte out of range ends the assembly and is hunted again (log entry 4). -/
theorem takeByte_badLength (bytes : List RxByte) (h : (s.ports.get p).assembly = .assembling bytes)
    (first : bytes.length = 1) (bad : b.value.toNat < 5 ∨ 49 < b.value.toNat) :
    s.takeByte p b = (s.setPort p fun x => { x with assembly := .hunting }, [b]) := by
  simp only [State.takeByte, h]
  exact if_pos ⟨first, by omega⟩

/-- A byte that does not bring the frame to its length is kept (R171). -/
theorem takeByte_kept (bytes : List RxByte) (n : RxByte) (h : (s.ports.get p).assembly = .assembling bytes)
    (good : bytes.length = 1 → 5 ≤ b.value.toNat ∧ b.value.toNat ≤ 49) (hn : (bytes ++ [b])[1]? = some n)
    (short : n.value.toNat ≠ bytes.length + 1) :
    s.takeByte p b = (s.setPort p fun x => { x with assembly := .assembling (bytes ++ [b]) }, []) := by
  simp only [State.takeByte, h, hn, List.length_append, List.length_singleton, Option.map_some, Option.some.injEq]
  rw [if_neg fun bad => bad.2 (good bad.1), if_neg short]

/-- The byte that brings the frame to its length completes it (R172). -/
theorem takeByte_completes (bytes : List RxByte) (n : RxByte) (h : (s.ports.get p).assembly = .assembling bytes)
    (long : bytes.length ≠ 1) (hn : (bytes ++ [b])[1]? = some n) (full : n.value.toNat = bytes.length + 1) :
    s.takeByte p b = s.completeFrame p (bytes ++ [b]) := by
  simp only [State.takeByte, h, hn, List.length_append, List.length_singleton, Option.map_some, Option.some.injEq]
  rw [if_neg fun bad => long bad.1, if_pos full]

theorem exec_byteReceived_running (h : s.inReset = false) : exec (.byteReceived p b) s =
    .next ((s.takeByte p b).1.takeBytes p (s.takeByte p b).2) := by
  rw [exec_byteReceived, unlessHeld_running _ _ h]

/-- A byte after which nothing is hunted again. -/
theorem exec_byteReceived_taken (t : State) (h : s.inReset = false) (ht : s.takeByte p b = (t, [])) :
    exec (.byteReceived p b) s = .next t := by
  rw [exec_byteReceived_running p b s h, ht, takeBytes_nil]

/-- A length byte out of range is discarded, and itself hunted again (log entry 4). -/
theorem exec_byteReceived_badLength (bytes : List RxByte) (hr : s.inReset = false)
    (h : (s.ports.get p).assembly = .assembling bytes) (first : bytes.length = 1)
    (bad : b.value.toNat < 5 ∨ 49 < b.value.toNat) : exec (.byteReceived p b) s =
      .next (s.setPort p fun x => { x with assembly := if b.value = 0x5A#8 then .assembling [b] else .hunting }) := by
  have hunts : ((s.setPort p fun x => { x with assembly := .hunting }).ports.get p).assembly = .hunting := by simp
  rw [exec_byteReceived_running p b s hr, takeByte_badLength p b s bytes h first bad]
  by_cases sync : b.value = 0x5A#8
  · rw [takeBytes_one] <;> rw [takeByte_hunting p b _ hunts, if_pos sync]
    simp [State.setPort, sync]
  · rw [takeBytes_one] <;> rw [takeByte_hunting p b _ hunts, if_neg sync]
    simp [sync]

theorem exec_frameGapTimeout_running (h : s.inReset = false) : exec (.frameGapTimeout p) s =
    .next (s.setPort p fun x => { x with assembly := .hunting }) := by
  rw [exec_frameGapTimeout, unlessHeld_running _ _ h]
  rfl

/-! ### The end of a reply (R173, R181) -/

theorem exec_replySent_running (h : s.inReset = false) : exec (.replySent p) s = .next (s.replyLeaves p) := by
  rw [exec_replySent, unlessHeld_running _ _ h]

theorem replyLeaves_other (h : (s.ports.get p).reply.any Reply.isReset = false) :
    s.replyLeaves p = s.setPort p fun x => { x with answering := false, reply := none } := by
  simp only [State.replyLeaves, h, Bool.false_eq_true, if_false]

theorem replyLeaves_reset (h : (s.ports.get p).reply.any Reply.isReset = true) : s.replyLeaves p =
    (s.setPort p fun x => { x with answering := false, reply := none }).enterReset .soft := by
  simp only [State.replyLeaves, h, if_true]

end Bytes

end Sys2Proof.Machine

open Sys2Proof Sys2Proof.Machine

/-- Settles O7: the frame passes the checks of R172 and spells its request, which does not look at the port's buffer. -/
theorem frameArrivalTakesItsRequest : Obligations.FrameArrivalTakesItsRequest := by
  intro r p s taken hunting empty fits
  obtain ⟨t, y, answered⟩ := answer_withPorts r p s
  refine ⟨?_, s.takeRequest p r, exec_command r p s, ?_⟩
  · rw [exec_requestFrameArrival, unlessHeld_running _ _ taken.1, completeFrame_frame r p s taken hunting empty fits,
      exec_command]
    rfl
  · rw [takeRequest_taken s p r taken, ← withPorts_own s, answered s.ports]
    exact congrArg Port.answering (PerPort.get_set_same _ _ _)

/-- Settles O8: a port's byte by its assembly, a gap, and the two ends of a reply. -/
theorem portLinesHuntAndReply : Obligations.PortLinesHuntAndReply := by
  refine ⟨fun p b s hr => ⟨fun hunting => ⟨fun sync => ?sync, fun other => ?other⟩,
      fun bytes assembling => ⟨exec_byteReceived_badLength p b s bytes hr assembling, fun first low high => ?length,
        fun n second => ⟨fun short => ?short, fun full => ?full⟩⟩, exec_frameGapTimeout_running p s hr⟩,
    fun p s => ⟨fun hr plain => ?plain, fun taken => ⟨?asked, ?reset⟩⟩⟩
  case sync => exact exec_byteReceived_taken p b s _ hr ((takeByte_hunting p b s hunting).trans (if_pos sync))
  case other => exact exec_byteReceived_taken p b s _ hr ((takeByte_hunting p b s hunting).trans (if_neg other))
  case length =>
    have second : (bytes ++ [b])[1]? = some b := by rw [← first, List.getElem?_concat_length]
    exact exec_byteReceived_taken p b s _ hr
      (takeByte_kept p b s bytes b assembling (fun _ => ⟨low, high⟩) second (by omega))
  case short =>
    have long : 1 < bytes.length := (List.getElem?_eq_some_iff.1 second).1
    exact exec_byteReceived_taken p b s _ hr (takeByte_kept p b s bytes n assembling (by omega)
      (by rwa [List.getElem?_append_left long]) short)
  case full =>
    have long : 1 < bytes.length := (List.getElem?_eq_some_iff.1 second).1
    rw [exec_byteReceived_running p b s hr, takeByte_completes p b s bytes n assembling (by omega)
      (by rwa [List.getElem?_append_left long]) full, exec_requestFrameArrival, unlessHeld_running _ _ hr]
  case plain => rw [exec_replySent_running p s hr, replyLeaves_other p s plain]; rfl
  case asked => exact exec_served .reset .service s s (.ok []) taken rfl rfl
  case reset =>
    refine ⟨_, exec_replySent_running .service (s.sendingOk .service 25 []) taken.1, ?_⟩
    rw [replyLeaves_reset .service (s.sendingOk .service 25 []) rfl]
    exact ⟨rfl, rfl, rfl⟩

end

section
/-! SUPPORT. The record judged by SETTINGS_WRITE, the mode, and the beginning and the end of a save; the statements on
them. -/

namespace Sys2Proof.Machine

/-! ### SETTINGS_WRITE (R179) -/

theorem firstFault_eq_none (checks : List Bool) : firstFault checks = none ↔ checks.all id = true := by
  simp [firstFault, List.findIdx?_eq_none_iff]

/-- A record is refused with a field index exactly when it is out of range or breaks a relation (R179). -/
theorem settingsFault_eq_none (r : Settings) : settingsFault r = none ↔ settingsValid r = true := by
  simp only [settingsFault, settingsValid, Option.or_eq_none_iff, firstFault_eq_none, Bool.and_eq_true,
    Option.isNone_iff_eq_none]

section Store

variable (s : State)

theorem serveSettingsWrite_taken (r : Settings) (unbarred : s.editBarred = none) (valid : settingsValid r = true) :
    serveSettingsWrite r s = (s.writeSettings r, .ok []) := by
  simp only [serveSettingsWrite, unbarred, (settingsFault_eq_none r).2 valid]

theorem serveSettingsWrite_outOfRange (r : Settings) (unbarred : s.editBarred = none)
    (invalid : settingsValid r = false) : ∃ i : Nat, serveSettingsWrite r s = (s, .outOfRange i) := by
  cases fault : settingsFault r with
  | none => simp [(settingsFault_eq_none r).1 fault] at invalid
  | some i => exact ⟨i, by simp only [serveSettingsWrite, unbarred, fault]⟩

/-! ### SAVE and its completion (R180, R193, R194) -/

/-- A state whose save has begun: the image holds the working copies and is not valid yet (R193). -/
def State.saveBegun : State :=
  { s with store := { s.store with state := .saving, imageValid := false, image := s.work, crcMatches := false } }

theorem serveSave_saving (h : s.store.state = .saving) : serveSave s = (s, .refused .busy) := if_pos h

theorem serveSave_idle (h : s.store.state = .idle) : serveSave s = (s.saveBegun, .ok []) :=
  if_neg (by simp [h])

theorem exec_saveCompletion_saving (intact : Bool) (hr : s.inReset = false) (h : s.store.state = .saving) :
    exec (.saveCompletion intact) s = .next (s.saveEnds intact) := by
  rw [exec_saveCompletion, unlessHeld_running _ _ hr, if_pos h]

/-- A STORE_DONE is latched on the Service port with its result, and on no other (R183, R184). -/
theorem hand_storeDone (n : Notices) (result : StoreResult) :
    hasKind ((n.hand (.storeDone result)).ports.get .service).latch .storeDone = true ∧
      ((n.hand (.storeDone result)).ports.get .service).details.store = some result ∧
      (n.hand (.storeDone result)).ports.get .security = n.ports.get .security := by
  refine ⟨hand_latches n (.storeDone result) .service rfl, ?_, ?_⟩
  · simp [Notices.hand, Happening.latchedOn, NoticePort.latchEvent, NoticePort.deriveAttn, Happening.detail]
  · simp [Notices.hand, Happening.latchedOn]

/-! ### MODE (R180) -/

theorem modeOf?_commission : modeOf? 1 = some .commission := rfl

theorem modeOf?_operate : modeOf? 0 = some .operate := rfl

theorem modeOf?_outOfRange (b : Byte) (h : 2 ≤ b.toNat) : modeOf? b = none := by
  unfold modeOf?
  split
  · omega
  · omega
  · rfl

/-- A state in another mode. -/
def State.inMode (m : Mode) : State := { s with store := { s.store with mode := m } }

theorem serveMode_set (b : Byte) (m : Mode) (named : modeOf? b = some m)
    (allowed : ¬(m = .operate ∧ s.store.mode = .commission ∧ s.store.imageValid = false)) :
    serveMode b s = (s.inMode m, .ok []) := by
  simp only [serveMode, named]
  exact if_neg allowed

theorem serveMode_wrongMode (b : Byte) (named : modeOf? b = some .operate) (mode : s.store.mode = .commission)
    (image : s.store.imageValid = false) : serveMode b s = (s, .refused .wrongMode) := by
  simp only [serveMode, named, mode, image, and_self, if_true]

theorem serveMode_outOfRange (b : Byte) (h : modeOf? b = none) : serveMode b s = (s, .outOfRange 1) := by
  simp only [serveMode, h]

end Store

end Sys2Proof.Machine

open Sys2Proof Sys2Proof.Machine

/-- Settles O24: the record is taken where no check finds a fault, and its effects leave the working copies and the
ports. -/
theorem settingsWriteIsWholeOrNothing : Obligations.SettingsWriteIsWholeOrNothing := by
  intro r s taken mode idle
  have unbarred := editBarred_open s mode idle
  refine ⟨fun valid => ⟨s.writeSettings r, ?_, writeSettings_work s r, writeSettings_ports s r⟩, fun invalid => ?_⟩
  · exact exec_served (.settingsWrite r) .service s _ _ taken rfl (serveSettingsWrite_taken s r unbarred valid)
  · obtain ⟨i, refused⟩ := serveSettingsWrite_outOfRange s r unbarred invalid
    exact ⟨byteOf i, exec_served (.settingsWrite r) .service s _ _ taken rfl refused⟩

/-- Settles O25: SAVE by the store's state, and its completion by the image read back. -/
theorem savesBeginAndEnd : Obligations.SavesBeginAndEnd := by
  intro intact s
  refine ⟨fun taken saving => ?_, fun taken idle => ⟨s.saveBegun, ?_, rfl, rfl, rfl, rfl, rfl, rfl⟩,
    fun running saving => ⟨s.saveEnds intact, exec_saveCompletion_saving s intact running saving, ?_⟩⟩
  · exact exec_served .save .service s _ _ taken rfl (serveSave_saving s saving)
  · exact exec_served .save .service s _ _ taken rfl (serveSave_idle s idle)
  · obtain ⟨latched, result, others⟩ := hand_storeDone s.core.notices
      (if intact && s.store.image.valid then .ok else .writeFailed)
    exact ⟨rfl, rfl, rfl, rfl, latched, result, others, rfl, rfl⟩

/-- Settles O26: MODE by the mode its byte names. -/
theorem modeFollowsItsTable : Obligations.ModeFollowsItsTable := by
  intro b s taken
  have answered (t : State) (v : Verdict) (h : serveMode b s = (t, v)) :=
    exec_served (.mode b) .service s t v taken rfl h
  refine ⟨fun hb => ?_, fun hb allowed => ?_, fun hb mode image => ?_, fun hb => ?_⟩
  · subst hb
    exact answered _ _ (serveMode_set s 1 .commission modeOf?_commission (by simp))
  · subst hb
    refine answered _ _ (serveMode_set s 0 .operate modeOf?_operate ?_)
    rintro ⟨_, mode, image⟩
    simp [mode, image] at allowed
  · subst hb
    exact answered _ _ (serveMode_wrongMode s 0 modeOf?_operate mode image)
  · exact answered _ _ (serveMode_outOfRange s b (modeOf?_outOfRange b hb))

end

section
/-! SUPPORT. The requests to the Notice Unit: what each makes of the sender's port, and the present state bit by bit;
the statements on READ_EVENTS, SET_MASK and FORCE_EVENT. -/

namespace Sys2Proof.Machine

/-! ### A change of one port's notices -/

theorem setNotices_same (s : State) (p : Role) (f : NoticePort → NoticePort) :
    (s.setNotices p f).core.notices.ports.get p = f (s.core.notices.ports.get p) := PerPort.get_set_same _ p _

theorem setNotices_other (s : State) (p q : Role) (f : NoticePort → NoticePort) (h : q ≠ p) :
    (s.setNotices p f).core.notices.ports.get q = s.core.notices.ports.get q := PerPort.get_set_ne _ p q _ h

/-- Read events leave an empty latch, no details and ATTN deasserted (R185, R186). -/
theorem clearRead_eq (n : NoticePort) :
    n.clearRead = { n with latch := 0#11, details := noDetails, attn := false } := by
  simp [NoticePort.clearRead, NoticePort.deriveAttn, Details.absent, noDetails]

/-! ### Sets of kinds (R200) -/

theorem kindSetOf?_kinds (w : Word16) (h : w.toNat < 2048) : kindSetOf? w = some (BitVec.ofNat 11 w.toNat) := if_pos h

theorem kindSetOf?_more (w : Word16) (h : 2048 ≤ w.toNat) : kindSetOf? w = none := if_neg (Nat.not_lt.2 h)

theorem kindBytes_kinds (w : Word16) (h : w.toNat < 2048) : kindBytes (BitVec.ofNat 11 w.toNat) = twoBytes w.toNat := by
  rw [kindBytes, BitVec.toNat_ofNat, Nat.mod_eq_of_lt h]

/-! ### The present state (R188) -/

/-- A condition's bit in a byte is set at its own place exactly while the condition holds. -/
theorem getLsbD_flag (n k : Fin 8) (b : Bool) :
    (if b then byteOf (2 ^ n.val) else 0#8).getLsbD k.val = (decide (k = n) && b) := by
  cases b
  · simp
  · revert n k; decide

theorem getLsbD_or_flag {x : Byte} {y : Bool} (n k : Fin 8) (b : Bool) (h : x.getLsbD k.val = y) :
    (x ||| if b then byteOf (2 ^ n.val) else 0#8).getLsbD k.val = (y || (decide (k = n) && b)) := by
  rw [BitVec.getLsbD_or, h, getLsbD_flag]

theorem level_severe_iff (v : Level) : 2 ≤ v.height ↔ v = .closeExposed ∨ v = .closeAll := by cases v <;> decide

theorem exists_segment_iff (P : Segment → Prop) : (∃ g : Segment, P g) ↔ P .seg0 ∨ P .seg1 :=
  ⟨fun ⟨g, h⟩ => by cases g <;> simp [h], fun h => h.elim (⟨_, ·⟩) (⟨_, ·⟩)⟩

theorem presentState_spelled (s : State) : s.presentSpelled s.presentState := by
  have bit (k : Fin 8) : s.presentState.getLsbD k.val =
      (decide (k = 0) && decide (2 ≤ s.weather.level.height) || decide (k = 1) && s.core.notices.buildingClosed ||
        decide (k = 2) && (decide (s.supply.state ≠ .normal) || decide (s.supply.mains = .battery)) ||
        decide (k = 3) && (decide ((s.core.holds.get .seg0).state ≠ .owned) ||
          decide ((s.core.holds.get .seg1).state ≠ .owned)) ||
        decide (k = 4) && (allOpenings.any fun o => decide ((s.core.live o).state = .faulted)) ||
        decide (k = 5) && (allOpenings.any fun o => decide ((s.core.live o).state = .lost))) := by
    exact getLsbD_or_flag 5 k _ (getLsbD_or_flag 4 k _ (getLsbD_or_flag 3 k _ (getLsbD_or_flag 2 k _
      (getLsbD_or_flag 1 k _ (getLsbD_flag 0 k _)))))
  refine ⟨?_, ?_, ?_, ?_, ?_, ?_, bit 6, bit 7⟩
  · rw [show s.presentState.getLsbD 0 = _ from bit 0]; simp [level_severe_iff]
  · rw [show s.presentState.getLsbD 1 = _ from bit 1]; simp
  · rw [show s.presentState.getLsbD 2 = _ from bit 2]; simp
  · rw [show s.presentState.getLsbD 3 = _ from bit 3]
    simp [exists_segment_iff]
  · rw [show s.presentState.getLsbD 4 = _ from bit 4]; simp
  · rw [show s.presentState.getLsbD 5 = _ from bit 5]; simp

theorem eventBytes_last (s : State) (p : Role) : (s.eventBytes p).getLast? = some s.presentState := by
  simp [State.eventBytes]

/-! ### The requests as served -/

theorem permits_readEvents (p : Role) : MasterRequest.readEvents.permits p = true := by cases p <;> rfl

theorem permits_setMask (p : Role) (w : Word16) : (MasterRequest.setMask w).permits p = true := by cases p <;> rfl

theorem permits_forceEvent (p : Role) (w : Word16) : (MasterRequest.forceEvent w).permits p = true := by cases p <;> rfl

theorem serveSetMask_kinds (p : Role) (w : Word16) (s : State) (h : w.toNat < 2048) : serveSetMask p w s =
    (s.setNotices p fun n => n.setMask (BitVec.ofNat 11 w.toNat), .ok (twoBytes w.toNat)) := by
  simp only [serveSetMask, kindSetOf?_kinds w h, kindBytes_kinds w h]

theorem serveSetMask_more (p : Role) (w : Word16) (s : State) (h : 2048 ≤ w.toNat) :
    serveSetMask p w s = (s, .outOfRange 1) := by simp only [serveSetMask, kindSetOf?_more w h]

theorem serveForceEvent_kinds (p : Role) (w : Word16) (s : State) (h : w.toNat < 2048) : serveForceEvent p w s =
    (s.setNotices p fun n => n.force (BitVec.ofNat 11 w.toNat), .ok []) := by
  simp only [serveForceEvent, kindSetOf?_kinds w h]

theorem serveForceEvent_more (p : Role) (w : Word16) (s : State) (h : 2048 ≤ w.toNat) :
    serveForceEvent p w s = (s, .outOfRange 1) := by simp only [serveForceEvent, kindSetOf?_more w h]

end Sys2Proof.Machine

open Sys2Proof Sys2Proof.Machine

/-- Settles O13: the sender's port is cleared, and its reply ends with the present state. -/
theorem readEventsClearsTheSendersLatch : Obligations.ReadEventsClearsTheSendersLatch := by
  intro p s taken
  refine ⟨s.setNotices p NoticePort.clearRead, ?_, ⟨_, eventBytes_last s p, presentState_spelled s⟩, ?_,
    fun q hq => setNotices_other s p q _ hq, rfl, rfl, rfl, rfl, rfl, rfl, rfl, rfl⟩
  · exact exec_served .readEvents p s _ _ taken (permits_readEvents p) rfl
  · rw [setNotices_same, clearRead_eq]

/-- Settles O14: a set of the 11 kinds changes the sender's port, any other set is refused. -/
theorem maskAndForceActOnTheSender : Obligations.MaskAndForceActOnTheSender := by
  intro p w s taken
  have mask {t : State} {v : Verdict} (h : serveSetMask p w s = (t, v)) :=
    exec_served (.setMask w) p s t v taken (permits_setMask p w) h
  have force {t : State} {v : Verdict} (h : serveForceEvent p w s = (t, v)) :=
    exec_served (.forceEvent w) p s t v taken (permits_forceEvent p w) h
  refine ⟨fun kinds k hk n hn => ?_, fun more =>
    ⟨mask (serveSetMask_more p w s more), force (serveForceEvent_more p w s more)⟩⟩
  subst hk hn
  refine ⟨⟨_, mask (serveSetMask_kinds p w s kinds), ?_, fun q hq => setNotices_other s p q _ hq, rfl, rfl, rfl⟩,
    _, force (serveForceEvent_kinds p w s kinds), ?_, ?_, ?_, fun q hq => setNotices_other s p q _ hq, rfl, rfl, rfl⟩
  · rw [setNotices_same]; rfl
  all_goals rw [setNotices_same]; rfl

end

section
/-! SUPPORT. What an operation may do to the Notice Unit: hand it events, and nothing else. Every operation of the drive
core does no more (R182 to R185). -/

namespace Sys2Proof.Machine

/-! ### Events handed to the Notice Unit -/

/-- The Notice Unit after some events handed to it. -/
def Notices.Hears (n m : Notices) : Prop := ∃ events : List Happening, m = events.foldl Notices.hand n

/-- A port's ATTN as its latch and mask derive it (R185). -/
def NoticePort.derived (p : NoticePort) : Prop := p.attn = ((p.latch &&& p.mask) != 0#11)

/-- Every port's ATTN as its latch and mask derive it. -/
def Notices.derived (n : Notices) : Prop := ∀ p : Role, (n.ports.get p).derived

section Hears

variable {n m : Notices}

@[simp] theorem Notices.Hears.refl (n : Notices) : n.Hears n := ⟨[], rfl⟩

theorem Notices.Hears.of_eq (h : m = n) : n.Hears m := h ▸ .refl n

theorem Notices.Hears.trans {k : Notices} (h : n.Hears m) (g : m.Hears k) : n.Hears k := by
  obtain ⟨before, rfl⟩ := h
  obtain ⟨after, rfl⟩ := g
  exact ⟨before ++ after, (List.foldl_append ..).symm⟩

@[simp] theorem Notices.Hears.hand (h : Happening) (w : n.Hears m) : n.Hears (m.hand h) := w.trans ⟨[h], rfl⟩

/-- What every event handed over keeps, some events keep. -/
theorem Notices.Hears.keeps (P : Notices → Prop) (one : ∀ (k : Notices) (h : Happening), P k → P (k.hand h))
    (w : n.Hears m) (base : P n) : P m := by
  obtain ⟨events, rfl⟩ := w
  exact List.foldlRecOn (motive := P) events Notices.hand base fun k hk h _ => one k h hk

theorem Notices.Hears.buildingClosed (w : n.Hears m) : m.buildingClosed = n.buildingClosed :=
  w.keeps (fun k => k.buildingClosed = n.buildingClosed) (fun _ _ h => h) rfl

theorem Notices.Hears.derived (w : n.Hears m) (d : n.derived) : m.derived := w.keeps Notices.derived hand_derived d

end Hears

/-! ### The Closure Scheduler and the Drive Supervisor -/

section Drives

variable (e : Env) (o : OpeningId) (c : Core)

@[simp] theorem enterResting_notices : (c.enterResting e o).notices = c.notices := by
  unfold Core.enterResting
  split <;> rfl

@[simp] theorem afterRetarget_notices : (c.afterRetarget e o).notices = c.notices := by
  unfold Core.afterRetarget
  repeat' split
  all_goals rfl

@[simp] theorem afterShedOrHold_notices (cls : JobClass) : (c.afterShedOrHold e o cls).notices = c.notices := by
  unfold Core.afterShedOrHold
  repeat' split
  all_goals rfl

@[simp] theorem completeStop_notices : (c.completeStop o).notices = c.notices := rfl

@[simp] theorem recheckDrive_notices : (c.recheckDrive e o).notices = c.notices := (recheckDrive_leaves e o c).notices

@[simp] theorem recheckAll_notices (os : List OpeningId) : (c.recheckAll e os).notices = c.notices :=
  foldl_leaves Core.notices _ (fun d p => recheckDrive_notices e p d) os c

@[simp] theorem joinAll_notices (os : List OpeningId) : (c.joinAll os).notices = c.notices := by rw [joinAll_eq]

@[simp] theorem storePosition_notices (p : Position) : (c.storePosition e o p).notices = c.notices := by
  unfold Core.storePosition
  split
  · rfl
  · exact recheckDrive_notices e o _

@[simp] theorem storeReport_notices (position : Byte) (locked : Option Bool) :
    (c.storeReport e o position locked).notices = c.notices := storePosition_notices e o _ _

@[simp] theorem resubmit_notices (target : Nat) (cls : JobClass) : (c.resubmit e o target cls).notices = c.notices := by
  unfold Core.resubmit
  repeat' split
  all_goals rfl

@[simp] theorem startDrive_notices (j : Job) : (c.startDrive e j).notices = c.notices := by
  unfold Core.startDrive
  split <;> rfl

@[simp] theorem recordAll_notices (w : WaitReason) (jobs : List Job) : (c.recordAll w jobs).notices = c.notices :=
  foldl_leaves Core.notices (fun (d : Core) (j : Job) => d.recordWait j.opening w) (fun _ _ => rfl) jobs c

theorem walkOne_notices (fence : Option JobClass) (j : Job) : (c.walkOne e fence j).2.notices = c.notices := by
  unfold Core.walkOne
  split
  · rfl
  · split
    · exact startDrive_notices e c j
    · rfl

@[simp] theorem walk_notices (fence : Option JobClass) (jobs : List Job) :
    (c.walk e fence jobs).notices = c.notices := by
  induction jobs generalizing fence c with
  | nil => rfl
  | cons j rest ih =>
    unfold Core.walk
    split
    · exact recordAll_notices c _ _
    · split
      · exact recordAll_notices c _ _
      · exact (ih _ _).trans (walkOne_notices e c fence j)

@[simp] theorem startWalk_notices : (c.startWalk e).notices = c.notices := by
  unfold Core.startWalk
  split
  · exact walk_notices e _ none _
  · rfl

variable {n : Notices} {c}

theorem takeFailure_hears (f : Failure) (w : n.Hears c.notices) : n.Hears (c.takeFailure e o f).notices := by
  unfold Core.takeFailure
  dsimp only
  split
  · exact w.hand .openingFaulted
  · split
    · exact w
    all_goals rwa [enterResting_notices]

theorem settleStop_hears (cause : StopCause) (cls : JobClass) (out : DriveOutcome) (w : n.Hears c.notices) :
    n.Hears (c.settleStop e o cause cls out).notices := by
  unfold Core.settleStop
  split
  any_goals exact takeFailure_hears e o _ w
  all_goals simpa using w

theorem confirmStop_hears (locked : Option Bool) (out : DriveOutcome) (w : n.Hears c.notices) :
    n.Hears (c.confirmStop e o locked out).notices := by
  unfold Core.confirmStop
  split
  · exact w
  · split
    · exact w
    · exact settleStop_hears e o _ _ _ (by rwa [freeSlot_notices])

theorem requestStop_hears (cause : StopCause) (w : n.Hears c.notices) : n.Hears (c.requestStop e o cause).notices := by
  unfold Core.requestStop
  split
  · split
    · exact w
    · dsimp only
      split
      · exact confirmStop_hears e o _ _ w
      · exact w
  · exact w
  · exact w

theorem takeOutcome_hears (locked : Option Bool) (out : DriveOutcome) (w : n.Hears c.notices) :
    n.Hears (c.takeOutcome e o locked out).notices := by
  have failed (i : SlotId) (f : Failure) : n.Hears ((c.freeSlot e i).takeFailure e o f).notices :=
    takeFailure_hears e o f (by rwa [freeSlot_notices])
  unfold Core.takeOutcome
  split
  · exact w
  · split
    · exact w
    · split
      · exact w
      · simpa using w
      · exact failed _ _
      · exact failed _ _

theorem retarget_hears (target : Nat) (cls : JobClass) (w : n.Hears c.notices) :
    n.Hears (c.retarget e o target cls).notices := by
  have written : n.Hears (c.setLive o fun x => { x with target := some target, jobClass := some cls }).notices := w
  have stopped := requestStop_hears e o .retarget written
  unfold Core.retarget
  split
  · exact w
  · split
    · exact w
    · dsimp only
      repeat' split
      · exact stopped
      · exact w
      · exact w
      · exact w
      · exact w
      · exact stopped

theorem handOn_hears (r : Resolution) (w : n.Hears c.notices) : n.Hears (c.handOn e o r).notices := by
  have stopped (t : Option Nat) (cause : StopCause) := requestStop_hears (c := c.writeTarget o t) e o cause w
  unfold Core.handOn
  dsimp only
  split
  case h_2 => split <;> exact w
  case h_5 =>
    split
    · exact w
    · rwa [resubmit_notices]
  case h_7 | h_9 | h_10 => exact stopped _ _
  case h_8 => exact retarget_hears e o _ _ w
  all_goals exact w

theorem resolveNext_hears (t : Claims) (w : n.Hears c.notices) : n.Hears (c.resolveNext e t).notices := by
  unfold Core.resolveNext
  split
  · exact w
  · exact handOn_hears e _ _ w

theorem shed_hears (w : n.Hears c.notices) : n.Hears (c.shed e).notices := by
  unfold Core.shed
  split
  · exact w
  · exact requestStop_hears e _ .shed w

theorem runLimitEnds_hears (i : SlotId) (w : n.Hears c.notices) : n.Hears (c.runLimitEnds e i).notices := by
  unfold Core.runLimitEnds
  split
  · exact w
  · exact requestStop_hears e _ .cutoff w

end Drives

/-! ### The Segment Controllers -/

section Segments

variable (e : Env) (g : Segment) (o : OpeningId) (i : SlotId) (c : Core)

@[simp] theorem suspendPass_notices : (c.suspendPass g).notices = c.notices := by
  unfold Core.suspendPass
  split <;> rfl

@[simp] theorem startDuePass_notices : (c.startDuePass e g).notices = c.notices := by
  unfold Core.startDuePass
  split
  · exact (startPass_starts e g c).notices
  · rfl

@[simp] theorem passUpkeep_notices : (c.passUpkeep e g).notices = c.notices := by
  unfold Core.passUpkeep
  dsimp only
  repeat' split
  all_goals rfl

@[simp] theorem endOrphan_notices : (c.endOrphan e i).notices = c.notices := by
  unfold Core.endOrphan
  split
  · rfl
  · dsimp only
    split <;> exact freeSlot_notices e i c

@[simp] theorem orphanSlot_notices : (c.orphanSlot e i).notices = c.notices := by
  unfold Core.orphanSlot
  dsimp only
  split
  · rfl
  · split
    · exact endOrphan_notices e i _
    · rfl

@[simp] theorem arbitrate_notices : (c.arbitrate e g).notices = c.notices := by
  have sent (r : Request) : (c.send e g r).notices = c.notices := by
    unfold Core.send
    dsimp only
    split <;> rfl
  unfold Core.arbitrate
  repeat' split
  any_goals exact sent _
  all_goals rfl

@[simp] theorem acceptEnroll_notices (a : AbilityReport) (r : NodeReply) :
    (c.acceptEnroll e o a r).notices = c.notices := by
  unfold Core.acceptEnroll
  dsimp only
  split <;> simp

@[simp] theorem enrollRefusedNow_notices (r : NodeReply) : (c.enrollRefusedNow e o r).notices = c.notices := by
  unfold Core.enrollRefusedNow
  dsimp only
  split <;> simp [Core.startReProbe]

@[simp] theorem idleReply_notices (before : Position) (r : NodeReply) :
    (c.idleReply e o before r).notices = c.notices := by
  obtain ⟨joined, replied, _⟩ := idleReply_eq e o before r c
  rw [replied]
  rfl

@[simp] theorem frameSent_notices : (c.frameSent e g).notices = c.notices := by
  unfold Core.frameSent
  repeat' split
  all_goals rfl

@[simp] theorem clearFault_notices : (c.clearFault e o).notices = c.notices := by
  unfold Core.clearFault
  dsimp only
  split <;> rfl

@[simp] theorem forgetOpening_notices : (c.forgetOpening e o).notices = c.notices := by
  unfold Core.forgetOpening
  dsimp only
  split <;> simp

@[simp] theorem keepInList_notices (m : Commissioned) : (c.keepInList e o m).notices = c.notices := by
  unfold Core.keepInList
  split <;> rfl

@[simp] theorem progressDue_notices : (c.progressDue e i).notices = c.notices := by
  unfold Core.progressDue
  split <;> rfl

@[simp] theorem reProbeDue_notices : (c.reProbeDue e o).notices = c.notices := by
  unfold Core.reProbeDue
  dsimp only
  split <;> rfl

variable {n : Notices} {c}

theorem failStart_hears (w : n.Hears c.notices) : n.Hears (c.failStart e o).notices := by
  unfold Core.failStart
  split
  · exact w
  · exact takeFailure_hears e o .failedStart (by rwa [freeSlot_notices])

theorem declareLost_hears (w : n.Hears c.notices) : n.Hears (c.declareLost e o).notices := by
  unfold Core.declareLost
  dsimp only
  split
  · exact w.hand .nodeLost
  · rw [orphanSlot_notices]
    exact w.hand .nodeLost

theorem stopRefused_hears (w : n.Hears c.notices) : n.Hears (c.stopRefused e o).notices := by
  unfold Core.stopRefused
  split
  · exact w
  · dsimp only
    split
    · exact declareLost_hears e o w
    · exact w

theorem missedOnce_hears (b : RequestBody) (w : n.Hears c.notices) : n.Hears (c.missedOnce e o b).notices := by
  unfold Core.missedOnce
  split
  case h_1 => exact failStart_hears e o w
  case h_3 =>
    rw [restartProgress_notices]
    exact requestStop_hears e o .retarget w
  case h_6 => rwa [restartProgress_notices]
  case h_7 => split <;> exact w
  all_goals exact w

theorem takeTimeout_hears (t : Transaction) (w : n.Hears c.notices) : n.Hears (c.takeTimeout e g t).notices := by
  unfold Core.takeTimeout
  dsimp only
  repeat' split
  · exact w
  · exact w
  · exact w
  · exact declareLost_hears e _ w
  · exact missedOnce_hears e _ _ w

theorem windowEnds_hears (w : n.Hears c.notices) : n.Hears (c.windowEnds e g).notices := by
  unfold Core.windowEnds
  split
  · exact w
  · exact takeTimeout_hears e g _ w

theorem startReply_hears (r : NodeReply) (w : n.Hears c.notices) : n.Hears (c.startReply e o r).notices := by
  unfold Core.startReply
  split
  · exact w
  · split
    · exact w
    · split
      · exact takeOutcome_hears e o _ _ w
      · exact failStart_hears e o w
      · split
        · exact w
        · exact confirmStop_hears e o _ _ w
      · exact confirmStop_hears e o _ _ w
      · exact w

theorem confirmIfOutcome_hears (r : NodeReply) (otherwise : Core → Core) (w : n.Hears c.notices)
    (h : n.Hears (otherwise c).notices) : n.Hears (c.confirmIfOutcome e o r otherwise).notices := by
  unfold Core.confirmIfOutcome
  split
  · exact w
  · split
    · exact h
    · exact confirmStop_hears e o _ _ w

theorem reDriveReply_hears (r : NodeReply) (w : n.Hears c.notices) : n.Hears (c.reDriveReply e o r).notices := by
  unfold Core.reDriveReply
  split
  · rw [restartProgress_notices]
    exact takeOutcome_hears e o _ _ w
  · exact requestStop_hears e o .retarget w
  · exact confirmIfOutcome_hears e o r id w w
  · exact confirmIfOutcome_hears e o r _ w (requestStop_hears e o .retarget w)
  · exact w

theorem stopReply_hears (r : NodeReply) (w : n.Hears c.notices) : n.Hears (c.stopReply e o r).notices := by
  unfold Core.stopReply
  split
  · exact confirmStop_hears e o _ _ w
  · exact confirmIfOutcome_hears e o r _ w (stopRefused_hears e o w)
  · exact w

theorem progressReply_hears (r : NodeReply) (w : n.Hears c.notices) : n.Hears (c.progressReply e o r).notices := by
  unfold Core.progressReply
  split
  · rw [restartProgress_notices]
    exact takeOutcome_hears e o _ _ w
  · exact confirmIfOutcome_hears e o r id w w
  · exact w

theorem refuseEnroll_hears (reason : FaultReason) (r : NodeReply) (w : n.Hears c.notices) :
    n.Hears (c.refuseEnroll e o reason r).notices := by
  unfold Core.refuseEnroll
  rw [enterFaulted_notices]
  exact .hand _ (by simpa using w)

theorem enrollReply_hears (pass alone : Bool) (r : NodeReply) (w : n.Hears c.notices) :
    n.Hears (c.enrollReply e o pass alone r).notices := by
  unfold Core.enrollReply
  split
  · rwa [storeReport_notices]
  · generalize hd : (if pass || (alone && decide (r.answer = .nak)) then c.leaveList e o else c) = d
    have listed : n.Hears d.notices := by subst hd; split <;> exact w
    dsimp only
    split
    · split
      · exact refuseEnroll_hears e o _ r listed
      · rwa [acceptEnroll_notices]
    · rwa [enrollRefusedNow_notices]

theorem takeReply_hears (t : Transaction) (r : NodeReply) (w : n.Hears c.notices) :
    n.Hears (c.takeReply e g t r).notices := by
  have ended : n.Hears ((c.endTransaction e g).setCount g t.address 0).notices := w
  have stored : n.Hears (((c.endTransaction e g).setCount g t.address 0).storeReport e t.opening r.position
      r.locked).notices := by rwa [storeReport_notices]
  unfold Core.takeReply
  dsimp only
  split
  · exact enrollReply_hears e _ _ _ r ended
  · exact startReply_hears e _ r stored
  · exact reDriveReply_hears e _ r stored
  · exact stopReply_hears e _ r stored
  · exact progressReply_hears e _ r stored
  · rwa [idleReply_notices]

theorem replyArrives_hears (r : NodeReply) (w : n.Hears c.notices) : n.Hears (c.replyArrives e g r).notices := by
  unfold Core.replyArrives
  split
  · exact w
  · split
    · exact takeReply_hears e g _ r w
    · exact w

theorem busyArrives_hears (a : NodeAddress) (w : n.Hears c.notices) : n.Hears (c.busyArrives e g a).notices := by
  unfold Core.busyArrives
  repeat' split
  · exact w
  · exact w
  · exact takeTimeout_hears e g _ w
  · exact w

theorem frameArrives_hears (bytes : List Byte) (gap : Bool) (w : n.Hears c.notices) :
    n.Hears (c.frameArrives e g bytes gap).notices := by
  unfold Core.frameArrives
  repeat' split
  · exact w
  · exact replyArrives_hears e g _ w
  · exact busyArrives_hears e g _ w
  · exact w

end Segments

/-! ### The Hold Controllers -/

section Holds

variable (e : Env) (g : Segment) {n : Notices} {c : Core}

theorem tryRelease_hears (w : n.Hears c.notices) : n.Hears (c.tryRelease e g).notices := by
  unfold Core.tryRelease
  dsimp only
  split
  · exact enterReleasing_keeps e g c (fun d => n.Hears d.notices) w fun d o => requestStop_hears e o .hold
  · exact w

theorem grant_hears (w : n.Hears c.notices) : n.Hears (c.grant e g).notices := by
  unfold Core.grant
  rw [Core.hand_notices, Core.setHold_notices, suspendPass_notices]
  exact w.hand _

theorem reclaimOwned_hears (w : n.Hears c.notices) : n.Hears (c.reclaimOwned e g).notices :=
  tryRelease_hears e g (by simpa using w)

theorem finishRelease_hears (w : n.Hears c.notices) : n.Hears (c.finishRelease e g).notices := by
  unfold Core.finishRelease
  dsimp only
  repeat' split
  · exact grant_hears e g w
  · exact w
  · exact reclaimOwned_hears e g w
  · exact w

theorem enterReturning_hears (reason : HoldReason) (w : n.Hears c.notices) :
    n.Hears (c.enterReturning e g reason).notices := w.hand (.holdChanged g reason)

theorem revoke_hears (w : n.Hears c.notices) : n.Hears (c.revoke e g).notices := enterReturning_hears e g .revoked w

theorem holdreqSettles_hears (w : n.Hears c.notices) : n.Hears (c.holdreqSettles e g).notices := by
  unfold Core.holdreqSettles
  split
  · unfold Core.holdDeasserted
    dsimp only
    split
    · exact enterReturning_hears e g .released w
    · exact w
  · exact tryRelease_hears e g w

theorem returned_hears (w : n.Hears c.notices) : n.Hears (c.returned e g).notices := by
  have resumed : (c.resumed e g).notices = c.notices := triggerPass_notices e g _
  rw [returned_eq]
  exact tryRelease_hears e g (by rwa [resumed])

theorem holdAtCloseAll_hears (w : n.Hears c.notices) : n.Hears (c.holdAtCloseAll e g).notices := by
  unfold Core.holdAtCloseAll
  split
  · exact w
  · rwa [startDuePass_notices]
  · exact w
  · exact w

theorem holdBelowCloseAll_hears (w : n.Hears c.notices) : n.Hears (c.holdBelowCloseAll e g).notices := by
  unfold Core.holdBelowCloseAll
  split
  · exact w
  · exact tryRelease_hears e g w

end Holds

/-! ### The end of an event (log entry 12) -/

/-- The checks at the end of an event up to the building-closed status. -/
def Core.concluded (e : Env) (c : Core) : Core :=
  let each (f : Segment → Core → Core) (c : Core) := f .seg1 (f .seg0 c)
  let c := (each (fun g c => c.tidyRequests e g) c).tidyFollow e
  let c := each (fun g c => c.finishRelease e g) c
  let c := each (fun g c => c.passUpkeep e g) c
  let c := each (fun g c => c.arbitrate e g) c
  each (fun g c => c.driveReclaim g) c

section Settle

variable (e : Env) (c : Core)

theorem settle_eq : c.settle e = (c.concluded e).noteBuilding e := rfl

theorem concluded_hears {n : Notices} {c : Core} (w : n.Hears c.notices) : n.Hears (c.concluded e).notices := by
  have tidied : n.Hears (((c.tidyRequests e .seg0).tidyRequests e .seg1).tidyFollow e).notices := w
  have released := finishRelease_hears e .seg1 (finishRelease_hears e .seg0 tidied)
  have kept (d : Core) : ((((((d.passUpkeep e .seg0).passUpkeep e .seg1).arbitrate e .seg0).arbitrate e
      .seg1).driveReclaim .seg0).driveReclaim .seg1).notices = d.notices := by simp [Core.driveReclaim]
  unfold Core.concluded
  dsimp only
  rwa [kept]

/-- The building-closed status noted leaves the records. -/
theorem noteBuilding_openings : (c.noteBuilding e).openings = c.openings := by
  unfold Core.noteBuilding
  dsimp only
  split <;> rfl

/-- The status noted is that of the records (R190). -/
theorem noteBuilding_status : (c.noteBuilding e).notices.buildingClosed = buildingClosed e c := by
  unfold Core.noteBuilding
  dsimp only
  split
  · assumption
  · rfl

/-- A status that has changed is latched on every port, with the new status as its detail (R190). -/
theorem noteBuilding_changed (h : (c.noteBuilding e).notices.buildingClosed ≠ c.notices.buildingClosed) :
    (c.noteBuilding e).notices = ({ c.notices with buildingClosed := buildingClosed e c } : Notices).hand
      (.buildingClosedChanged (buildingClosed e c)) := by
  rw [noteBuilding_status] at h
  unfold Core.noteBuilding
  dsimp only
  rw [if_neg (Ne.symm h)]

theorem noteBuilding_derived (d : c.notices.derived) : (c.noteBuilding e).notices.derived := by
  unfold Core.noteBuilding
  dsimp only
  split
  · exact d
  · exact hand_derived ({ c.notices with buildingClosed := buildingClosed e c } : Notices) _ d

end Settle

/-! ### The Weather Assessor -/

section Weather

variable (e : Env) (k : Sky)

@[simp] theorem setLatch_notices (o : OpeningId) : (k.setLatch e o).core.notices = k.core.notices := by
  unfold Sky.setLatch
  split
  · rfl
  · exact recheckDrive_notices _ o _

@[simp] theorem setLatches_notices : (k.setLatches e).core.notices = k.core.notices :=
  List.foldlRecOn (motive := fun x => x.core.notices = k.core.notices) _ _ rfl fun x hx o _ =>
    (setLatch_notices e x o).trans hx

variable {n : Notices} {k}

theorem levelled_hears (new : Level) (w : n.Hears k.core.notices) : n.Hears (k.levelled e new).core.notices := by
  have joined (b : Bool) (x : Sky) (hx : n.Hears x.core.notices) :
      n.Hears (if b then { x with core := x.core.joinAll e.present } else x).core.notices := by
    cases b
    · exact hx
    · simpa using hx
  have handed := joined (decide (k.weather.level = .watch) != decide (new = .watch))
    { weather := { k.weather with level := new }, core := k.core.hand .levelChanged } (w.hand .levelChanged)
  unfold Sky.levelled
  dsimp only
  split
  · rwa [setLatches_notices]
  · split <;> exact handed

theorem changeLevel_hears (new : Level) (w : n.Hears k.core.notices) : n.Hears (k.changeLevel e new).core.notices := by
  have levelled := levelled_hears e new w
  rw [changeLevel_eq]
  split
  · exact holdAtCloseAll_hears _ .seg1 (holdAtCloseAll_hears _ .seg0 levelled)
  · split
    · exact holdBelowCloseAll_hears _ .seg1 (holdBelowCloseAll_hears _ .seg0 levelled)
    · exact levelled

theorem evaluate_hears (w : n.Hears k.core.notices) : n.Hears (k.evaluate e).core.notices := by
  unfold Sky.evaluate
  dsimp only
  split
  · exact changeLevel_hears e _ w
  · exact w

/-- An evaluation that follows a change of the Weather Assessor's own values. -/
theorem reevaluate_hears (k : Sky) (w : Weather) :
    k.core.notices.Hears (({ k with weather := w } : Sky).evaluate e).core.notices := evaluate_hears e (.refl _)

theorem standDownEnds_hears (w : n.Hears k.core.notices) : n.Hears (k.standDownEnds e).core.notices :=
  evaluate_hears e (changeLevel_hears e _ w)

theorem rainFilterEnds_hears (x : RainContact) (w : n.Hears k.core.notices) :
    n.Hears (k.rainFilterEnds e x).core.notices := by
  unfold Sky.rainFilterEnds Sky.judgeRain
  dsimp only
  split
  · split
    · exact evaluate_hears e w
    · exact w
  · split <;> exact w

theorem deriveArc_hears (w : n.Hears k.core.notices) : n.Hears (k.deriveArc e).core.notices := by
  unfold Sky.deriveArc
  dsimp only
  split
  · rwa [setLatches_notices]
  · exact w

theorem vaneReads_hears (r : Sector) (w : n.Hears k.core.notices) : n.Hears (k.vaneReads e r).core.notices :=
  deriveArc_hears e w

theorem sectorSettles_hears (w : n.Hears k.core.notices) : n.Hears (k.sectorSettles e).core.notices := by
  unfold Sky.sectorSettles
  split
  · exact w
  · exact deriveArc_hears e w

theorem minuteMark_hears (w : n.Hears k.core.notices) : n.Hears (k.minuteMark e).core.notices := by
  unfold Sky.minuteMark
  split
  · exact w
  · split
    · exact evaluate_hears e (w.hand .advisoryEnded)
    · exact evaluate_hears e w

end Weather

end Sys2Proof.Machine

end

section
/-! SUPPORT. What an event may do to the notices and the building-closed status, said once for every event; the
statement that every step keeps ATTN and the building-closed status as derived (R182 to R190). -/

namespace Sys2Proof.Machine

/-! ### How an event ends -/

/-- What an event may do before the checks at its end: events are handed to the Notice Unit. -/
structure State.Tells (s t : State) : Prop where
  inReset : t.inReset = s.inReset
  hears : s.core.notices.Hears t.core.notices

/-- A record that keeps no building from being closed (R189). -/
def Live.allowsClosed (l : Live) : Prop := l.state ≠ .lockedOut → l.shut

/-- What an event without the checks at its end may do: it also leaves all that the building-closed status is judged
by. -/
structure State.TellsOnly (s t : State) : Prop extends s.Tells t where
  openings : t.work.openings = s.work.openings
  records : ∀ o : OpeningId, (t.core.live o).allowsClosed ↔ (s.core.live o).allowsClosed

/-- How an event of a part that runs ends: without the checks at its end, with them, or with one port's notices changed
at its request. -/
inductive State.Concludes (s : State) : State → Prop
  | telling {t : State} : s.TellsOnly t → s.Concludes t
  | settling {t : State} : s.Tells t → s.Concludes t.settled
  | noting (p : Role) {f : NoticePort → NoticePort} : (∀ n : NoticePort, (f n).derived) →
      s.Concludes (s.setNotices p f)

theorem attnWf_iff {s : State} (h : s.inReset = false) : AttnWf s ↔ s.core.notices.derived := by
  simp [AttnWf, Notices.derived, NoticePort.derived, h]

theorem settled_inReset (s : State) : s.settled.inReset = s.inReset := by
  unfold State.inReset
  rw [State.settled_phase]

theorem settled_derived {s : State} (d : s.core.notices.derived) : s.settled.core.notices.derived := by
  rw [State.settled_core, settle_eq]
  exact noteBuilding_derived _ _ ((concluded_hears _ (.refl _)).derived d)

theorem setNotices_derived {s : State} (p : Role) (f : NoticePort → NoticePort) (hf : ∀ n : NoticePort, (f n).derived)
    (d : s.core.notices.derived) : (s.setNotices p f).core.notices.derived := by
  intro q
  by_cases hq : q = p
  · rw [hq, setNotices_same]
    exact hf _
  · rw [setNotices_other s p q f hq]
    exact d q

/-- However an event ends, ATTN is as derived where it was (R185). -/
theorem Concludes.attnWf {s t : State} (h : s.Concludes t) (awake : s.inReset = false) (w : AttnWf s) : AttnWf t := by
  have d := (attnWf_iff awake).1 w
  cases h with
  | telling h => exact (attnWf_iff (h.inReset.trans awake)).2 (h.hears.derived d)
  | settling h =>
    exact (attnWf_iff ((settled_inReset _).trans (h.inReset.trans awake))).2 (settled_derived (h.hears.derived d))
  | noting p hf => exact (attnWf_iff (s := s.setNotices p _) awake).2 (setNotices_derived p _ hf d)

/-- The checks at the end of an event leave the building-closed status as the records give it (R190). -/
theorem settled_buildingWf (s : State) : BuildingWf s.settled := by
  intro _
  rw [State.settled_core, settle_eq, noteBuilding_status, State.settled_work]
  unfold Core.live
  rw [noteBuilding_openings]
  exact buildingClosed_iff s.env _

theorem TellsOnly.buildingWf {s t : State} (h : s.TellsOnly t) (w : BuildingWf s) : BuildingWf t := by
  intro awake
  rw [h.hears.buildingClosed, w (h.inReset ▸ awake), h.openings]
  exact forall_congr' fun o => imp_congr_right fun _ => (h.records o).symm

/-- However an event ends, the building-closed status is as the records give it where it was (R189, R190). -/
theorem Concludes.buildingWf {s t : State} (h : s.Concludes t) (w : BuildingWf s) : BuildingWf t := by
  cases h with
  | telling h => exact TellsOnly.buildingWf h w
  | settling => exact settled_buildingWf _
  | noting => exact w

/-! ### Operations of the other blocks before the checks at an event's end -/

section Tells

variable {s t : State}

theorem State.Tells.refl (s : State) : s.Tells s := ⟨rfl, .refl _⟩

theorem State.Tells.trans {u : State} (h : s.Tells t) (g : t.Tells u) : s.Tells u :=
  ⟨g.inReset.trans h.inReset, h.hears.trans g.hears⟩

/-- A change of the Weather Assessor alone. -/
theorem State.Tells.weather (h : s.Tells t) (w : Weather) : s.Tells { t with weather := w } := ⟨h.inReset, h.hears⟩

theorem State.Tells.within (h : s.Tells t) {f : Env → Core → Core}
    (hf : ∀ (e : Env) (c : Core), c.notices.Hears (f e c).notices) : s.Tells (t.within f) :=
  h.trans ⟨rfl, hf _ _⟩

theorem State.Tells.onSky (h : s.Tells t) {f : Env → Sky → Sky}
    (hf : ∀ (e : Env) (k : Sky), k.core.notices.Hears (f e k).core.notices) : s.Tells (t.onSky f) :=
  h.trans ⟨rfl, hf t.env ⟨t.weather, t.core⟩⟩

/-- What leaves the records and the commissioned content tells only. -/
theorem State.Tells.only (h : s.Tells t) (work : t.work.openings = s.work.openings)
    (records : t.core.openings = s.core.openings) : s.TellsOnly t :=
  { h with openings := work, records := fun o => by unfold Core.live; rw [records] }

/-- What leaves the drive core altogether. -/
theorem tellsOnly_of_core (phase : t.phase = s.phase) (core : t.core = s.core)
    (work : t.work.openings = s.work.openings) : s.TellsOnly t :=
  State.Tells.only ⟨by unfold State.inReset; rw [phase], .of_eq (congrArg Core.notices core)⟩ work (by rw [core])

theorem State.TellsOnly.refl (s : State) : s.TellsOnly s := (State.Tells.refl s).only rfl rfl

end Tells

section Supply

variable (s : State)

theorem judgePause_tellsOnly : s.TellsOnly s.judgePause := by
  obtain ⟨_, openings, _, notices⟩ := judgePause_drives s
  exact State.Tells.only ⟨rfl, .of_eq notices⟩ rfl openings

theorem budgetChanged_tellsOnly : s.TellsOnly s.budgetChanged := by
  obtain ⟨_, _, _, _, _, openings, _, notices⟩ := budgetChanged_leaves s
  exact State.Tells.only ⟨rfl, .of_eq notices⟩ rfl openings

theorem mainsChanges_tellsOnly : s.TellsOnly s.mainsChanges := by
  obtain ⟨_, _, _, _, _, openings, _, notices⟩ := budgetChanged_leaves s.mainsFlipped
  rw [mainsChanges_eq]
  exact State.Tells.only ⟨rfl, by rw [notices]; exact (Notices.Hears.refl _).hand .supplyChanged⟩ rfl openings

theorem enterSupply_tells (new : SupplyState) : s.Tells (s.enterSupply new) := by
  have told := (Notices.Hears.refl s.core.notices).hand .supplyChanged
  refine ⟨rfl, ?_⟩
  unfold State.enterSupply
  dsimp only [State.within_core]
  split
  · cases decide (s.supply.state = .out)
    · exact told
    · rwa [supplyNormal_notices]
  · rwa [outage_notices]
  · exact told
  · exact told

theorem judgeSupply_tells : s.Tells s.judgeSupply := by
  unfold State.judgeSupply
  dsimp only
  split
  · exact .refl s
  · exact enterSupply_tells s _

theorem tripEnds_tells : s.Tells s.tripEnds := ⟨rfl, shed_hears _ (.refl _)⟩

end Supply

section Claims

variable (s : State)

theorem claimRemoved_hears (e : Env) (reason : ExpiryReason) (x : Claim) {n : Notices} {c : Core}
    (w : n.Hears c.notices) : n.Hears (c.claimRemoved e reason x).notices := by
  unfold Core.claimRemoved
  rw [joinAll_notices]
  exact w.hand _

theorem removeClaims_tellsOnly (reason : ExpiryReason) (which : Claim → Bool) :
    s.TellsOnly (s.removeClaims reason which) :=
  State.Tells.only ⟨rfl, foldl_keeps (fun c => s.core.notices.Hears c.notices) _
    (fun _ x => claimRemoved_hears s.env reason x) _ _ (.refl _)⟩ rfl (removeClaims_openings s reason which)

theorem agingSweep_tellsOnly : s.TellsOnly s.agingSweep :=
  have removed := removeClaims_tellsOnly s .aged fun x => x.age == 3
  ⟨⟨removed.inReset, removed.hears⟩, removed.openings, removed.records⟩

end Claims

/-! ### SETTINGS_WRITE: what each changed setting does at once (R179) -/

section Settings

variable (s : State) (old : Settings)

theorem agingChanged_tells : s.Tells (s.agingChanged old) := by
  unfold State.agingChanged
  split
  · exact (agingSweep_tellsOnly s).toTells
  · exact .refl s

theorem filterChanged_tells (x : RainContact) : s.Tells (s.filterChanged x) := by
  unfold State.filterChanged
  dsimp only
  split
  · exact ((State.Tells.refl s).weather _).onSky fun e _ => rainFilterEnds_hears e x (.refl _)
  · exact (State.Tells.refl s).weather _

theorem rainFilterChanged_tells : s.Tells (s.rainFilterChanged old) := by
  unfold State.rainFilterChanged
  split
  · exact .refl s
  · exact (filterChanged_tells s .roof).trans (filterChanged_tells _ .facade)

theorem dryOutChanged_tells : s.Tells (s.dryOutChanged old) := by
  unfold State.dryOutChanged
  dsimp only
  split
  · exact .refl s
  · split
    · exact ((State.Tells.refl s).weather _).onSky fun e y => reevaluate_hears e y _
    · exact (State.Tells.refl s).weather _

theorem thresholdsChanged_tells : s.Tells (s.thresholdsChanged old) := by
  unfold State.thresholdsChanged
  split
  · exact .refl s
  · exact .onSky (.refl s) fun e _ => evaluate_hears e (.refl _)

theorem standDownChanged_tells : s.Tells (s.standDownChanged old) := by
  unfold State.standDownChanged
  dsimp only
  split
  · exact .refl s
  · split
    · exact ((State.Tells.refl s).weather _).onSky fun e _ => standDownEnds_hears e (.refl _)
    · exact (State.Tells.refl s).weather _

theorem ceilingChanged_tells : s.Tells (s.ceilingChanged old) := by
  unfold State.ceilingChanged
  split
  · exact ⟨rfl, .of_eq (joinAll_notices _ _)⟩
  · exact .refl s

theorem reclaimRetimed_tells (g : Segment) : s.Tells (s.reclaimRetimed g) := by
  unfold State.reclaimRetimed
  refine .within (.refl s) fun e c => ?_
  dsimp only
  split
  · exact revoke_hears e g (.refl c.notices)
  · exact .refl c.notices

theorem reclaimChanged_tells : s.Tells (s.reclaimChanged old) := by
  unfold State.reclaimChanged
  split
  · exact .refl s
  · exact (reclaimRetimed_tells s .seg0).trans (reclaimRetimed_tells _ .seg1)

theorem budgetsChanged_tells (old : Content) : s.Tells (s.budgetsChanged old) := by
  unfold State.budgetsChanged
  split
  · exact .refl s
  · exact (budgetChanged_tellsOnly s).toTells

theorem marksChanged_tells : s.Tells (s.marksChanged old) := by
  unfold State.marksChanged
  split
  · exact .refl s
  · exact (judgePause_tellsOnly s).toTells

theorem levelsChanged_tells : s.Tells (s.levelsChanged old) := by
  unfold State.levelsChanged
  dsimp only
  split
  · exact .refl s
  · exact judgeSupply_tells s

theorem writeSettings_concludes (new : Settings) : s.Concludes (s.writeSettings new) := by
  have written : s.Tells { s with work := { s.work with settings := new } } := ⟨rfl, .refl _⟩
  have weather := (((written.trans (agingChanged_tells _ s.work.settings)).trans (rainFilterChanged_tells _
    s.work.settings)).trans (dryOutChanged_tells _ s.work.settings)).trans (thresholdsChanged_tells _ s.work.settings)
  have holds := ((weather.trans (standDownChanged_tells _ s.work.settings)).trans (ceilingChanged_tells _
    s.work.settings)).trans (reclaimChanged_tells _ s.work.settings)
  exact .settling (((holds.trans (budgetsChanged_tells _ s.work)).trans (marksChanged_tells _ s.work.settings)).trans
    (levelsChanged_tells _ s.work.settings))

end Settings

/-! ### Requests -/

section Requests

variable (s : State)

theorem State.TellsOnly.trans {s t u : State} (h : s.TellsOnly t) (g : t.TellsOnly u) : s.TellsOnly u :=
  { h.toTells.trans g.toTells with
    openings := g.openings.trans h.openings
    records := fun o => (g.records o).trans (h.records o) }

theorem State.Concludes.unchanged : s.Concludes s := .telling (.refl s)

/-- Openings placed in the pending-resolution set concern the Target Resolver alone (R42). -/
theorem tellsOnly_joinAll (os : List OpeningId) : s.TellsOnly { s with core := s.core.joinAll os } :=
  State.Tells.only ⟨rfl, .of_eq (joinAll_notices _ _)⟩ rfl (by rw [joinAll_eq])

/-- A change of one record that its closedness does not depend on. -/
theorem tellsOnly_setLive (o : OpeningId) (f : Live → Live) (hf : ∀ l : Live, (f l).allowsClosed ↔ l.allowsClosed) :
    s.TellsOnly { s with core := s.core.setLive o f } where
  inReset := rfl
  hears := .refl _
  openings := rfl
  records := fun q => by
    rw [live_setLive]
    split
    · next h => rw [h]; exact hf _
    · rfl

theorem serveReadOpening_concludes (p : Role) (b : Byte) : s.Concludes (serveReadOpening p b s).1 := by
  unfold serveReadOpening
  dsimp only
  split
  · exact .unchanged s
  · split
    · exact .telling (tellsOnly_setLive s _ _ fun _ => .rfl)
    · exact .unchanged s

theorem serveReadCounters_concludes (b : Byte) : s.Concludes (serveReadCounters b s).1 := by
  unfold serveReadCounters
  split
  · exact .unchanged s
  · exact .telling (tellsOnly_setLive s _ _ fun _ => .rfl)

theorem serveSetMask_concludes (p : Role) (kinds : Word16) : s.Concludes (serveSetMask p kinds s).1 := by
  unfold serveSetMask
  split
  · exact .unchanged s
  · dsimp only
    exact .noting p fun _ => rfl

theorem serveForceEvent_concludes (p : Role) (kinds : Word16) : s.Concludes (serveForceEvent p kinds s).1 := by
  unfold serveForceEvent
  split
  · exact .unchanged s
  · dsimp only
    exact .noting p fun _ => rfl

/-- A claim placed or refreshed writes the table and has its openings resolved (R30, R31). -/
theorem placeClaim_concludes (who : Claimant) (scope : ClaimScope) (position : Nat) :
    s.Concludes (s.placeClaim who scope position).1 := by
  have joined (claims : Claims) (os : List OpeningId) :
      s.Concludes { s with claims := claims, core := s.core.joinAll os } :=
    .telling ((tellsOnly_joinAll s os).trans (tellsOnly_of_core rfl rfl rfl))
  unfold State.placeClaim
  dsimp only
  split
  · exact .unchanged s
  · split
    · exact .unchanged s
    · split
      · split
        · exact joined _ _
        · exact joined _ []
      · split
        · exact joined _ _
        · exact .unchanged s

theorem serveClaim_concludes (p : Role) (a b x : Byte) : s.Concludes (serveClaim p a b x s).1 := by
  unfold serveClaim
  split
  · exact .unchanged s
  · split
    · exact .unchanged s
    · exact placeClaim_concludes s _ _ _

theorem serveRelease_concludes (p : Role) (a b : Byte) : s.Concludes (serveRelease p a b s).1 := by
  unfold serveRelease
  split
  · exact .unchanged s
  · split
    · exact .unchanged s
    · split
      · exact .unchanged s
      · exact .telling ((tellsOnly_joinAll s _).trans (tellsOnly_of_core rfl rfl rfl))

theorem serveAdvisory_concludes (a b : Byte) (d : Word16) : s.Concludes (serveAdvisory a b d s).1 := by
  unfold serveAdvisory
  split
  · exact .unchanged s
  · split
    · exact .unchanged s
    · split
      · exact .unchanged s
      · split
        · split
          · exact .unchanged s
          · exact .settling (.onSky (.refl s) fun e y => reevaluate_hears e y _)
        · exact .settling (.onSky (.refl s) fun e y => reevaluate_hears e y _)

theorem putStatic_concludes (i : Fin 32) (x : StaticEntry) : s.Concludes (s.putStatic i x) := by
  have written : s.Tells (s.withStatics (put s.work.statics i (some x))) := ⟨rfl, .refl _⟩
  refine .settling (written.within fun e c => ?_)
  dsimp only
  split
  · exact .of_eq ((recheckAll_notices _ _ _).trans (joinAll_notices _ _))
  · exact .of_eq (joinAll_notices _ _)

theorem setStatic_concludes (x : StaticEntry) : s.Concludes (s.setStatic x).1 := by
  unfold State.setStatic
  split
  · exact .unchanged s
  · split
    · exact putStatic_concludes s _ _
    · split
      · exact putStatic_concludes s _ _
      · exact .unchanged s

theorem serveStaticSet_concludes (a b k x : Byte) : s.Concludes (serveStaticSet a b k x s).1 := by
  unfold serveStaticSet
  split
  · exact .unchanged s
  · split
    · exact .unchanged s
    · split
      · exact .unchanged s
      · exact setStatic_concludes s _

theorem serveStaticClear_concludes (a b : Byte) : s.Concludes (serveStaticClear a b s).1 := by
  have cleared (i : Fin 32) (os : List OpeningId) : s.TellsOnly { s.withStatics (put s.work.statics i none) with
      core := s.core.joinAll os } := (tellsOnly_joinAll s os).trans (tellsOnly_of_core rfl rfl rfl)
  unfold serveStaticClear
  split
  · exact .unchanged s
  · split
    · exact .unchanged s
    · split
      · exact .unchanged s
      · split
        · exact .unchanged s
        · exact .telling (cleared _ _)

theorem serveClearFault_concludes (b : Byte) : s.Concludes (serveClearFault b s).1 := by
  unfold serveClearFault
  split
  · exact .unchanged s
  · split
    · exact .unchanged s
    · split
      · exact .unchanged s
      · exact .settling (.within (.refl s) fun e c => .of_eq (clearFault_notices e _ c))

theorem serveResync_concludes (b : Byte) : s.Concludes (serveResync b s).1 := by
  unfold serveResync
  split
  · exact .unchanged s
  · refine .settling (.within (.refl s) fun e c => ?_)
    exact .of_eq (foldl_leaves Core.notices _ (fun d g => triggerPass_notices e g d) _ c)

theorem written_tells (o : OpeningId) (m : Commissioned) : s.Tells (s.written o m) := by
  refine ⟨rfl, written_core s o m (fun c => s.core.notices.Hears c.notices) ?_ (fun _ h => h)
    (fun d c h => by rwa [recheckDrive_notices]) fun _ _ h => h⟩
  have forgotten : (s.core.rewritten s.env o m).notices = s.core.notices := by simp [Core.rewritten]
  have removed := (removeClaims_tellsOnly
    { s with work := { s.work with openings := put s.work.openings o m }
             core := s.core.rewritten s.env o m }
    (if m.present then .zoneChanged else .openingRemoved)
    (writeRemoves o m.present (look s.work.zones m.zone))).hears
  rwa [forgotten] at removed

theorem serveOpeningWrite_concludes (a b c d e f g h i : Byte) :
    s.Concludes (serveOpeningWrite a b c d e f g h i s).1 := by
  have write (o : OpeningId) (m : Commissioned) : s.Concludes (s.writeOpening o m) := .settling (written_tells s o m)
  unfold serveOpeningWrite
  split
  · exact .unchanged s
  · split
    · exact .unchanged s
    · repeat' split
      any_goals exact .unchanged s
      exact write _ _

theorem endAdmission_tellsOnly (z : ZoneId) (before after : Zone) (who : Claimant) :
    s.TellsOnly (s.endAdmission z before after who) := by
  unfold State.endAdmission
  split
  · exact removeClaims_tellsOnly s _ _
  · exact .refl s

theorem serveZoneWrite_concludes (a b c d e f : Byte) : s.Concludes (serveZoneWrite a b c d e f s).1 := by
  have written (z : ZoneId) (new : Zone) :
      s.TellsOnly { s with work := { s.work with zones := put s.work.zones z new } } := tellsOnly_of_core rfl rfl rfl
  unfold serveZoneWrite
  split
  · exact .unchanged s
  · split
    · exact .unchanged s
    · exact .telling ((((written _ _).trans (endAdmission_tellsOnly _ _ _ _ .ventilation)).trans
        (endAdmission_tellsOnly _ _ _ _ .security)).trans (tellsOnly_joinAll _ _))

theorem serveSettingsWrite_concludes (new : Settings) : s.Concludes (serveSettingsWrite new s).1 := by
  unfold serveSettingsWrite
  split
  · exact .unchanged s
  · split
    · exact .unchanged s
    · exact writeSettings_concludes s new

/-- A request that leaves the drive core and writes no content leaves the building-closed status and all it is judged
by. -/
theorem serve_leavesCore (r : MasterRequest) (p : Role) (core : r.leavesCore = true) (work : r.writesWork = false) :
    s.Concludes (r.serve p s).1 := by
  rw [serve_over]
  exact .telling (tellsOnly_of_core rfl (over_core r _ s core) (by rw [over_work r _ s work]))

theorem serve_concludes (r : MasterRequest) (p : Role) : s.Concludes (r.serve p s).1 := by
  cases r with
  | readOpening b => exact serveReadOpening_concludes s p b
  | readCounters b => exact serveReadCounters_concludes s b
  | readEvents => exact .noting p fun _ => rfl
  | setMask w => exact serveSetMask_concludes s p w
  | forceEvent w => exact serveForceEvent_concludes s p w
  | claim a b x => exact serveClaim_concludes s p a b x
  | release a b => exact serveRelease_concludes s p a b
  | advisory a b d => exact serveAdvisory_concludes s a b d
  | staticSet a b k x => exact serveStaticSet_concludes s a b k x
  | staticClear a b => exact serveStaticClear_concludes s a b
  | clearFault b => exact serveClearFault_concludes s b
  | resync b => exact serveResync_concludes s b
  | openingWrite => exact serveOpeningWrite_concludes s _ _ _ _ _ _ _ _ _
  | zoneWrite => exact serveZoneWrite_concludes s _ _ _ _ _ _
  | settingsWrite x => exact serveSettingsWrite_concludes s x
  | readBlock | readWeather | readStatus | readStatic | readClaim | zoneRead | settingsRead | save | mode | reset =>
    exact serve_leavesCore s _ p rfl rfl

end Requests

/-! ### Every command -/

/-- A property of states that no event breaks, however it ends. -/
structure EventKept (P : State → Prop) : Prop where
  same : ∀ s t : State, t.phase = s.phase → t.core = s.core → t.work = s.work → P s → P t
  concludes : ∀ s t : State, s.inReset = false → s.Concludes t → P s → P t
  reset : ∀ (k : ResetKind) (s : State), P (s.enterReset k)
  load : ∀ s : State, P s.load

section Keeping

variable {P : State → Prop} {s t : State}

theorem unlessHeld_keeps (f : State → State) (w : P s) (hf : s.inReset = false → P (f s)) : P (s.unlessHeld f) := by
  cases hr : s.inReset with
  | true => rwa [unlessHeld_held s f hr]
  | false => rw [unlessHeld_running s f hr]; exact hf hr

/-- The state a command answers is the one it is given. -/
theorem next_keeps {u : State} (h : (Host.Outcome.next u : Result) = .next t) (w : P u) : P t := by
  cases h; exact w

variable (k : EventKept P)
include k

theorem EventKept.event (f : State → State) (w : P s) (hf : s.Concludes (f s)) : P (s.unlessHeld f) :=
  unlessHeld_keeps f w fun awake => k.concludes s _ awake hf w

/-- The expiry of a timer, at any moment. -/
theorem EventKept.expiry (x : Option Timer) (f : State → State) (w : P s) (hf : ∀ u : State, u.Concludes (f u)) :
    P (s.expiry x f) := by
  unfold State.expiry
  refine unlessHeld_keeps _ w fun awake => ?_
  cases x with
  | none => exact w
  | some x => exact k.concludes (s.atMoment x.deadline) _ awake (hf _) (k.same s _ rfl rfl rfl w)

theorem EventKept.coreEvent (f : Env → Core → Core) (w : P s)
    (hf : ∀ (e : Env) (c : Core), c.notices.Hears (f e c).notices) : P (s.coreEvent f) :=
  k.event _ w (.settling (.within (.refl s) hf))

theorem EventKept.coreExpiry (x : Option Timer) (f : Env → Core → Core) (w : P s)
    (hf : ∀ (e : Env) (c : Core), c.notices.Hears (f e c).notices) : P (s.coreExpiry x f) :=
  k.expiry x _ w fun u => .settling (.within (.refl u) hf)

theorem EventKept.skyExpiry (x : Option Timer) (f : Env → Sky → Sky) (w : P s)
    (hf : ∀ (e : Env) (y : Sky), y.core.notices.Hears (f e y).core.notices) : P (s.skyExpiry x f) :=
  k.expiry x _ w fun u => .settling (.onSky (.refl u) hf)

theorem EventKept.setPort (p : Role) (f : Port → Port) (w : P s) : P (s.setPort p f) := k.same s _ rfl rfl rfl w

/-- A request is discarded in reset, or served and answered (R173). -/
theorem EventKept.takeRequest (p : Role) (r : MasterRequest) (w : P s) : P (s.takeRequest p r) := by
  cases hr : s.inReset with
  | true => rwa [takeRequest_held s p r hr]
  | false =>
    rcases takeRequest_cases s p r with h | ⟨y, h⟩ | ⟨y, _, h⟩ <;> rw [h]
    · exact w
    · exact k.same s _ rfl rfl rfl w
    · exact k.same (r.serve p s).1 _ rfl rfl rfl (k.concludes s _ hr (serve_concludes s r p) w)

theorem EventKept.takeBytes (p : Role) (bytes : List RxByte) (w : P s) : P (s.takeBytes p bytes) :=
  takeBytes_keeps P (fun _ q f => k.setPort q f) (fun _ q r => k.takeRequest q r) s p bytes w

/-- Every command keeps it. -/
theorem EventKept.exec (i : Instr) (h : Machine.exec i s = .next t) (w : P s) : P t := by
  cases i with
  | readOpening | readBlock | readWeather | readStatus | readEvents | setMask | forceEvent | claim | release | advisory
  | staticSet | staticClear | readStatic | readClaim | zoneRead | readCounters | clearFault | resync | openingWrite
  | zoneWrite | settingsWrite | settingsRead | save | mode | reset => exact next_keeps h (k.takeRequest _ _ w)
  | requestFrameArrival p frame =>
    refine next_keeps h (unlessHeld_keeps _ w fun _ => k.takeBytes p _ ?_)
    exact completeFrame_keeps P (fun _ q f => k.setPort q f) (fun _ q r => k.takeRequest q r) s p frame w
  | byteReceived p b =>
    refine next_keeps h (unlessHeld_keeps _ w fun _ => k.takeBytes p _ ?_)
    exact takeByte_keeps P (fun _ q f => k.setPort q f) (fun _ q r => k.takeRequest q r) s p b w
  | frameGapTimeout p => exact next_keeps h (unlessHeld_keeps _ w fun _ => k.setPort p _ w)
  | replySent p =>
    refine next_keeps h (unlessHeld_keeps _ w fun _ => ?_)
    unfold State.replyLeaves
    dsimp only
    split
    · exact k.reset _ _
    · exact k.setPort p _ w
  | powerOnReset | resetPinAssert => exact next_keeps h (k.reset _ s)
  | logicSupplyFall micros =>
    refine next_keeps h ?_
    split
    · exact k.reset _ s
    · exact w
  | loadEvent =>
    refine next_keeps h ?_
    split
    · exact k.load s
    · exact w
  | noticeEvent =>
    refine next_keeps h ?_
    split
    · next hp =>
      have awake : s.inReset = false := by unfold State.inReset; rw [hp]
      have told : s.Tells s.announce := ⟨awake.symm, (Notices.Hears.refl s.core.notices).hand .startUp⟩
      exact k.concludes s _ awake (.telling (told.only rfl rfl)) w
    · exact w
    · exact w
  | saveCompletion intact =>
    refine next_keeps h (k.event _ w ?_)
    split
    · have told : s.Tells (s.saveEnds intact) := ⟨rfl, (Notices.Hears.refl s.core.notices).hand _⟩
      exact .telling (told.only rfl rfl)
    · exact .unchanged s
  | rainContactChange x raw =>
    have input := k.same s { s with inputs := s.inputs.setRain x raw } rfl rfl rfl w
    exact next_keeps h (k.event _ input (.telling (tellsOnly_of_core rfl rfl rfl)))
  | mainsLineChange raw =>
    have input := k.same s { s with inputs := { s.inputs with mainsLine := raw } } rfl rfl rfl w
    exact next_keeps h (k.event _ input (.telling (tellsOnly_of_core rfl rfl rfl)))
  | anemometerPulse micros =>
    refine next_keeps h (k.event _ w ?_)
    split
    · exact .telling (tellsOnly_of_core rfl rfl rfl)
    · exact .unchanged s
  | rainFilterExpiry x => exact next_keeps h (k.skyExpiry _ _ w fun e _ => rainFilterEnds_hears e x (.refl _))
  | dryOutExpiry => exact next_keeps h (k.skyExpiry _ _ w fun e y => reevaluate_hears e y _)
  | gustWindowEnd => exact next_keeps h (k.skyExpiry _ _ w fun e y => reevaluate_hears e y _)
  | warmUpExpiry => exact next_keeps h (k.skyExpiry _ _ w fun e y => reevaluate_hears e y _)
  | stabilityTimerExpiry => exact next_keeps h (k.skyExpiry _ _ w fun e _ => sectorSettles_hears e (.refl _))
  | advisoryMinuteMark => exact next_keeps h (k.skyExpiry _ _ w fun e _ => minuteMark_hears e (.refl _))
  | standDownExpiry => exact next_keeps h (k.skyExpiry _ _ w fun e _ => standDownEnds_hears e (.refl _))
  | vaneChange lines =>
    have input := k.same s { s with inputs := { s.inputs with vane := lines } } rfl rfl rfl w
    refine next_keeps h ?_
    split
    · exact w
    · exact k.event _ input (.settling (.onSky (.refl _) fun e _ => vaneReads_hears e _ (.refl _)))
  | agingSweep => exact next_keeps h (k.expiry _ _ w fun u => .telling (agingSweep_tellsOnly u))
  | resolveOpening => exact next_keeps h (k.coreEvent _ w fun e _ => resolveNext_hears e s.claims (.refl _))
  | startWalk => exact next_keeps h (k.coreEvent _ w fun e c => .of_eq (startWalk_notices e c))
  | nodeFrameSent g => exact next_keeps h (k.coreEvent _ w fun e c => .of_eq (frameSent_notices e g c))
  | nodeReply g r => exact next_keeps h (k.coreEvent _ w fun e _ => replyArrives_hears e g r (.refl _))
  | nodeReplyBusy g a => exact next_keeps h (k.coreEvent _ w fun e _ => busyArrives_hears e g a (.refl _))
  | invalidNodeFrame g bytes gap =>
    exact next_keeps h (k.coreEvent _ w fun e _ => frameArrives_hears e g bytes gap (.refl _))
  | turnaroundEnd | restTimerExpiry | dwellTimerExpiry | followPollTimerExpiry | enrollmentRetry =>
    exact next_keeps h (k.coreExpiry _ _ w fun _ c => .refl c.notices)
  | replyWindowExpiry g => exact next_keeps h (k.coreExpiry _ _ w fun e _ => windowEnds_hears e g (.refl _))
  | runLimitExpiry i => exact next_keeps h (k.coreExpiry _ _ w fun e _ => runLimitEnds_hears e i (.refl _))
  | orphanHoldEnd i => exact next_keeps h (k.coreExpiry _ _ w fun e c => .of_eq (endOrphan_notices e i c))
  | progressPollTimerExpiry i =>
    exact next_keeps h (k.coreExpiry _ _ w fun e c => .of_eq (progressDue_notices e i c))
  | idlePollRound g =>
    exact next_keeps h (k.coreExpiry _ _ w fun e c => .of_eq (pollRound_segmentsOnly e g c).notices)
  | reProbeTimerExpiry o => exact next_keeps h (k.coreExpiry _ _ w fun e c => .of_eq (reProbeDue_notices e o c))
  | holdreqChange g raw =>
    have input := k.same s { s with inputs := { s.inputs with holdreq := s.inputs.holdreq.set g raw } } rfl rfl rfl w
    exact next_keeps h (k.event _ input (.telling (State.Tells.only ⟨rfl, .refl s.core.notices⟩ rfl rfl)))
  | holdreqFilterExpiry g => exact next_keeps h (k.coreExpiry _ _ w fun e _ => holdreqSettles_hears e g (.refl _))
  | reclaimTimerExpiry g => exact next_keeps h (k.coreExpiry _ _ w fun e c => revoke_hears e g (.refl c.notices))
  | returningTimerExpiry g => exact next_keeps h (k.coreExpiry _ _ w fun e _ => returned_hears e g (.refl _))
  | motorVoltageChange v =>
    have input := k.same s { s with inputs := { s.inputs with voltage := min v 600 } } rfl rfl rfl w
    exact next_keeps h (k.event _ input (.settling (judgeSupply_tells _)))
  | rideThroughExpiry => exact next_keeps h (k.expiry _ _ w fun u => .settling (enterSupply_tells u .out))
  | mainsFilterExpiry => exact next_keeps h (k.expiry _ _ w fun u => .telling (mainsChanges_tellsOnly u))
  | measuredCurrentChange n =>
    have input := k.same s { s with inputs := { s.inputs with current := min n 999 } } rfl rfl rfl w
    exact next_keeps h (k.event _ input (.telling ((judgePause_tellsOnly _).trans (tellsOnly_of_core rfl rfl rfl))))
  | pauseLimitExpiry =>
    have told (u : State) : u.Tells u.pauseLimitEnds := ⟨rfl, (Notices.Hears.refl u.core.notices).hand .pauseTimeout⟩
    exact next_keeps h (k.expiry _ _ w fun u => .telling ((told u).only rfl rfl))
  | tripTimerExpiry => exact next_keeps h (k.expiry _ _ w fun u => .settling (tripEnds_tells u))

theorem EventKept.step (h : Machine.step s = .next t) (w : P s) : P t := by
  unfold Machine.step at h
  split at h
  · cases h
    exact k.same s _ rfl rfl rfl w
  · exact k.exec _ h (k.same s _ rfl rfl rfl w)

end Keeping

/-! ### ATTN and the building-closed status -/

theorem kept_attnWf : EventKept AttnWf where
  same s t phase core _ := AttnWf_of_eq s t phase (by rw [core])
  concludes _ _ awake ends := Concludes.attnWf ends awake
  reset k s := by
    intro p
    simp [State.enterReset, Core.held, NoticePort.held, State.inReset]
  load s := by
    refine (attnWf_iff rfl).2 fun p => ?_
    obtain ⟨d, rest, _, core⟩ := load_core s
    have fresh : (s.load.core.notices.ports.get p) = NoticePort.fresh := by
      rw [core]
      exact (congrArg (fun n : Notices => n.ports.get p) rest.notices).trans (PerPort.get_all _ p)
    rw [fresh]
    rfl

theorem kept_buildingWf : EventKept BuildingWf where
  same s t phase core work w := by
    unfold BuildingWf State.inReset
    rw [phase, core, work]
    exact w
  concludes _ _ _ ends := Concludes.buildingWf ends
  reset _ _ held := absurd held (by simp [State.enterReset, State.inReset])
  load s := by
    obtain ⟨d, _, _, core⟩ := load_core s
    intro _
    rw [core]
    exact buildingClosed_iff s.cleared.env d

/-- A building-closed status that the checks change is latched on every port with the new status as its detail
(R190). -/
theorem settled_latches (s : State) (p : Role)
    (h : s.settled.core.notices.buildingClosed ≠ s.core.notices.buildingClosed) :
    hasKind (s.settled.core.notices.ports.get p).latch .buildingClosedChanged = true ∧
      (s.settled.core.notices.ports.get p).details.building =
        some (if s.settled.core.notices.buildingClosed then .closed else .notClosed) := by
  have before : (s.core.concluded s.env).notices.buildingClosed = s.core.notices.buildingClosed :=
    (concluded_hears s.env (.refl _)).buildingClosed
  rw [State.settled_core, settle_eq] at h ⊢
  rw [noteBuilding_changed _ _ (before ▸ h)]
  refine ⟨hand_latches _ (.buildingClosedChanged _) p rfl, ?_⟩
  simp [Notices.hand, Happening.latchedOn, NoticePort.latchEvent, NoticePort.deriveAttn, Happening.detail]

end Sys2Proof.Machine

open Sys2Proof Sys2Proof.Machine

/-- Settles O58: every event ends in one of three ways, each of which keeps ATTN and the building-closed status as
derived; the checks at its end latch a changed status. -/
theorem stepKeepsAttnDerived : Obligations.StepKeepsAttnDerived :=
  ⟨fun _ _ w h => kept_attnWf.step h w, fun _ _ w h => kept_buildingWf.step h w, settled_latches⟩

end

section
/-! SUPPORT. The tests of R192 read as facts about the tables, what each edit of the working copies makes of them, and
the content start-up takes; the statement that every step keeps the working copies valid. -/

namespace Sys2Proof.Machine

/-! ### The tests of R192 -/

theorem Content.valid_iff (c : Content) : c.valid = true ↔ settingsValid c.settings = true ∧
    openingsValid c.openings = true ∧ zonesValid c.zones = true ∧ staticsValid c.statics = true := by
  simp [Content.valid, and_assoc]

/-- A record's address is its own exactly when no other present record has its segment and node (R1). -/
theorem addressTaken_eq_false (v : Vector Commissioned 128) (o : OpeningId) (m : Commissioned) :
    addressTaken v o m = false ↔ ∀ p : OpeningId, p ≠ o → (look v p).present = true →
      (look v p).segment = m.segment → (look v p).node ≠ m.node := by
  simp [addressTaken, List.any_eq_false]

/-- The records pass where each is paired and each present one has an address of its own (R1, R2). -/
theorem openingsValid_iff (v : Vector Commissioned 128) : openingsValid v = true ↔ ∀ o : OpeningId,
    (look v o).paired = true ∧ ((look v o).present = true → addressTaken v o (look v o) = false) := by
  simp [openingsValid, ← Bool.not_eq_true, ← Decidable.imp_iff_not_or]

/-- The zones pass where every ceiling is in range (R25). -/
theorem zonesValid_iff (v : Vector Zone 16) : zonesValid v = true ↔ ∀ z : ZoneId, (look v z).ceiling ≤ 100 := by
  simp only [zonesValid, List.all_eq_true, mem_toList_iff, decide_eq_true_eq, forall_exists_index,
    forall_apply_eq_imp_iff]

theorem hasStaticKey_iff (key : StaticKey) (slot : Option StaticEntry) :
    hasStaticKey key slot = true ↔ ∃ x : StaticEntry, slot = some x ∧ x.key = key := by
  simp [hasStaticKey, Option.any_eq_true]

/-- The static slots pass where every entry is in range and no two have one key (R38). -/
theorem staticsValid_iff (v : Vector (Option StaticEntry) 32) : staticsValid v = true ↔
    ∀ (i : Fin 32) (x : StaticEntry), look v i = some x → x.inRange = true ∧
      ∀ (j : Fin 32) (y : StaticEntry), look v j = some y → y.key = x.key → i = j := by
  have apart (i j : Fin 32) (x : StaticEntry) : (decide (i = j) || !hasStaticKey x.key (look v j)) = true ↔
      ∀ y : StaticEntry, look v j = some y → y.key = x.key → i = j := by
    rw [Bool.or_eq_true, decide_eq_true_eq, Bool.not_eq_true', ← Bool.not_eq_true, hasStaticKey_iff]
    refine ⟨?_, fun unique => ?_⟩
    · rintro (same | unkeyed) y hy key
      · exact same
      · exact absurd ⟨y, hy, key⟩ unkeyed
    · by_cases same : i = j
      · exact .inl same
      · exact .inr fun ⟨y, hy, key⟩ => same (unique y hy key)
  simp only [staticsValid, List.all_eq_true, List.mem_finRange, true_implies]
  refine forall_congr' fun i => ?_
  cases look v i with
  | none => exact ⟨nofun, fun _ => rfl⟩
  | some x =>
    simp only [Bool.and_eq_true, List.all_eq_true, List.mem_finRange, true_implies, apart, Option.some.injEq,
      forall_eq']

/-! ### Tables with a row replaced -/

/-- A paired record whose address no other present record has takes its place among valid records (R3). -/
theorem openingsValid_put (v : Vector Commissioned 128) (o : OpeningId) (m : Commissioned) (paired : m.paired = true)
    (free : m.present = true → addressTaken v o m = false) (w : openingsValid v = true) :
    openingsValid (put v o m) = true := by
  simp only [openingsValid_iff, addressTaken_eq_false] at w free ⊢
  intro p
  by_cases hp : p = o
  · subst hp
    rw [look_put_same]
    refine ⟨paired, fun present q hq => ?_⟩
    rw [look_put_ne _ _ _ _ hq]
    exact free present q hq
  · rw [look_put_ne _ _ _ _ hp]
    obtain ⟨kept, own⟩ := w p
    refine ⟨kept, fun present q hq => ?_⟩
    by_cases ho : q = o
    · subst ho
      rw [look_put_same]
      exact fun written segment node => free written p hp present segment.symm node.symm
    · rw [look_put_ne _ _ _ _ ho]
      exact own present q hq

theorem zonesValid_put (v : Vector Zone 16) (z : ZoneId) (new : Zone) (ceiling : new.ceiling ≤ 100)
    (w : zonesValid v = true) : zonesValid (put v z new) = true := by
  rw [zonesValid_iff] at w ⊢
  intro y
  rw [look_put]
  split
  · exact ceiling
  · exact w y

/-- An entry in range whose key no other slot has takes its place among valid static slots (R39). -/
theorem staticsValid_put (v : Vector (Option StaticEntry) 32) (i : Fin 32) (x : StaticEntry) (range : x.inRange = true)
    (own : ∀ (j : Fin 32) (y : StaticEntry), look v j = some y → y.key = x.key → i = j)
    (w : staticsValid v = true) : staticsValid (put v i (some x)) = true := by
  rw [staticsValid_iff] at w ⊢
  intro j y hy
  by_cases hj : j = i
  · subst hj
    rw [look_put_same] at hy
    cases hy
    refine ⟨range, fun k z hz key => ?_⟩
    by_cases hk : k = j
    · exact hk.symm
    · rw [look_put_ne _ _ _ _ hk] at hz
      exact own k z hz key
  · rw [look_put_ne _ _ _ _ hj] at hy
    obtain ⟨kept, unique⟩ := w j y hy
    refine ⟨kept, fun k z hz key => ?_⟩
    by_cases hk : k = i
    · subst hk
      rw [look_put_same] at hz
      cases hz
      exact (own j y hy key.symm).symm
    · rw [look_put_ne _ _ _ _ hk] at hz
      exact unique k z hz key

theorem staticsValid_clear (v : Vector (Option StaticEntry) 32) (i : Fin 32) (w : staticsValid v = true) :
    staticsValid (put v i none) = true := by
  have kept (j : Fin 32) (x : StaticEntry) (hx : look (put v i none) j = some x) : look v j = some x := by
    rw [look_put] at hx
    split at hx
    · cases hx
    · exact hx
  rw [staticsValid_iff] at w ⊢
  intro j x hx
  obtain ⟨range, unique⟩ := w j x (kept j x hx)
  exact ⟨range, fun k y hy => unique k y (kept k y hy)⟩

/-! ### What the requests write -/

theorem positionOf?_range {b : Byte} {n : Nat} (h : positionOf? b = some n) : n ≤ 100 := by
  unfold positionOf? at h
  split at h
  · next range => cases h; exact range
  · cases h

/-- The range checks of STATIC_SET let only entries in range through (R39). -/
theorem staticKindOf_inRange {b x : Byte} {kind : StaticKind} (key : StaticKey) (h : staticKindOf b x = .ok kind) :
    (StaticEntry.mk key kind).inRange = true := by
  unfold staticKindOf at h
  split at h
  · cases h; rfl
  · split at h
    · next p position => cases h; exact decide_eq_true (positionOf?_range position)
    · cases h
  · cases h

/-- The range checks of ZONE_WRITE let only ceilings in range through (R26). -/
theorem zoneFields_ceiling {a b c d e f : Byte} {z : ZoneId} {new : Zone} (h : zoneFields a b c d e f = .ok (z, new)) :
    new.ceiling ≤ 100 := by
  unfold zoneFields at h
  split at h
  case h_7 ceiling _ => cases h; exact positionOf?_range ceiling
  all_goals cases h

theorem writeOpening_work (s : State) (o : OpeningId) (m : Commissioned) :
    (s.writeOpening o m).work = { s.work with openings := put s.work.openings o m } := by
  rw [writeOpening_eq, State.settled_work, written_work]

@[simp] theorem endAdmission_work (s : State) (z : ZoneId) (before after : Zone) (who : Claimant) :
    (s.endAdmission z before after who).work = s.work := by
  unfold State.endAdmission
  split <;> rfl

theorem writeZone_work (s : State) (z : ZoneId) (new : Zone) :
    (s.writeZone z new).work = { s.work with zones := put s.work.zones z new } := by
  simp [State.writeZone]

theorem putStatic_work (s : State) (i : Fin 32) (x : StaticEntry) :
    (s.putStatic i x).work = { s.work with statics := put s.work.statics i (some x) } := by
  rw [State.putStatic, State.settled_work]
  rfl

/-! ### Requests -/

section Requests

variable {s : State}

theorem workWf_iff : WorkWf s ↔ settingsValid s.work.settings = true ∧ openingsValid s.work.openings = true ∧
    zonesValid s.work.zones = true ∧ staticsValid s.work.statics = true := Content.valid_iff s.work

theorem writeOpening_workWf (o : OpeningId) (m : Commissioned) (paired : m.paired = true)
    (free : m.present = true → addressTaken s.work.openings o m = false) (w : WorkWf s) :
    WorkWf (s.writeOpening o m) := by
  obtain ⟨settings, openings, zones, statics⟩ := workWf_iff.1 w
  rw [workWf_iff, writeOpening_work]
  exact ⟨settings, openingsValid_put _ o m paired free openings, zones, statics⟩

theorem writeZone_workWf (z : ZoneId) (new : Zone) (ceiling : new.ceiling ≤ 100) (w : WorkWf s) :
    WorkWf (s.writeZone z new) := by
  obtain ⟨settings, openings, zones, statics⟩ := workWf_iff.1 w
  rw [workWf_iff, writeZone_work]
  exact ⟨settings, openings, zonesValid_put _ z new ceiling zones, statics⟩

theorem writeSettings_workWf (new : Settings) (valid : settingsValid new = true) (w : WorkWf s) :
    WorkWf (s.writeSettings new) := by
  obtain ⟨_, openings, zones, statics⟩ := workWf_iff.1 w
  rw [workWf_iff, writeSettings_work]
  exact ⟨valid, openings, zones, statics⟩

theorem putStatic_workWf (i : Fin 32) (x : StaticEntry) (range : x.inRange = true)
    (own : ∀ (j : Fin 32) (y : StaticEntry), look s.work.statics j = some y → y.key = x.key → i = j) (w : WorkWf s) :
    WorkWf (s.putStatic i x) := by
  obtain ⟨settings, openings, zones, statics⟩ := workWf_iff.1 w
  rw [workWf_iff, putStatic_work]
  exact ⟨settings, openings, zones, staticsValid_put _ i x range own statics⟩

/-- STATIC_SET writes the slot that has the key, of which there is one, or an empty slot where none has it (R39). -/
theorem setStatic_workWf (x : StaticEntry) (range : x.inRange = true) (w : WorkWf s) : WorkWf (s.setStatic x).1 := by
  obtain ⟨_, _, _, statics⟩ := workWf_iff.1 w
  unfold State.setStatic
  split
  · exact w
  · split
    · next i found =>
      refine putStatic_workWf i x range (fun j y hy key => ?_) w
      obtain ⟨old, slot, keyed⟩ := (hasStaticKey_iff _ _).1 (lowest_passes _ _ i found)
      obtain ⟨_, unique⟩ := (staticsValid_iff _).1 statics i old slot
      exact unique j y hy (key.trans keyed.symm)
    · next missing =>
      split
      · next i _ =>
        refine putStatic_workWf i x range (fun j y hy key => ?_) w
        have other := (lowest_eq_none _ _).1 missing j
        exact absurd ((hasStaticKey_iff _ _).2 ⟨y, hy, key⟩) (by simp [other])
      · exact w

theorem serveStaticSet_workWf (a b k x : Byte) (w : WorkWf s) : WorkWf (serveStaticSet a b k x s).1 := by
  unfold serveStaticSet
  split
  · exact w
  · split
    · exact w
    · next key _ =>
      split
      · exact w
      · next kind read => exact setStatic_workWf _ (staticKindOf_inRange key read) w

theorem serveStaticClear_workWf (a b : Byte) (w : WorkWf s) : WorkWf (serveStaticClear a b s).1 := by
  obtain ⟨settings, openings, zones, statics⟩ := workWf_iff.1 w
  unfold serveStaticClear
  split
  · exact w
  · split
    · exact w
    · split
      · exact w
      · split
        · exact w
        · next i _ => exact workWf_iff.2 ⟨settings, openings, zones, staticsValid_clear _ i statics⟩

theorem serveOpeningWrite_workWf (a b c d e f g h i : Byte) (w : WorkWf s) :
    WorkWf (serveOpeningWrite a b c d e f g h i s).1 := by
  unfold serveOpeningWrite
  split
  · exact w
  · split
    · exact w
    · next o m _ =>
      split
      · exact w
      · split
        · exact w
        · next paired =>
          split
          · exact w
          · split
            · exact w
            · next free =>
              exact writeOpening_workWf o m (by simpa using paired) (by simpa using free) w

theorem serveZoneWrite_workWf (a b c d e f : Byte) (w : WorkWf s) : WorkWf (serveZoneWrite a b c d e f s).1 := by
  unfold serveZoneWrite
  split
  · exact w
  · split
    · exact w
    · next z new read => exact writeZone_workWf z new (zoneFields_ceiling read) w

theorem serveSettingsWrite_workWf (new : Settings) (w : WorkWf s) : WorkWf (serveSettingsWrite new s).1 := by
  unfold serveSettingsWrite
  split
  · exact w
  · split
    · exact w
    · next sound => exact writeSettings_workWf new ((settingsFault_eq_none new).1 sound) w

/-- Five requests edit the working copies, each within the tests of R192; the others leave them. -/
theorem serve_workWf (r : MasterRequest) (p : Role) (w : WorkWf s) : WorkWf (r.serve p s).1 := by
  have leaves (reads : r.writesWork = false) : WorkWf (r.serve p s).1 :=
    WorkWf_of_eq s _ (by rw [serve_over]; exact over_work r _ s reads) w
  cases r with
  | staticSet a b k x => exact serveStaticSet_workWf a b k x w
  | staticClear a b => exact serveStaticClear_workWf a b w
  | openingWrite => exact serveOpeningWrite_workWf _ _ _ _ _ _ _ _ _ w
  | zoneWrite => exact serveZoneWrite_workWf _ _ _ _ _ _ w
  | settingsWrite new => exact serveSettingsWrite_workWf new w
  | _ => exact leaves rfl

theorem takeRequest_workWf (p : Role) (r : MasterRequest) (w : WorkWf s) : WorkWf (s.takeRequest p r) := by
  rcases takeRequest_cases s p r with unchanged | ⟨y, refused⟩ | ⟨y, _, served⟩
  · rwa [unchanged]
  · rw [refused]; exact w
  · rw [served]; exact serve_workWf r p w

theorem setPort_workWf (p : Role) (f : Port → Port) (w : WorkWf s) : WorkWf (s.setPort p f) := w

theorem takeBytes_workWf (p : Role) (bytes : List RxByte) (w : WorkWf s) : WorkWf (s.takeBytes p bytes) :=
  takeBytes_keeps WorkWf (fun _ q f => setPort_workWf q f) (fun _ q r => takeRequest_workWf q r) s p bytes w

end Requests

/-! ### Start-up (R192) -/

theorem default_valid : Content.default.valid = true := by
  refine (Content.valid_iff _).2 ⟨by decide, (openingsValid_iff _).2 fun o => ?_, (zonesValid_iff _).2 fun z => ?_,
    (staticsValid_iff _).2 fun i x hx => ?_⟩
  · rw [show look Content.default.openings o = Commissioned.default from look_replicate _ o]
    exact ⟨rfl, fun present => absurd present (by decide)⟩
  · exact Nat.le_of_eq (congrArg Zone.ceiling (look_replicate Zone.default z))
  · exact absurd ((look_replicate none i).symm.trans hx) nofun

/-- The working copies take the image only where it passes, and else the default content. -/
theorem content_valid (t : Store) : t.content.valid = true := by
  unfold Store.content
  split
  · next passes =>
    obtain ⟨_, valid⟩ := (passes_iff t).1 passes
    exact valid
  · exact default_valid

theorem load_workWf (s : State) : WorkWf s.load := content_valid s.store

/-! ### Every command -/

section Events

variable {s : State}

theorem agreesOutside_workWf {t : State} (h : s.agreesOutside t) (w : WorkWf s) : WorkWf t := by
  obtain ⟨_, _, _, _, _, work, _⟩ := h
  exact WorkWf_of_eq s t work w

theorem unlessHeld_workWf (f : State → State) (w : WorkWf s) (hf : WorkWf (f s)) : WorkWf (s.unlessHeld f) :=
  unlessHeld_cases s f WorkWf w hf

/-- The expiry of a timer whose event leaves the working copies. -/
theorem expiry_workWf (x : Option Timer) (f : State → State) (w : WorkWf s) (hf : ∀ u : State, (f u).work = u.work) :
    WorkWf (s.expiry x f) :=
  expiry_cases s x f WorkWf w fun t _ => WorkWf_of_eq s _ (hf (s.atMoment t.deadline)) w

theorem coreEvent_workWf (f : Env → Core → Core) (w : WorkWf s) : WorkWf (s.coreEvent f) :=
  agreesOutside_workWf (coreEvent_leaves s f).1 w

theorem coreExpiry_workWf (x : Option Timer) (f : Env → Core → Core) (w : WorkWf s) : WorkWf (s.coreExpiry x f) :=
  agreesOutside_workWf (coreExpiry_leaves s x f).1 w

theorem skyExpiry_workWf (x : Option Timer) (f : Env → Sky → Sky) (w : WorkWf s) : WorkWf (s.skyExpiry x f) :=
  agreesOutside_workWf (skyExpiry_leaves s x f).1 w

theorem settled_workWf (w : WorkWf s) : WorkWf s.settled := WorkWf_of_eq s _ (State.settled_work s) w

theorem judgeSupply_work (s : State) : s.judgeSupply.work = s.work := by
  unfold State.judgeSupply
  dsimp only
  split <;> rfl

theorem replyLeaves_workWf (p : Role) (w : WorkWf s) : WorkWf (s.replyLeaves p) := by
  unfold State.replyLeaves
  dsimp only
  split <;> exact w

/-- Every command keeps the working copies valid: a request by the checks of its edit, the load event by the check of
the image; every other command leaves them. -/
theorem exec_workWf {t : State} (i : Instr) (h : exec i s = .next t) (w : WorkWf s) : WorkWf t := by
  cases i with
  | readOpening | readBlock | readWeather | readStatus | readEvents | setMask | forceEvent | claim | release | advisory
  | staticSet | staticClear | readStatic | readClaim | zoneRead | readCounters | clearFault | resync | openingWrite
  | zoneWrite | settingsWrite | settingsRead | save | mode | reset => exact next_keeps h (takeRequest_workWf _ _ w)
  | requestFrameArrival p frame =>
    refine next_keeps h (unlessHeld_workWf _ w (takeBytes_workWf p _ ?_))
    exact completeFrame_keeps WorkWf (fun _ q f => setPort_workWf q f) (fun _ q r => takeRequest_workWf q r) s p frame w
  | byteReceived p b =>
    refine next_keeps h (unlessHeld_workWf _ w (takeBytes_workWf p _ ?_))
    exact takeByte_keeps WorkWf (fun _ q f => setPort_workWf q f) (fun _ q r => takeRequest_workWf q r) s p b w
  | frameGapTimeout p => exact next_keeps h (unlessHeld_workWf _ w (setPort_workWf p _ w))
  | replySent p => exact next_keeps h (unlessHeld_workWf _ w (replyLeaves_workWf p w))
  | powerOnReset | resetPinAssert => exact next_keeps h w
  | logicSupplyFall =>
    refine next_keeps h ?_
    split <;> exact w
  | loadEvent =>
    refine next_keeps h ?_
    split
    · exact load_workWf s
    · exact w
  | noticeEvent =>
    refine next_keeps h ?_
    split <;> exact w
  | saveCompletion =>
    refine next_keeps h (unlessHeld_workWf _ w ?_)
    split <;> exact w
  | anemometerPulse =>
    refine next_keeps h (unlessHeld_workWf _ w ?_)
    split <;> exact w
  | rainContactChange | mainsLineChange | holdreqChange | measuredCurrentChange =>
    exact next_keeps h (unlessHeld_workWf _ w w)
  | vaneChange =>
    refine next_keeps h ?_
    split
    · exact w
    · exact unlessHeld_workWf _ w (settled_workWf w)
  | motorVoltageChange v =>
    have input : WorkWf { s with inputs := { s.inputs with voltage := min v 600 } } := w
    exact next_keeps h (unlessHeld_workWf _ input (settled_workWf (WorkWf_of_eq _ _ (judgeSupply_work _) input)))
  | rainFilterExpiry | dryOutExpiry | gustWindowEnd | warmUpExpiry | stabilityTimerExpiry | advisoryMinuteMark
  | standDownExpiry => exact next_keeps h (skyExpiry_workWf _ _ w)
  | resolveOpening | startWalk | nodeFrameSent | nodeReply | nodeReplyBusy | invalidNodeFrame =>
    exact next_keeps h (coreEvent_workWf _ w)
  | turnaroundEnd | replyWindowExpiry | runLimitExpiry | orphanHoldEnd | restTimerExpiry | dwellTimerExpiry
  | progressPollTimerExpiry | idlePollRound | followPollTimerExpiry | reProbeTimerExpiry | enrollmentRetry
  | holdreqFilterExpiry | reclaimTimerExpiry | returningTimerExpiry => exact next_keeps h (coreExpiry_workWf _ _ w)
  | agingSweep | mainsFilterExpiry | pauseLimitExpiry => exact next_keeps h (expiry_workWf _ _ w fun _ => rfl)
  | rideThroughExpiry => exact next_keeps h (expiry_workWf _ _ w fun u => State.settled_work (u.enterSupply .out))
  | tripTimerExpiry => exact next_keeps h (expiry_workWf _ _ w fun u => State.settled_work u.tripEnds)

end Events

end Sys2Proof.Machine

open Sys2Proof Sys2Proof.Machine

/-- Settles O56: a millisecond that passes leaves the working copies, and every command keeps them valid. -/
theorem stepKeepsTheWorkingCopiesValid : Obligations.StepKeepsTheWorkingCopiesValid := by
  intro s t w h
  unfold step at h
  split at h
  · exact next_keeps h w
  · exact exec_workWf (s := { s with pending := _ }) _ h w

end

section
/-! SUPPORT. What the load event leaves satisfies every invariant; the passes of a building with no present opening,
complete as they begin; the statement on State.reset. -/

namespace Sys2Proof.Machine

/-! ### The invariants right after the load event (R197) -/

section Loaded

variable (s : State)

theorem load_claimsWf : ClaimsWf s.load := by
  intro i x hx
  exact absurd ((look_replicate none i).symm.trans hx) nofun

/-- No sector is stable yet, and the stability timer runs for the sector the vane reads (R55). -/
theorem load_sectorWf : SectorWf s.load :=
  ⟨rfl, rfl, ⟨nofun, nofun⟩, fun _ running => by cases running; rfl⟩

theorem load_latchesWf : LatchesWf s.load := fun _ o => look_replicate false o

theorem load_attnWf : AttnWf s.load := kept_attnWf.load s

theorem load_buildingWf : BuildingWf s.load := kept_buildingWf.load s

/-- No job waits and nothing is to be resolved (R42, R73). -/
theorem load_orderWf : OrderWf s.load := by
  obtain ⟨d, rest, _, core⟩ := load_core s
  rw [OrderWf, core]
  exact ⟨rest.resolveSet ▸ .nil, rest.queue ▸ .nil⟩

/-- No job waits, no slot is taken, and every record is UNENROLLED or ABSENT without a timer (R197). -/
theorem load_drivesWf : DrivesWf s.load := by
  obtain ⟨d, rest, _, core⟩ := load_core s
  have live (o : OpeningId) : s.load.core.live o =
      Live.begun (look s.store.content.openings o).present (s.core.live o) := by
    rw [core]
    exact (rest.live o).trans (live_cleared _ _ _ _ o)
  have state (o : OpeningId) : (s.load.core.live o).state = .unenrolled ∨ (s.load.core.live o).state = .absent := by
    rw [live]
    cases h : (look s.store.content.openings o).present <;> simp [Live.begun]
  have queue : s.load.core.queue = [] := by rw [core]; exact rest.queue
  have slots : s.load.core.slots = Vector.replicate 8 none := by rw [core]; exact rest.slots
  have empty (i : SlotId) (x : Slot) (hx : look s.load.core.slots i = some x) : False := by
    rw [slots, look_replicate] at hx
    cases hx
  refine ⟨queue ▸ .nil, fun o => ?_, fun i x hx => (empty i x hx).elim, fun i _ x _ hx => (empty i x hx).elim,
    fun o driven => ?_, fun o => ?_⟩
  · rw [queue]
    rcases state o with h | h <;> simp [h]
  · rcases state o with h | h <;> simp [h] at driven
  · rw [live]
    exact ⟨nofun, nofun⟩

end Loaded

/-! ### Passes over no openings (R136, R137) -/

section Vacant

variable (e : Env) (g : Segment) (c : Core)

/-- A pass triggered over no opening has an empty resync list (R136). -/
theorem triggerPass_vacant (begun : AllBegun c) (powered : e.supply ≠ .out) (owned : (c.holds.get g).state = .owned)
    (fresh : c.segments.get g = SegmentCtl.fresh e.now) :
    c.triggerPass e g = c.setSegment g fun _ => SegmentCtl.triggered e g := by
  have carries : c.carries e g = true := by simp [Core.carries, owned, powered]
  unfold Core.triggerPass
  rw [if_pos carries, startPass_begun e g c begun]
  simp [Core.setSegment, fresh, SegmentCtl.triggered, powered, SegmentCtl.dropPass, SegmentCtl.fresh, dropPassRequests]

/-- A pass over no opening is complete at once, and its end triggers a start walk (R83, R136). -/
theorem passUpkeep_vacant (powered : e.supply ≠ .out) (vacant : e.presentOn g = [])
    (triggered : c.segments.get g = SegmentCtl.triggered e g) :
    c.passUpkeep e g = (c.setSegment g fun _ => SegmentCtl.fresh e.now).trigger := by
  simp [Core.passUpkeep, Core.setSegment, triggered, SegmentCtl.triggered, powered, vacant, SegmentCtl.passInFlight,
    SegmentCtl.fresh]

/-- With no request pending the arbiter sends nothing (R124). -/
theorem arbitrate_idle (owned : (c.holds.get g).state = .owned) (idle : (c.segments.get g).requests = []) :
    c.arbitrate e g = c := by
  unfold Core.arbitrate
  rw [owned, idle]
  split <;> rfl

end Vacant

/-- With power and no present opening, the passes of start-up are complete as they begin: only a start walk is left
triggered (R83, R136). -/
theorem startPasses_vacant (e : Env) (c : Core) (begun : AllBegun c) (powered : e.supply ≠ .out)
    (vacant : ∀ g : Segment, e.presentOn g = []) (owned : ∀ g : Segment, (c.holds.get g).state = .owned)
    (fresh : c.segments = PerSegment.all (SegmentCtl.fresh e.now)) :
    c.startPasses e = { c with walkTriggered := true } := by
  have freshly (g : Segment) : c.segments.get g = SegmentCtl.fresh e.now := by rw [fresh, PerSegment.get_all]
  have first := triggerPass_vacant e .seg0 c begun powered (owned .seg0) (freshly .seg0)
  have second := triggerPass_vacant e .seg1 (c.setSegment .seg0 fun _ => SegmentCtl.triggered e .seg0)
    (begun.of_segmentsOnly ⟨rfl, rfl, rfl, rfl, rfl, rfl⟩) powered (owned .seg1) (freshly .seg1)
  unfold Core.startPasses
  dsimp only
  rw [first, second, passUpkeep_vacant e .seg0 _ powered (vacant .seg0) rfl,
    passUpkeep_vacant e .seg1 _ powered (vacant .seg1) rfl, arbitrate_idle e .seg0, arbitrate_idle e .seg1]
  · simp [Core.setSegment, Core.trigger, PerSegment.set, PerSegment.all, fresh]
  · simp [owned]
  · rfl
  · simp [owned]
  · rfl

/-! ### The power-on start-up with an image that fails (log entries 5 and 6) -/

/-- The part that State.reset starts up, held in a power-on reset. -/
def State.unstarted : State := State.reset.enterReset .powerOn

/-- The image fails, so the default content is taken, which has no present opening (R192). -/
theorem unstarted_absent (o : OpeningId) : (State.unstarted.cleared.env.com o).present = false :=
  congrArg Commissioned.present (look_replicate Commissioned.default o)

theorem unstarted_vacant (g : Segment) : State.unstarted.cleared.env.presentOn g = [] := by
  refine List.eq_nil_iff_forall_not_mem.2 fun o ho => ?_
  obtain ⟨present, _⟩ := (mem_presentOn _ g o).1 ho
  rw [unstarted_absent] at present
  cases present

/-- The voltage of log entry 6 is NORMAL, and its current neither pauses nor trips (R157, R164, R166). -/
theorem unstarted_supply : State.unstarted.cleared.supply = State.reset.supply := by decide

/-- The drive core of the part with its volatile items cleared is that of State.reset but for the start walk. -/
theorem unstarted_core : { State.unstarted.cleared.core with walkTriggered := true } = State.reset.core := by
  have openings : State.unstarted.cleared.core.openings = State.reset.core.openings := by
    refine table_ext _ _ fun o => ?_
    have kept : State.unstarted.core.live o = Live.blank.powerOn :=
      (look_map Live.powerOn _ o).trans (congrArg Live.powerOn (look_replicate Live.blank o))
    have absent : (look Content.default.openings o).present = false := unstarted_absent o
    calc look State.unstarted.cleared.core.openings o
        = Live.begun (look Content.default.openings o).present (State.unstarted.core.live o) := by
          rw [cleared_core]; exact live_cleared _ _ _ _ o
      _ = Live.blank := by rw [kept, absent]; rfl
      _ = look State.reset.core.openings o := (look_replicate Live.blank o).symm
  dsimp only
  rw [openings]
  rfl

theorem unstarted_load : State.unstarted.load = State.reset := by
  have supply : State.unstarted.cleared.env.supply = .normal := by
    rw [show State.unstarted.cleared.env.supply = State.unstarted.cleared.supply.state from rfl, unstarted_supply]
    rfl
  have core : State.unstarted.load.core = State.reset.core := by
    rw [load_eq, State.within_core, startPasses_vacant _ _ (cleared_core _ ▸ cleared_allBegun _ _ _ _)
      (by rw [supply]; decide) unstarted_vacant
      (fun g => by rw [cleared_core, holds_cleared]) (by rw [cleared_core]; rfl), unstarted_core]
    have closed : buildingClosed State.unstarted.cleared.env State.reset.core = true :=
      (buildingClosed_iff _ _).2 fun o present => absurd present (by rw [unstarted_absent]; decide)
    rw [Core.evaluateBuilding, closed]
    rfl
  calc State.unstarted.load
      = { State.reset with core := State.unstarted.load.core, supply := State.unstarted.cleared.supply } := rfl
    _ = State.reset := by rw [core, unstarted_supply]

end Sys2Proof.Machine

open Sys2Proof Sys2Proof.Machine

/-- Settles O2: the load event of the part held in reset gives State.reset, so every invariant that holds right after a
load event holds of it. -/
theorem resetIsAPowerOnStartUp : Obligations.ResetIsAPowerOnStartUp := by
  refine ⟨(exec_loadEvent State.unstarted).trans (congrArg _ unstarted_load), ?_⟩
  rw [← unstarted_load]
  exact ⟨load_claimsWf _, load_workWf _, load_sectorWf _, load_latchesWf _, load_attnWf _, load_buildingWf _,
    load_holdsWf _, load_drivesWf _, load_orderWf _⟩

end

section
/-! SUPPORT. A step on a queue with a command and on an empty one; the statement on steps. -/

namespace Sys2Proof.Machine

/-- The command at the front runs on the state with the queue's rest. -/
theorem step_queued (c : Instr) (rest : List Instr) (s : State) (h : s.pending = c :: rest) :
    step s = exec c { s with pending := rest } := by
  unfold step
  rw [h]

/-- On an empty queue one millisecond passes (log entry 1). -/
theorem step_idle (s : State) (h : s.pending = []) : step s = .next { s with clock := s.clock + 1 } := by
  unfold step
  rw [h]

end Sys2Proof.Machine

open Sys2Proof Sys2Proof.Machine

/-- Settles O1: the two rows of a step, by the queue. -/
theorem stepRunsTheFrontCommand : Obligations.StepRunsTheFrontCommand :=
  ⟨fun c s => step_queued c s.pending { s with pending := c :: s.pending } rfl, step_idle⟩

end

section
/-! SUPPORT. The timed events by the operation each is: one of the drive core, an expiry of the Weather Assessor, or an
expiry of the Supply Monitor; the statement on what each leaves of the other blocks. -/

namespace Sys2Proof.Machine

/-! ### The events of the drive core and of the Weather Assessor -/

/-- A drive event is an event of the drive core, or the expiry of a timer that the drive core acts on. -/
theorem exec_driveEvent (c : Instr) (s : State) (h : driveEvent c = true) :
    (∃ f, exec c s = .next (s.coreEvent f)) ∨ ∃ t f, exec c s = .next (s.coreExpiry t f) := by
  cases c with
  | resolveOpening | startWalk | nodeFrameSent | nodeReply | nodeReplyBusy | invalidNodeFrame => exact .inl ⟨_, rfl⟩
  | turnaroundEnd | replyWindowExpiry | runLimitExpiry | orphanHoldEnd | restTimerExpiry | dwellTimerExpiry
  | progressPollTimerExpiry | idlePollRound | followPollTimerExpiry | reProbeTimerExpiry | enrollmentRetry
  | holdreqFilterExpiry | reclaimTimerExpiry | returningTimerExpiry => exact .inr ⟨_, _, rfl⟩
  | _ => cases h

/-- A timed weather event is the expiry of a timer that the Weather Assessor acts on. -/
theorem exec_weatherEvent (c : Instr) (s : State) (h : weatherEvent c = true) :
    ∃ t f, exec c s = .next (s.skyExpiry t f) := by
  cases c with
  | rainFilterExpiry | dryOutExpiry | gustWindowEnd | stabilityTimerExpiry | advisoryMinuteMark | standDownExpiry
  | warmUpExpiry => exact ⟨_, _, rfl⟩
  | _ => cases h

/-! ### The events of the Supply Monitor -/

/-- What an operation of the Supply Monitor leaves: every block but the drive core and its own. -/
def State.suppliedOnly (s t : State) : Prop := s.agreesOutside t ∧ t.weather = s.weather

theorem suppliedOnly_settled {s t : State} (h : s.suppliedOnly t) : s.suppliedOnly t.settled :=
  ⟨agreesOutside_trans _ _ _ h.1 (agreesOutside_settled t), (State.settled_weather t).trans h.2⟩

/-- The supply state entered, with the drive core told of it (R156, R159, R160). -/
theorem enterSupply_suppliedOnly (new : SupplyState) (s : State) : s.suppliedOnly (s.enterSupply new) :=
  ⟨agreesOutside_within _ _, rfl⟩

/-- The mains state changed, and the pause and the trip judged by its budget (R161, R162). -/
theorem mainsChanges_suppliedOnly (s : State) : s.suppliedOnly s.mainsChanges :=
  ⟨⟨rfl, rfl, rfl, rfl, rfl, rfl, rfl⟩, rfl⟩

/-- The pause BARRED at its limit (R165). -/
theorem pauseLimitEnds_suppliedOnly (s : State) : s.suppliedOnly s.pauseLimitEnds :=
  ⟨⟨rfl, rfl, rfl, rfl, rfl, rfl, rfl⟩, rfl⟩

/-- The trip timer restarted or stopped, and a drive shed (R96, R167). -/
theorem tripEnds_suppliedOnly (s : State) : s.suppliedOnly s.tripEnds :=
  ⟨agreesOutside_within _ _, rfl⟩

/-- A timed supply event is the expiry of a timer of the Supply Monitor, whose operation leaves the other blocks. -/
theorem exec_supplyEvent (c : Instr) (s : State) (h : supplyEvent c = true) :
    ∃ t f, exec c s = .next (s.expiry t f) ∧ ∀ u : State, u.suppliedOnly (f u) := by
  cases c with
  | rideThroughExpiry => exact ⟨_, _, rfl, fun u => suppliedOnly_settled (enterSupply_suppliedOnly .out u)⟩
  | mainsFilterExpiry => exact ⟨_, _, rfl, mainsChanges_suppliedOnly⟩
  | pauseLimitExpiry => exact ⟨_, _, rfl, pauseLimitEnds_suppliedOnly⟩
  | tripTimerExpiry => exact ⟨_, _, rfl, fun u => suppliedOnly_settled (tripEnds_suppliedOnly u)⟩
  | _ => cases h

/-- An expiry leaves what its operation leaves: the clock that moves to the deadline is none of it. -/
theorem expiry_suppliedOnly (s : State) (t : Option Timer) (f : State → State)
    (leaves : ∀ u : State, u.suppliedOnly (f u)) : s.suppliedOnly (s.expiry t f) := by
  refine expiry_cases s t f (fun u => s.suppliedOnly u) ⟨agreesOutside_refl s, rfl⟩ fun x _ => ?_
  obtain ⟨outside, weather⟩ := leaves (s.atMoment x.deadline)
  exact ⟨agreesOutside_trans _ _ _ (agreesOutside_atMoment s _) outside, weather⟩

end Sys2Proof.Machine

open Sys2Proof Sys2Proof.Machine

/-- Settles O52: each timed event is an operation of its own unit, between an expiry and the checks at its end. -/
theorem eventsLeaveTheOtherBlocks : Obligations.EventsLeaveTheOtherBlocks := by
  intro c s
  refine ⟨fun drive => ?_, fun weather => ?_, fun supply => ?_⟩
  · obtain ⟨f, run⟩ | ⟨t, f, run⟩ := exec_driveEvent c s drive
    · exact ⟨_, run, coreEvent_leaves s f⟩
    · exact ⟨_, run, coreExpiry_leaves s t f⟩
  · obtain ⟨t, f, run⟩ := exec_weatherEvent c s weather
    exact ⟨_, run, skyExpiry_leaves s t f⟩
  · obtain ⟨t, f, run, leaves⟩ := exec_supplyEvent c s supply
    exact ⟨_, run, expiry_suppliedOnly s t f leaves⟩

end

section
/-! SUPPORT. The lengths of the requests' frames, and the node frames field by field; the statements on both. -/

namespace Sys2Proof.Machine

/-! ### Lengths of the requests' frames (R199, R200) -/

/-- Fields laid out take two bytes for each wide one and one for each other. -/
theorem length_layFields (ws : List Bool) (ns : List Nat) (h : ws.length = ns.length) :
    (layFields ws ns).length = (ws.map fun wide => if wide then 2 else 1).sum := by
  induction ws generalizing ns with
  | nil => rfl
  | cons wide ws ih =>
    obtain _ | ⟨n, ns⟩ := ns
    · cases h
    · cases wide <;> simp [layFields, twoBytes, ih ns (Nat.succ.inj h)] <;> omega

/-- The settings record is the longest payload, of 44 bytes. -/
theorem length_payload_le (r : MasterRequest) : r.payload.length ≤ 44 := by
  cases r with
  | settingsWrite x => exact (length_layFields settingIsWide (settingsToList x) rfl).le
  | _ => simp [MasterRequest.payload]

/-- Sync byte, length byte, code and CRC-16 stand around the payload. -/
theorem length_frame (r : MasterRequest) : r.frame.length = r.payload.length + 5 := by
  simp [MasterRequest.frame]

theorem frame_lengthByte (r : MasterRequest) : r.frame[1]? = some (byteOf r.frame.length) := by
  rw [length_frame]
  rfl

/-! ### Fields of the node frames (R203) -/

theorem bit?_bitCode (b : Bool) : bit? (bitCode b) = some b := by cases b <;> rfl

theorem answer?_answerCode (a : Answer) : answer? (answerCode a) = some a := by cases a <;> rfl

theorem outcome?_outcomeCode (x : DriveOutcome) : outcome? (outcomeCode x) = some x := by cases x <;> rfl

theorem lock?_lockCode (x : Option Bool) : lock? (lockCode x) = some x := by
  obtain _ | _ | _ := x <;> rfl

/-- A node's address is sent with 64 added. -/
theorem replyAddress?_sent (a : NodeAddress) : replyAddress? (byteOf (a.val + 64)) = some a := by
  have sent : (byteOf (a.val + 64)).toNat = a.val + 64 := byteOf_toNat _ (by omega)
  rw [replyAddress?, sent, if_neg (by omega)]
  exact finOf?_eq_some 64 _ a (by omega)

/-- The ability bytes of an ACK to ENROLL read back, whatever their codes. -/
theorem ability?_abilityBytes (a : AbilityReport) : ability? (abilityBytes a) = some (some a) := by
  obtain ⟨stroke, rated, sense, lockContact, quiet, kind⟩ := a
  cases sense <;> cases kind <;> simp only [abilityBytes, ability?, bit?_bitCode] <;> rfl

/-! ### Whole node frames (R121, R203) -/

/-- The fields of a good reply, before those of an ability, read back beside whatever ability follows. -/
theorem readContent_fields (r : NodeReply) (rest : List Byte) (h : ability? rest = some r.ability) :
    readContent ([byteOf (r.address.val + 64), answerCode r.answer, bitCode r.moving, outcomeCode r.outcome, r.position,
      lockCode r.locked] ++ rest) = some (.reply r) := by
  simp only [readContent, List.cons_append, List.nil_append, replyAddress?_sent, answer?_answerCode, bit?_bitCode,
    outcome?_outcomeCode, lock?_lockCode, h]

theorem readContent_content (f : NodeFrame) : readContent f.content = some f := by
  cases f with
  | busy a => simp [NodeFrame.content, readContent, replyAddress?_sent]
  | reply r =>
    refine readContent_fields r _ ?_
    cases r.ability with
    | none => rfl
    | some a => exact ability?_abilityBytes a

/-- A frame that ends in the CRC-8 of its content is read by its content. -/
theorem readNodeFrame_checked (content : List Byte) :
    readNodeFrame ((0x3C#8 :: content) ++ [crc8 content]) = readContent content := by
  simp only [readNodeFrame, List.cons_append, List.getLast?_concat, List.dropLast_concat, and_self, if_true]

end Sys2Proof.Machine

open Sys2Proof Sys2Proof.Machine

/-- Settles O53: the lengths of the frame, its CRC-16, and its code and payload in turn. -/
theorem requestFramesReadBack : Obligations.RequestFramesReadBack := fun r fits =>
  ⟨frame_lengthByte r, length_frame r ▸ Nat.add_le_add_right (length_payload_le r) 5, frameCrcOk_checked _ _,
    knownCode_code r, frameParts_frame r, requestOf_payload r fits⟩

/-- Settles O54: the CRC-8 leaves the content, whose codes all read back. -/
theorem nodeFramesReadBack : Obligations.NodeFramesReadBack := fun f =>
  (readNodeFrame_checked f.content).trans (readContent_content f)

end

section
/-! SUPPORT. The queue, the slots, the opening states and the pending-resolution set through the small changes of which
every operation of the drive core is made: what leaves them, an opening that leaves its job or its slot, and an opening
that takes a state, a job or a slot. -/

namespace Sys2Proof.Machine

/-! ### Agreement but for openings in transit -/

/-- Queue, slots and opening states agree as DrivesWf says, but for openings in transit from one state to the next: these
have neither a job nor a slot. -/
structure Core.AgreesBut (out : OpeningId → Prop) (c : Core) : Prop where
  nodup : (c.queue.map Job.opening).Nodup
  queued : ∀ o : OpeningId, ¬ out o → ((c.live o).state = .queued ↔ ∃ j ∈ c.queue, j.opening = o)
  slot : ∀ (i : SlotId) (x : Slot), look c.slots i = some x → x.wf c
  unique : ∀ (i j : SlotId) (x y : Slot), look c.slots i = some x → look c.slots j = some y → x.opening = y.opening → i = j
  slotted : ∀ o : OpeningId, ¬ out o → (c.live o).state = .driving ∨ (c.live o).state = .stopping →
    ∃ (i : SlotId) (x : Slot), look c.slots i = some x ∧ x.opening = o
  timers : ∀ o : OpeningId, ((c.live o).restTimer.isSome = true → (c.live o).state = .resting) ∧
    ((c.live o).dwellTimer.isSome = true → (c.live o).state = .dwell)
  noJob : ∀ o : OpeningId, out o → ∀ j ∈ c.queue, j.opening ≠ o
  noSlot : ∀ o : OpeningId, out o → ∀ (i : SlotId) (x : Slot), look c.slots i = some x → x.opening ≠ o

/-- No opening is in transit. -/
def nobody : OpeningId → Prop := fun _ => False

/-- One opening is in transit. -/
def only (o : OpeningId) : OpeningId → Prop := fun q => q = o

/-- The set strictly ascending and the queue in band order, as OrderWf says. -/
def Core.ordered (c : Core) : Prop := c.resolveSet.Pairwise (· < ·) ∧ c.queue.Pairwise fun a b => a.before b = true

theorem drivesWf_iff (s : State) : DrivesWf s ↔ s.core.AgreesBut nobody := by
  constructor
  · rintro ⟨nodup, queued, slot, unique, slotted, timers⟩
    exact ⟨nodup, fun o _ => queued o, slot, unique, fun o _ => slotted o, timers, nofun, nofun⟩
  · rintro ⟨nodup, queued, slot, unique, slotted, timers, _, _⟩
    exact ⟨nodup, fun o => queued o id, slot, unique, fun o => slotted o id, timers⟩

theorem orderWf_iff (s : State) : OrderWf s ↔ s.core.ordered := .rfl

/-- A change of the drive core that carries the agreement over, from the openings in transit before it to those after it,
and keeps the orders. -/
structure Core.Turns (p q : OpeningId → Prop) (c d : Core) : Prop where
  drives : c.AgreesBut p → d.AgreesBut q
  order : c.ordered → d.ordered

/-- A change of the drive core that keeps the agreement and the orders. -/
abbrev Core.Keeps (c d : Core) : Prop := c.Turns nobody nobody d

section Turns

variable {p q r : OpeningId → Prop} {c d : Core}

theorem Core.Turns.refl (c : Core) : c.Turns p p c := ⟨id, id⟩

theorem Core.Turns.trans {u : Core} (h : c.Turns p q d) (g : d.Turns q r u) : c.Turns p r u :=
  ⟨fun w => g.drives (h.drives w), fun w => g.order (h.order w)⟩

/-- What each operation of a fold keeps, the fold keeps. -/
theorem foldl_turns {α : Type} (f : Core → α → Core) (hf : ∀ (c : Core) (x : α), c.Turns p p (f c x)) (l : List α) (c : Core) :
    c.Turns p p (l.foldl f c) := by
  induction l generalizing c with
  | nil => exact .refl c
  | cons x rest ih => exact (hf c x).trans (ih _)

end Turns

/-! ### Changes that leave jobs, slots and states where they stand -/

/-- What the agreement and the queue's order read of a job. -/
def Job.standing (j : Job) : OpeningId × Nat × Int := (j.opening, j.band, j.mark)

/-- What the agreement reads of a slot. -/
def Slot.standing (x : Slot) : OpeningId × Prop × Prop := (x.opening, x.phase = .orphan, x.orphanEnd.isSome = true)

/-- What the agreement reads of a record: DRIVING and STOPPING are one to it. -/
def Live.standing (l : Live) : Prop × Prop × Prop × Prop :=
  (l.state = .queued, l.state = .driving ∨ l.state = .stopping, l.state = .lost,
    (l.restTimer.isSome = true → l.state = .resting) ∧ (l.dwellTimer.isSome = true → l.state = .dwell))

/-- A change that leaves jobs, slots and records where they stand, and the pending-resolution set. -/
structure Core.Quiet (c d : Core) : Prop where
  queue : d.queue.map Job.standing = c.queue.map Job.standing
  slots : ∀ i : SlotId, (look d.slots i).map Slot.standing = (look c.slots i).map Slot.standing
  live : ∀ o : OpeningId, (d.live o).standing = (c.live o).standing
  resolveSet : d.resolveSet = c.resolveSet

section Quiet

variable {p : OpeningId → Prop} {c d : Core}

theorem Core.Quiet.symm (h : c.Quiet d) : d.Quiet c :=
  ⟨h.queue.symm, fun i => (h.slots i).symm, fun o => (h.live o).symm, h.resolveSet.symm⟩

/-- A slot after the change has the standing of the one before it. -/
theorem Core.Quiet.look_slot (h : c.Quiet d) {i : SlotId} {x : Slot} (hx : look d.slots i = some x) :
    ∃ y : Slot, look c.slots i = some y ∧ y.standing = x.standing := by
  have same := h.slots i
  rw [hx] at same
  cases hy : look c.slots i with
  | none => rw [hy] at same; cases same
  | some y => rw [hy] at same; exact ⟨y, rfl, (Option.some.inj same).symm⟩

theorem Core.Quiet.queue_openings (h : c.Quiet d) : d.queue.map Job.opening = c.queue.map Job.opening := by
  have := congrArg (List.map Prod.fst) h.queue
  rw [List.map_map, List.map_map] at this
  exact this

theorem Core.Quiet.hasJob (h : c.Quiet d) (o : OpeningId) :
    (∃ j ∈ d.queue, j.opening = o) ↔ ∃ j ∈ c.queue, j.opening = o := by
  simp only [← List.mem_map, h.queue_openings]

theorem Core.Quiet.agrees (h : c.Quiet d) (w : c.AgreesBut p) : d.AgreesBut p := by
  have live (o : OpeningId) := Prod.ext_iff.1 (h.live o)
  have queued (o : OpeningId) : ((d.live o).state = .queued) = ((c.live o).state = .queued) := (live o).1
  have driven (o : OpeningId) : ((d.live o).state = .driving ∨ (d.live o).state = .stopping) =
      ((c.live o).state = .driving ∨ (c.live o).state = .stopping) := (Prod.ext_iff.1 (live o).2).1
  have lost (o : OpeningId) : ((d.live o).state = .lost) = ((c.live o).state = .lost) :=
    (Prod.ext_iff.1 (Prod.ext_iff.1 (live o).2).2).1
  have opening {x y : Slot} (hs : y.standing = x.standing) : y.opening = x.opening := congrArg Prod.fst hs
  refine ⟨by rw [h.queue_openings]; exact w.nodup, fun o ho => ?_, fun i x hx => ?_, fun i j x y hx hy ho => ?_,
    fun o ho hd => ?_, fun o => ?_, fun o ho j hj => ?_, fun o ho i x hx => ?_⟩
  · rw [h.hasJob, ← w.queued o ho, queued]
  · obtain ⟨y, hy, hs⟩ := h.look_slot hx
    obtain ⟨orphan, drives, ends⟩ := w.slot i y hy
    have phase : (y.phase = .orphan) = (x.phase = .orphan) := congrArg (fun z => z.2.1) hs
    have held : (y.orphanEnd.isSome = true) = (x.orphanEnd.isSome = true) := congrArg (fun z => z.2.2) hs
    rw [opening hs, ← lost, phase] at orphan
    rw [opening hs, ← driven, ne_eq, phase] at drives
    rw [held, phase] at ends
    exact ⟨orphan, drives, ends⟩
  · obtain ⟨x', hx', sx⟩ := h.look_slot hx
    obtain ⟨y', hy', sy⟩ := h.look_slot hy
    exact w.unique i j x' y' hx' hy' ((opening sx).trans (ho.trans (opening sy).symm))
  · obtain ⟨i, y, hy, rfl⟩ := w.slotted o ho (driven o ▸ hd)
    obtain ⟨x, hx, hs⟩ := h.symm.look_slot hy
    exact ⟨i, x, hx, opening hs⟩
  · have timers := (Prod.ext_iff.1 (Prod.ext_iff.1 (live o).2).2).2
    exact timers.mpr (w.timers o)
  · intro hjo
    obtain ⟨k, hk, hko⟩ := (h.hasJob o).1 ⟨j, hj, hjo⟩
    exact w.noJob o ho k hk hko
  · obtain ⟨y, hy, hs⟩ := h.look_slot hx
    rw [← opening hs]
    exact w.noSlot o ho i y hy

/-- The queue's order is the order of its jobs' standings. -/
theorem pairwise_before_iff (queue : List Job) : (queue.Pairwise fun a b => a.before b = true) ↔
    (queue.map Job.standing).Pairwise fun a b => a.2.1 < b.2.1 ∨ a.2.1 = b.2.1 ∧ a.2.2 < b.2.2 := by
  rw [List.pairwise_map]
  simp [Job.standing, Job.before]

theorem Core.Quiet.turns (h : c.Quiet d) : c.Turns p p d := by
  refine ⟨h.agrees, fun ⟨set, queue⟩ => ⟨h.resolveSet ▸ set, ?_⟩⟩
  rw [pairwise_before_iff] at queue ⊢
  exact h.queue ▸ queue

/-- A change of other parts of the drive core. -/
theorem turns_of_eq (queue : d.queue = c.queue) (slots : d.slots = c.slots) (openings : d.openings = c.openings)
    (set : d.resolveSet = c.resolveSet) : c.Turns p p d :=
  Core.Quiet.turns ⟨by rw [queue], fun _ => by rw [slots], fun _ => by unfold Core.live; rw [openings], set⟩

/-- A change of a record that keeps its standing. -/
theorem setLive_turns (o : OpeningId) (f : Live → Live) (hf : (f (c.live o)).standing = (c.live o).standing) :
    c.Turns p p (c.setLive o f) := by
  refine Core.Quiet.turns ⟨rfl, fun _ => rfl, fun q => ?_, rfl⟩
  rw [live_setLive]
  split
  · next h => rw [h]; exact hf
  · rfl

/-- Every record changed without a change of its standing. -/
theorem tabulate_turns (f : OpeningId → Live) (hf : ∀ o : OpeningId, (f o).standing = (c.live o).standing)
    (rest : d = { c with openings := tabulate f, segments := d.segments }) : c.Turns p p d := by
  rw [rest]
  exact Core.Quiet.turns ⟨rfl, fun _ => rfl, fun o => by simp only [Core.live, look_tabulate]; exact hf o, rfl⟩

/-- A slot changed without a change of its standing. -/
theorem setSlot_turns (i : SlotId) (f : Slot → Slot)
    (hf : c.AgreesBut p → ∀ x : Slot, look c.slots i = some x → (f x).standing = x.standing) :
    c.Turns p p (c.setSlot i f) := by
  refine ⟨fun w => ?_, id⟩
  suffices quiet : c.Quiet (c.setSlot i f) from quiet.agrees w
  refine ⟨rfl, fun j => ?_, fun _ => rfl, rfl⟩
  rw [Core.setSlot_slots, look_put]
  split
  · next h =>
    rw [h]
    cases hx : look c.slots i with
    | none => rfl
    | some x => exact congrArg some (hf w x hx)
  · rfl

/-- Jobs changed without a change of their standing. -/
theorem mapQueue_turns (f : Job → Job) (hf : ∀ j : Job, (f j).standing = j.standing) :
    c.Turns p p { c with queue := c.queue.map f } := by
  refine Core.Quiet.turns ⟨?_, fun _ => rfl, fun _ => rfl, rfl⟩
  rw [List.map_map]
  exact List.map_congr_left fun j _ => hf j

end Quiet

/-! ### The pending-resolution set (R42) -/

section Joins

variable {p : OpeningId → Prop}

/-- A member placed in an ascending set leaves it ascending. -/
theorem insertAscending_pairwise (o : OpeningId) (l : List OpeningId) (h : l.Pairwise (· < ·)) :
    (insertAscending o l).Pairwise (· < ·) := by
  induction l with
  | nil => simp [insertAscending]
  | cons x rest ih =>
    obtain ⟨least, rest_ascends⟩ := List.pairwise_cons.1 h
    unfold insertAscending
    split
    · next before =>
      refine List.pairwise_cons.2 ⟨fun y hy => ?_, h⟩
      rcases List.mem_cons.1 hy with rfl | hy
      · exact before
      · exact before.trans (least y hy)
    · split
      · exact h
      · next after different =>
        refine List.pairwise_cons.2 ⟨fun y hy => ?_, ih rest_ascends⟩
        rcases (mem_insertAscending o y rest).1 hy with rfl | hy
        · exact lt_of_le_of_ne (not_lt.1 after) fun e => different e.symm
        · exact least y hy

/-- A change of the pending-resolution set alone. -/
theorem resolveSet_turns {c : Core} (set : List OpeningId) (ascends : c.resolveSet.Pairwise (· < ·) → set.Pairwise (· < ·)) :
    c.Turns p p { c with resolveSet := set } :=
  ⟨fun ⟨a, b, d, f, g, h, i, j⟩ => ⟨a, b, d, f, g, h, i, j⟩, fun ⟨before, queue⟩ => ⟨ascends before, queue⟩⟩

theorem join_turns (c : Core) (o : OpeningId) : c.Turns p p (c.join o) :=
  resolveSet_turns _ (insertAscending_pairwise o _)

theorem joinAll_turns (c : Core) (os : List OpeningId) : c.Turns p p (c.joinAll os) :=
  foldl_turns _ (fun c o => join_turns c o) os c

end Joins

/-! ### An opening leaves its job or its slot -/

section Leaves

variable {c : Core} (e : Env) {o : OpeningId}

theorem Core.ordered.of_queue {d : Core} (w : c.ordered) (set : d.resolveSet = c.resolveSet)
    (queue : d.queue.Sublist c.queue) : d.ordered := ⟨set ▸ w.1, w.2.sublist queue⟩

/-- The opening of a slot is DRIVING, STOPPING or LOST. -/
theorem Core.AgreesBut.slotState {p : OpeningId → Prop} (w : c.AgreesBut p) {i : SlotId} {x : Slot}
    (hx : look c.slots i = some x) : (c.live x.opening).state = .driving ∨ (c.live x.opening).state = .stopping ∨
      (c.live x.opening).state = .lost := by
  obtain ⟨orphan, drives, _⟩ := w.slot i x hx
  by_cases h : x.phase = .orphan
  · exact .inr (.inr (orphan h))
  · exact (drives h).imp_right .inl

/-- An opening in none of these states occupies no slot. -/
theorem Core.AgreesBut.unslotted {p : OpeningId → Prop} (w : c.AgreesBut p) (driving : (c.live o).state ≠ .driving)
    (stopping : (c.live o).state ≠ .stopping) (lost : (c.live o).state ≠ .lost) : c.slotOf o = none := by
  cases h : c.slotOf o with
  | none => rfl
  | some i =>
    obtain ⟨x, hx, rfl⟩ := slotOf_occupied c o i h
    rcases w.slotState hx with h | h | h
    · exact absurd h driving
    · exact absurd h stopping
    · exact absurd h lost

/-- The slot of a DRIVING or STOPPING opening is no orphan. -/
theorem Core.AgreesBut.slot_driven {p : OpeningId → Prop} (w : c.AgreesBut p) {i : SlotId} {x : Slot}
    (hx : look c.slots i = some x)
    (hs : (c.live x.opening).state = .driving ∨ (c.live x.opening).state = .stopping) : x.phase ≠ .orphan := by
  obtain ⟨orphan, _, _⟩ := w.slot i x hx
  intro h
  rw [orphan h] at hs
  simp at hs

/-- An opening out of its slot, off the queue. -/
theorem removeJob_frees (h : c.AgreesBut nobody → c.slotOf o = none) : c.Turns nobody (only o) (c.removeJob o) := by
  have dropped : (c.removeJob o).queue.Sublist c.queue := List.filter_sublist
  refine ⟨fun w => ⟨w.nodup.sublist (dropped.map _), fun q hq => ?_, w.slot, w.unique, fun q _ => w.slotted q id,
    w.timers, fun q hq j hj => ?_, fun q hq i x hx => ?_⟩, fun w => w.of_queue rfl dropped⟩
  · have other : (∃ j ∈ (c.removeJob o).queue, j.opening = q) ↔ ∃ j ∈ c.queue, j.opening = q := by
      simp only [Core.removeJob, mem_dropJob]
      exact ⟨fun ⟨j, hj, ho⟩ => ⟨j, hj.1, ho⟩, fun ⟨j, hj, ho⟩ => ⟨j, ⟨hj, fun h => hq (ho.symm.trans h)⟩, ho⟩⟩
    rw [other]
    exact w.queued q id
  · rw [hq]
    exact ((mem_dropJob o c.queue j).1 hj).2
  · rw [hq]
    exact slotOf_none c o (h w) i x hx

/-- An opening in transit has no job to lose. -/
theorem removeJob_turns : c.Turns (only o) (only o) (c.removeJob o) := by
  refine ⟨fun w => ?_, fun w => w.of_queue rfl List.filter_sublist⟩
  have kept : dropJob o c.queue = c.queue := List.filter_eq_self.2 fun j hj => decide_eq_true (w.noJob o rfl j hj)
  have same : c.removeJob o = c := by unfold Core.removeJob; rw [kept]
  rwa [same]

/-- An opening that has neither job nor slot may take another state. -/
theorem leave_frees (h : c.AgreesBut nobody → (c.live o).state ≠ .queued ∧ c.slotOf o = none) :
    c.Turns nobody (only o) c := by
  refine ⟨fun w => ⟨w.nodup, fun q _ => w.queued q id, w.slot, w.unique, fun q _ => w.slotted q id, w.timers,
    fun q hq j hj hjo => ?_, fun q hq i x hx => ?_⟩, id⟩
  · rw [hq] at hjo
    exact (h w).1 ((w.queued o id).2 ⟨j, hj, hjo⟩)
  · rw [hq]
    exact slotOf_none c o (h w).2 i x hx

/-- The agreement with a slot emptied, its opening in transit where it was. -/
theorem AgreesBut_freeSlot {p : OpeningId → Prop} (i : SlotId) {x : Slot} (hx : look c.slots i = some x)
    (w : c.AgreesBut nobody) (noJob : ∀ o : OpeningId, p o → ∀ j ∈ c.queue, j.opening ≠ o)
    (freed : ∀ o : OpeningId, p o → o = x.opening)
    (slotted : ¬ p x.opening → (c.live x.opening).state ≠ .driving ∧ (c.live x.opening).state ≠ .stopping) :
    (c.freeSlot e i).AgreesBut p := by
  have live (o : OpeningId) : (c.freeSlot e i).live o = c.live o := live_freeSlot e c i o
  have kept {j : SlotId} {y : Slot} (hy : look (c.freeSlot e i).slots j = some y) : j ≠ i ∧ look c.slots j = some y := by
    by_cases hj : j = i
    · rw [hj, look_freeSlot_same] at hy; cases hy
    · rw [look_freeSlot_ne _ _ _ _ hj] at hy; exact ⟨hj, hy⟩
  refine ⟨by rw [freeSlot_queue]; exact w.nodup, fun o _ => ?_, fun j y hy => ?_, fun j k y z hy hz => ?_,
    fun o ho hd => ?_, fun o => ?_, by rw [freeSlot_queue]; exact noJob, fun o ho j y hy hyo => ?_⟩
  · rw [live, freeSlot_queue]
    exact w.queued o id
  · have := w.slot j y (kept hy).2
    unfold Slot.wf at this ⊢
    rwa [live]
  · exact w.unique j k y z (kept hy).2 (kept hz).2
  · rw [live] at hd
    obtain ⟨j, y, hy, rfl⟩ := w.slotted o id hd
    have other : j ≠ i := by
      rintro rfl
      rw [hx] at hy
      cases hy
      exact hd.elim (slotted ho).1 (slotted ho).2
    exact ⟨j, y, by rwa [look_freeSlot_ne _ _ _ _ other], rfl⟩
  · rw [live]
    exact w.timers o
  · obtain ⟨hj, hy⟩ := kept hy
    exact hj (w.unique j i y x hy hx (hyo.trans (freed o ho)))

theorem freeSlot_ordered (i : SlotId) (w : c.ordered) : (c.freeSlot e i).ordered :=
  w.of_queue (freeSlot_resolveSet e i c) (by rw [freeSlot_queue])

/-- A slot freed leaves its opening in transit (R98). -/
theorem freeSlot_frees (i : SlotId) {x : Slot} (hx : look c.slots i = some x) :
    c.Turns nobody (only x.opening) (c.freeSlot e i) := by
  refine ⟨fun w => AgreesBut_freeSlot e i hx w (fun o ho j hj hjo => ?_) (fun _ ho => ho) (fun h => absurd rfl h),
    freeSlot_ordered e i⟩
  have queued := (w.queued x.opening id).2 ⟨j, hj, hjo.trans ho⟩
  rcases w.slotState hx with h | h | h <;> rw [h] at queued <;> cases queued

/-- The slot of an opening freed leaves it in transit. -/
theorem slotOf_frees {i : SlotId} (hi : c.slotOf o = some i) : c.Turns nobody (only o) (c.freeSlot e i) := by
  obtain ⟨x, hx, rfl⟩ := slotOf_occupied c o i hi
  exact freeSlot_frees e i hx

/-- An orphan slot freed leaves its opening LOST (R117). -/
theorem freeOrphan_turns (i : SlotId) {x : Slot} (hx : look c.slots i = some x)
    (orphan : c.AgreesBut nobody → x.phase = .orphan) : c.Keeps (c.freeSlot e i) := by
  refine ⟨fun w => AgreesBut_freeSlot e i hx w nofun nofun fun _ => ?_, freeSlot_ordered e i⟩
  obtain ⟨lost, _, _⟩ := w.slot i x hx
  rw [lost (orphan w)]
  exact ⟨nofun, nofun⟩

end Leaves

/-! ### An opening takes a state, a job or a slot -/

/-- A record of an opening that has neither job nor slot and none of a drive's states, its timers as its state has them. -/
structure Live.AtRest (l : Live) : Prop where
  unqueued : l.state ≠ .queued
  undriven : ¬ (l.state = .driving ∨ l.state = .stopping)
  rest : l.restTimer.isSome = true → l.state = .resting
  dwell : l.dwellTimer.isSome = true → l.state = .dwell

section Takes

variable {c : Core} {o : OpeningId}

/-- A slot goes with its opening as before where that one's record is as before. -/
theorem wf_of_live {d : Core} {x : Slot} (w : x.wf c) (h : d.live x.opening = c.live x.opening) : x.wf d := by
  unfold Slot.wf at w ⊢
  rwa [h]

/-- An opening in transit takes a state without job or slot. -/
theorem setLive_settles (f : Live → Live) (h : c.AgreesBut (only o) → (f (c.live o)).AtRest) :
    c.Turns (only o) nobody (c.setLive o f) := by
  refine ⟨fun w => ⟨w.nodup, fun q _ => ?_, fun i x hx => ?_, w.unique, fun q _ hd => ?_, fun q => ?_, nofun, nofun⟩, id⟩
  · by_cases hq : q = o
    · subst hq
      rw [live_setLive_same]
      exact iff_of_false (h w).unqueued fun ⟨j, hj, hjo⟩ => w.noJob q rfl j hj hjo
    · rw [live_setLive_ne _ _ _ _ hq]
      exact w.queued q hq
  · exact wf_of_live (w.slot i x hx) (live_setLive_ne _ _ _ _ (w.noSlot o rfl i x hx))
  · by_cases hq : q = o
    · subst hq
      rw [live_setLive_same] at hd
      exact absurd hd (h w).undriven
    · rw [live_setLive_ne _ _ _ _ hq] at hd
      exact w.slotted q hq hd
  · by_cases hq : q = o
    · subst hq
      rw [live_setLive_same]
      exact ⟨(h w).rest, (h w).dwell⟩
    · rw [live_setLive_ne _ _ _ _ hq]
      exact w.timers q

/-- An inserted job stands among the others. -/
theorem insertJob_perm (j : Job) (queue : List Job) : (insertJob j queue).Perm (j :: queue) := by
  induction queue with
  | nil => exact .refl _
  | cons x rest ih =>
    unfold insertJob
    split
    · exact .refl _
    · exact (ih.cons x).trans (.swap j x rest)

/-- A job whose mark no job of its band has is inserted in band order (R74). -/
theorem insertJob_pairwise (j : Job) (queue : List Job) (h : queue.Pairwise fun a b => a.before b = true)
    (own : ∀ k ∈ queue, k.band = j.band → k.mark ≠ j.mark) :
    (insertJob j queue).Pairwise fun a b => a.before b = true := by
  induction queue with
  | nil => simp [insertJob]
  | cons x rest ih =>
    obtain ⟨first, rest_ordered⟩ := List.pairwise_cons.1 h
    have trans {a b d : Job} (ab : a.before b = true) (bd : b.before d = true) : a.before d = true := by
      simp only [Job.before, Bool.or_eq_true, Bool.and_eq_true, decide_eq_true_eq, beq_iff_eq] at ab bd ⊢
      omega
    unfold insertJob
    split
    · next before =>
      refine List.pairwise_cons.2 ⟨fun k hk => ?_, h⟩
      rcases List.mem_cons.1 hk with rfl | hk
      · exact before
      · exact trans before (first k hk)
    · next notBefore =>
      have behind : x.before j = true := by
        have := own x List.mem_cons_self
        simp only [Job.before, Bool.or_eq_true, Bool.and_eq_true, decide_eq_true_eq, beq_iff_eq] at notBefore ⊢
        omega
      refine List.pairwise_cons.2 ⟨fun k hk => ?_, ih rest_ordered fun k hk => own k (List.mem_cons_of_mem x hk)⟩
      rcases (mem_insertJob j k rest).1 hk with rfl | hk
      · exact behind
      · exact first k hk

theorem foldl_le_max (l : List Int) (a : Int) : a ≤ l.foldl max a ∧ ∀ x ∈ l, x ≤ l.foldl max a := by
  induction l generalizing a with
  | nil => simp
  | cons y rest ih =>
    obtain ⟨base, members⟩ := ih (max a y)
    refine ⟨(le_max_left a y).trans base, fun x hx => ?_⟩
    rcases List.mem_cons.1 hx with rfl | hx
    · exact (le_max_right a x).trans base
    · exact members x hx

/-- A mark for the tail of a band lies above every mark of the band (R74). -/
theorem lt_markFor_tail (queue : List Job) (band : Nat) (k : Job) (hk : k ∈ queue) (hb : k.band = band) :
    k.mark < markFor queue band .tail := by
  have mem : k.mark ∈ (queue.filter fun j => j.band == band).map Job.mark := List.mem_map.2 ⟨k, by simp [hk, hb], rfl⟩
  unfold markFor
  dsimp only
  cases hm : (queue.filter fun j => j.band == band).map Job.mark with
  | nil => rw [hm] at mem; cases mem
  | cons m rest =>
    rw [hm] at mem
    obtain ⟨base, members⟩ := foldl_le_max rest m
    rcases List.mem_cons.1 mem with h | h
    · rw [h]; dsimp only; omega
    · have := members _ h; dsimp only; omega

/-- A mark for an end of a band is none of the band's (R74). -/
theorem markFor_ne (queue : List Job) (band : Nat) (place : BandEnd) (k : Job) (hk : k ∈ queue) (hb : k.band = band) :
    k.mark ≠ markFor queue band place := by
  cases place with
  | head => exact (markFor_head_lt queue band k hk hb).ne'
  | tail => exact (lt_markFor_tail queue band k hk hb).ne

theorem live_enqueue_ne (e : Env) (q : OpeningId) (t : Nat) (cls : JobClass) (place : BandEnd) (h : q ≠ o) :
    (c.enqueue e o t cls place).live q = c.live q := by
  unfold Core.enqueue
  rw [live_trigger, live_setLive_ne _ _ _ _ h]
  rfl

/-- An opening in transit is QUEUED with a job at an end of its band (R73, R74). -/
theorem enqueue_settles (e : Env) (t : Nat) (cls : JobClass) (place : BandEnd) :
    c.Turns (only o) nobody (c.enqueue e o t cls place) := by
  have perm (j : Job) := insertJob_perm j c.queue
  refine ⟨fun w => ⟨?_, fun q _ => ?_, fun i x hx => ?_, w.unique, fun q _ hd => ?_, fun q => ?_, nofun, nofun⟩,
    fun w => ⟨w.1, insertJob_pairwise _ _ w.2 fun k hk hb => markFor_ne _ _ _ k hk hb⟩⟩
  · refine (((perm _).map Job.opening).nodup_iff).2 (List.nodup_cons.2 ⟨fun h => ?_, w.nodup⟩)
    obtain ⟨j, hj, hjo⟩ := List.mem_map.1 h
    exact w.noJob o rfl j hj hjo
  · simp only [Core.enqueue, live_trigger, Core.trigger_queue, Core.setLive_queue, mem_insertJob, live_setLive]
    split
    · next hq => exact iff_of_true rfl ⟨_, .inl rfl, hq.symm⟩
    · next hq =>
      refine (w.queued q hq).trans ⟨fun ⟨j, hj, hjo⟩ => ⟨j, .inr hj, hjo⟩, ?_⟩
      rintro ⟨j, rfl | hj, hjo⟩
      · exact absurd hjo.symm hq
      · exact ⟨j, hj, hjo⟩
  · exact wf_of_live (w.slot i x hx) (live_enqueue_ne e _ t cls place (w.noSlot o rfl i x hx))
  · simp only [Core.enqueue, live_trigger, live_setLive] at hd
    split at hd
    · simp at hd
    · next hq => exact w.slotted q hq hd
  · simp only [Core.enqueue, live_trigger, live_setLive]
    split
    · exact ⟨nofun, nofun⟩
    · exact w.timers q

/-- A record that may take its opening from the queue into a slot, its timers as its state has them. -/
structure Live.Occupies (l : Live) (x : Slot) : Prop where
  unqueued : l.state ≠ .queued
  orphan : x.phase = .orphan → l.state = .lost
  drives : x.phase ≠ .orphan → l.state = .driving ∨ l.state = .stopping
  held : x.orphanEnd.isSome = true → x.phase = .orphan
  rest : l.restTimer.isSome = true → l.state = .resting
  dwell : l.dwellTimer.isSome = true → l.state = .dwell

/-- An opening in transit takes a slot (R88, R116). -/
theorem occupy_settles (i : SlotId) (x : Slot) (f : Live → Live) (empty : look c.slots i = none) (own : x.opening = o)
    (h : c.AgreesBut (only o) → (f (c.live o)).Occupies x) :
    c.Turns (only o) nobody ({ c with slots := put c.slots i (some x) }.setLive o f) := by
  have slots (j : SlotId) (y : Slot) (hy : look (put c.slots i (some x)) j = some y) :
      (j = i ∧ y = x) ∨ (j ≠ i ∧ look c.slots j = some y) := by
    rw [look_put] at hy
    split at hy
    · next h => cases hy; exact .inl ⟨h, rfl⟩
    · next h => exact .inr ⟨h, hy⟩
  have record (q : OpeningId) : ({ c with slots := put c.slots i (some x) }.setLive o f).live q =
      if q = o then f (c.live o) else c.live q := live_setLive _ _ _ _
  refine ⟨fun w => ⟨w.nodup, fun q _ => ?_, fun j y hy => ?_, fun j k y z hy hz hyz => ?_, fun q _ hd => ?_, fun q => ?_,
    nofun, nofun⟩, id⟩
  · rw [record]
    split
    · next hq =>
      subst hq
      exact iff_of_false (h w).unqueued fun ⟨j, hj, hjo⟩ => w.noJob q rfl j hj hjo
    · next hq => exact w.queued q hq
  · rcases slots j y hy with ⟨_, rfl⟩ | ⟨_, hy⟩
    · unfold Slot.wf
      rw [own, record, if_pos rfl]
      exact ⟨(h w).orphan, (h w).drives, (h w).held⟩
    · exact wf_of_live (w.slot j y hy) (live_setLive_ne _ _ _ _ (w.noSlot o rfl j y hy))
  · rcases slots j y hy with ⟨hj, rfl⟩ | ⟨_, before⟩
    · rcases slots k z hz with ⟨hk, _⟩ | ⟨_, other⟩
      · exact hj.trans hk.symm
      · exact absurd (hyz.symm.trans own) (w.noSlot o rfl k z other)
    · rcases slots k z hz with ⟨_, rfl⟩ | ⟨_, other⟩
      · exact absurd (hyz.trans own) (w.noSlot o rfl j y before)
      · exact w.unique j k y z before other hyz
  · rw [record] at hd
    split at hd
    · next hq => exact ⟨i, x, look_put_same _ _ _, own.trans hq.symm⟩
    · next hq =>
      obtain ⟨j, y, hy, hyo⟩ := w.slotted q hq hd
      have other : j ≠ i := by rintro rfl; rw [empty] at hy; cases hy
      exact ⟨j, y, (look_put_ne _ _ _ _ other).trans hy, hyo⟩
  · rw [record]
    split
    · exact ⟨(h w).rest, (h w).dwell⟩
    · exact w.timers q

end Takes

end Sys2Proof.Machine

end

section
/-! SUPPORT. The Closure Scheduler, the Drive Supervisor and the Target Resolver keep the queue, the slots and the opening
states in agreement (R73 to R117). -/

namespace Sys2Proof.Machine

/-! ### Changes of the other blocks -/

section Others

variable {p : OpeningId → Prop} {c : Core} (e : Env) (o : OpeningId)

theorem setSegment_turns (g : Segment) (f : SegmentCtl → SegmentCtl) : c.Turns p p (c.setSegment g f) :=
  turns_of_eq rfl rfl rfl rfl

theorem setHold_turns (g : Segment) (f : Hold → Hold) : c.Turns p p (c.setHold g f) := turns_of_eq rfl rfl rfl rfl

theorem hand_turns (h : Happening) : c.Turns p p (c.hand h) := turns_of_eq rfl rfl rfl rfl

theorem trigger_turns : c.Turns p p c.trigger := turns_of_eq rfl rfl rfl rfl

theorem ask_turns (b : RequestBody) : c.Turns p p (c.ask e o b) := turns_of_eq rfl rfl rfl rfl

theorem withdraw_turns (which : RequestBody → Bool) : c.Turns p p (c.withdraw e o which) := turns_of_eq rfl rfl rfl rfl

end Others

/-! ### States an opening enters -/

section Entries

variable {c : Core} (e : Env) (o : OpeningId)

theorem enterIdle_settles : c.Turns (only o) nobody (c.enterIdle o) :=
  (setLive_settles _ fun _ => by constructor <;> simp).trans (join_turns _ o)

theorem enterLockedOut_settles : c.Turns (only o) nobody (c.enterLockedOut o) :=
  setLive_settles _ fun _ => by constructor <;> simp

theorem enterResting_settles : c.Turns (only o) nobody (c.enterResting e o) := by
  unfold Core.enterResting
  split
  · exact enterIdle_settles o
  · exact setLive_settles _ fun _ => by constructor <;> simp

theorem enterDwell_settles (reason : DwellReason) : c.Turns (only o) nobody (c.enterDwell e o reason) :=
  setLive_settles _ fun _ => by constructor <;> simp

theorem enterFaulted_settles (reason : FaultReason) : c.Turns (only o) nobody (c.enterFaulted e o reason) :=
  (((withdraw_turns e o _).trans (setSegment_turns _ _)).trans (setLive_settles _ fun _ => by constructor <;> simp)).trans
    (hand_turns _)

theorem takeFailure_settles (f : Failure) : c.Turns (only o) nobody (c.takeFailure e o f) := by
  have counted : c.Turns (only o) (only o)
      (c.setLive o fun l => { l.countFailure f with failureCount := l.failureCount + 1 }) :=
    setLive_turns o _ (by cases f <;> rfl)
  unfold Core.takeFailure
  dsimp only
  split
  · exact (counted.trans (setLive_turns o _ rfl)).trans (enterFaulted_settles e o .failures)
  · cases f with
    | obstruction => exact counted.trans (enterDwell_settles e o .obstruction)
    | cutOff | failedStart => exact counted.trans (enterResting_settles e o)

theorem completeStop_turns {p : OpeningId → Prop} : c.Turns p p (c.completeStop o) :=
  (setLive_turns o _ rfl).trans (join_turns _ o)

theorem afterRetarget_settles : c.Turns (only o) nobody (c.afterRetarget e o) := by
  unfold Core.afterRetarget
  split
  · split
    · exact enterIdle_settles o
    · exact enterDwell_settles e o .reversal
  · exact enterDwell_settles e o .reversal

theorem afterShedOrHold_settles (cls : JobClass) : c.Turns (only o) nobody (c.afterShedOrHold e o cls) := by
  unfold Core.afterShedOrHold
  split
  · split
    · exact enterIdle_settles o
    · exact enqueue_settles e _ cls .head
  · exact enterIdle_settles o

/-- The state a confirmed stop leads to, by outcome and cause (R16). -/
theorem settleStop_settles (cause : StopCause) (cls : JobClass) (out : DriveOutcome) :
    c.Turns (only o) nobody (c.settleStop e o cause cls out) := by
  have failure (f : Failure) : c.Turns (only o) nobody (c.takeFailure e o f) := takeFailure_settles e o f
  have counted (f : Failure) : c.Turns (only o) nobody ((c.setLive o (Live.countFailure f)).enterLockedOut o) :=
    (setLive_turns o _ (by cases f <;> rfl)).trans (enterLockedOut_settles o)
  cases out with
  | none =>
    cases cause with
    | retarget => exact afterRetarget_settles e o
    | cutoff => exact failure .cutOff
    | lockout => exact enterLockedOut_settles o
    | shed | hold => exact afterShedOrHold_settles e o cls
  | reached =>
    refine (completeStop_turns o).trans ?_
    cases cause with
    | retarget => exact afterRetarget_settles e o
    | lockout => exact enterLockedOut_settles o
    | cutoff | shed | hold => exact enterIdle_settles o
  | stalled =>
    cases cause with
    | lockout => exact counted .cutOff
    | retarget | cutoff | shed | hold => exact failure .cutOff
  | obstructed =>
    cases cause with
    | lockout => exact counted .obstruction
    | retarget | cutoff | shed | hold => exact failure .obstruction

end Entries

/-! ### Stops, outcomes and unsent DRIVEs -/

section Stops

variable {c : Core} (e : Env) (o : OpeningId)

/-- An opening in none of the states of the queue and the slots may take another. -/
theorem leave_unslotted (queued : (c.live o).state ≠ .queued) (driving : (c.live o).state ≠ .driving)
    (stopping : (c.live o).state ≠ .stopping) (lost : (c.live o).state ≠ .lost) : c.Turns nobody (only o) c :=
  leave_frees fun w => ⟨queued, w.unslotted driving stopping lost⟩

/-- A QUEUED opening off the queue. -/
theorem removeJob_queued (queued : (c.live o).state = .queued) : c.Turns nobody (only o) (c.removeJob o) :=
  removeJob_frees fun w => w.unslotted (by simp [queued]) (by simp [queued]) (by simp [queued])

/-- A DRIVING or STOPPING opening's slot in another phase of a drive. -/
theorem setSlot_driven {i : SlotId} (f : Slot → Slot) (hi : c.slotOf o = some i)
    (driven : (c.live o).state = .driving ∨ (c.live o).state = .stopping) (opening : ∀ x : Slot, (f x).opening = x.opening)
    (phase : ∀ x : Slot, x.phase ≠ .orphan → (f x).phase ≠ .orphan) (held : ∀ x : Slot, (f x).orphanEnd = x.orphanEnd) :
    c.Keeps (c.setSlot i f) := by
  refine setSlot_turns i f fun w x hx => ?_
  obtain ⟨y, hy, own⟩ := slotOf_occupied c o i hi
  obtain rfl : y = x := Option.some.inj (hy.symm.trans hx)
  have before : y.phase ≠ .orphan := w.slot_driven hy (own ▸ driven)
  simp [Slot.standing, opening, held, before, phase y before]

theorem confirmStop_turns (locked : Option Bool) (out : DriveOutcome) : c.Keeps (c.confirmStop e o locked out) := by
  unfold Core.confirmStop
  split
  · exact .refl c
  · next i hi =>
    split
    · exact .refl c
    · exact (slotOf_frees e hi).trans (settleStop_settles e o _ _ _)

theorem requestStop_turns (cause : StopCause) : c.Keeps (c.requestStop e o cause) := by
  unfold Core.requestStop
  split
  · next hs =>
    split
    · exact .refl c
    · next i hi =>
      have stopping : c.Keeps (c.setLive o fun l => { l with state := .stopping, stopCause := some cause }) :=
        setLive_turns o _ (by simp [Live.standing, hs])
      dsimp only
      split
      · exact stopping.trans (confirmStop_turns e o none .none)
      · refine ((stopping.trans ?_).trans (withdraw_turns e o _)).trans (ask_turns e o _)
        refine setSlot_driven o _ ?_ (.inr (by rw [live_setLive_same])) (fun _ => rfl) (fun _ _ => nofun) fun _ => rfl
        rw [slotOf_setLive]
        exact hi
  · exact setLive_turns o _ rfl
  · exact .refl c

theorem takeOutcome_turns (locked : Option Bool) (out : DriveOutcome) : c.Keeps (c.takeOutcome e o locked out) := by
  unfold Core.takeOutcome
  split
  · exact .refl c
  · next i hi =>
    split
    · exact .refl c
    · have freed : c.Turns nobody (only o) (c.freeSlot e i) := slotOf_frees e hi
      split
      · exact .refl c
      · exact (freed.trans (setLive_turns o _ rfl)).trans (enterIdle_settles o)
      · exact freed.trans (takeFailure_settles e o .cutOff)
      · exact freed.trans (takeFailure_settles e o .obstruction)

theorem recheckDrive_turns : c.Keeps (c.recheckDrive e o) := by
  unfold Core.recheckDrive
  split
  · exact .refl c
  · split
    · split
      · exact .refl c
      · split
        · split
          · exact .refl c
          · next i hi =>
            split
            · exact .refl c
            · exact (slotOf_frees e hi).trans (enqueue_settles e _ _ .head)
        · exact requestStop_turns e o _
    · exact .refl c

theorem storePosition_turns (x : Position) : c.Keeps (c.storePosition e o x) := by
  unfold Core.storePosition
  split
  · exact .refl c
  · exact (setLive_turns o _ rfl).trans (recheckDrive_turns e o)

theorem storeReport_turns (x : Byte) (locked : Option Bool) : c.Keeps (c.storeReport e o x locked) :=
  (setLive_turns o _ rfl).trans (storePosition_turns e o _)

theorem recheckAll_turns (os : List OpeningId) : c.Keeps (c.recheckAll e os) :=
  foldl_turns _ (fun _ o => recheckDrive_turns e o) os c

end Stops

/-! ### Targets handed on (R46, R47, R92, R93) -/

section Targets

variable {c : Core} (e : Env) (o : OpeningId)

theorem writeTarget_turns {p : OpeningId → Prop} (t : Option Nat) : c.Turns p p (c.writeTarget o t) :=
  setLive_turns o _ rfl

theorem reDrive_turns (i : SlotId) (t : Nat) (cls : JobClass) (speed : Speed) :
    c.Keeps (c.reDrive e o i t cls speed) := by
  refine ((setSlot_turns i _ ?_).trans (setLive_turns o _ ?_)).trans (ask_turns e o _)
  · exact fun _ _ _ => rfl
  · rfl

theorem retarget_turns (t : Nat) (cls : JobClass) : c.Keeps (c.retarget e o t cls) := by
  have written : c.Keeps (c.setLive o fun x => { x with target := some t, jobClass := some cls }) :=
    setLive_turns o _ rfl
  unfold Core.retarget
  split
  · exact .refl c
  · split
    · exact .refl c
    · dsimp only
      split
      · exact written.trans (requestStop_turns e o _)
      · split
        · exact written
        · split
          · exact written.trans (setSlot_turns _ _ fun _ _ _ => rfl)
          · split
            · exact reDrive_turns e o _ _ _ _
            · split
              · exact reDrive_turns e o _ _ _ _
              · exact written.trans (requestStop_turns e o _)

theorem aim_standing (t : Nat) (j : Job) : (j.aim o t).standing = j.standing := by
  unfold Job.aim
  split <;> rfl

theorem keepWait_standing (w : Option WaitReason) (j : Job) : (j.keepWait o w).standing = j.standing := by
  unfold Job.keepWait
  split <;> rfl

theorem await_standing (w : WaitReason) (j : Job) : (j.await o w).standing = j.standing := by
  unfold Job.await
  split <;> rfl

theorem resubmit_turns (t : Nat) (cls : JobClass) (queued : (c.live o).state = .queued) :
    c.Keeps (c.resubmit e o t cls) := by
  unfold Core.resubmit
  split
  · exact .refl c
  · split
    · exact (mapQueue_turns _ (aim_standing o t)).trans (setLive_turns o _ rfl)
    · exact ((removeJob_queued o queued).trans (enqueue_settles e t cls .tail)).trans
        (mapQueue_turns _ (keepWait_standing o _))

/-- A full result handed on, by the opening's state and the result (R47). -/
theorem handOn_turns (r : Resolution) : c.Keeps (c.handOn e o r) := by
  have leaves (h : (c.live o).state = .idle ∨ (c.live o).state = .lockedOut ∨ (c.live o).state = .resting ∨
      (c.live o).state = .dwell) : c.Turns nobody (only o) c := by
    rcases h with h | h | h | h <;> exact leave_unslotted o (by simp [h]) (by simp [h]) (by simp [h]) (by simp [h])
  unfold Core.handOn
  dsimp only
  split
  · next h => exact (leaves (.inl h)).trans (enterLockedOut_settles o)
  · next h =>
    split
    · exact writeTarget_turns o _
    · exact (leaves (.inl h)).trans (enqueue_settles e _ _ .tail)
  · exact writeTarget_turns o _
  · next h => exact (removeJob_queued o h).trans (enterLockedOut_settles o)
  · next h =>
    split
    · exact ((removeJob_queued o h).trans (writeTarget_turns o _)).trans (enterIdle_settles o)
    · exact resubmit_turns e o _ _ h
  · next h => exact ((removeJob_queued o h).trans (writeTarget_turns o _)).trans (enterIdle_settles o)
  · exact (writeTarget_turns o _).trans (requestStop_turns e o _)
  · exact retarget_turns e o _ _
  · exact (writeTarget_turns o _).trans (requestStop_turns e o _)
  · exact (writeTarget_turns o _).trans (requestStop_turns e o _)
  · exact setLive_turns o _ rfl
  · exact writeTarget_turns o _
  · exact .refl c
  · next h _ => exact (leaves (.inr (.inl h))).trans (enterIdle_settles o)
  · next h => exact (leaves (.inr (.inr (.inl h)))).trans (enterLockedOut_settles o)
  · next h => exact (leaves (.inr (.inr (.inr h)))).trans (enterLockedOut_settles o)
  · exact .refl c

theorem resolveNext_turns (claims : Claims) : c.Keeps (c.resolveNext e claims) := by
  unfold Core.resolveNext
  split
  · exact .refl c
  · next o rest hs =>
    refine (resolveSet_turns rest fun ascends => ?_).trans (handOn_turns e o _)
    rw [hs] at ascends
    exact (List.pairwise_cons.1 ascends).2

end Targets

/-! ### Start walks (R83 to R88) -/

section Walks

variable {c : Core} (e : Env)

theorem recordWait_turns (o : OpeningId) (w : WaitReason) : c.Keeps (c.recordWait o w) :=
  mapQueue_turns _ (await_standing o w)

theorem recordAll_turns (w : WaitReason) (jobs : List Job) : c.Keeps (c.recordAll w jobs) :=
  foldl_turns _ (fun _ _ => recordWait_turns _ w) jobs c

/-- A job started is off the queue, the set as it was. -/
theorem startDrive_ordered (j : Job) (w : c.ordered) : (c.startDrive e j).ordered := by
  unfold Core.startDrive
  split
  · exact w
  · exact w.of_queue rfl List.filter_sublist

/-- A QUEUED opening's job started gives it a slot (R88). -/
theorem startDrive_turns (j : Job) (queued : (c.live j.opening).state = .queued) : c.Keeps (c.startDrive e j) := by
  unfold Core.startDrive
  split
  · exact .refl c
  · next i hi =>
    dsimp only
    refine ((removeJob_queued j.opening queued).trans ?_).trans (ask_turns e _ _)
    have empty : look c.slots i = none := Option.isNone_iff_eq_none.1 (lowest_passes _ _ i hi)
    refine occupy_settles (c := c.removeJob j.opening) i _ _ empty rfl fun w => ?_
    have timers := w.timers j.opening
    rw [live_removeJob, queued] at timers
    exact ⟨nofun, nofun, fun _ => .inl rfl, nofun, fun h => absurd (timers.1 h) nofun, fun h => absurd (timers.2 h) nofun⟩

theorem startDrive_live_ne (j : Job) (o : OpeningId) (h : o ≠ j.opening) : (c.startDrive e j).live o = c.live o := by
  unfold Core.startDrive
  split
  · rfl
  · dsimp only
    rw [live_ask, live_setLive_ne _ _ _ _ h]
    rfl

theorem walk_ordered (fence : Option JobClass) (jobs : List Job) (w : c.ordered) : (c.walk e fence jobs).ordered := by
  induction jobs generalizing c fence with
  | nil => exact w
  | cons j rest ih =>
    unfold Core.walk
    split
    · exact (recordAll_turns _ _).order w
    · split
      · exact (recordAll_turns _ _).order w
      · refine ih _ ?_
        unfold Core.walkOne
        split
        · exact (recordWait_turns _ _).order w
        · split
          · exact startDrive_ordered e j w
          · exact (recordWait_turns _ _).order w

/-- The walk over jobs of QUEUED openings, each one's own. -/
theorem walk_agrees (fence : Option JobClass) (jobs : List Job) (own : (jobs.map Job.opening).Nodup)
    (queued : ∀ j ∈ jobs, (c.live j.opening).state = .queued) (w : c.AgreesBut nobody) :
    (c.walk e fence jobs).AgreesBut nobody := by
  induction jobs generalizing c fence with
  | nil => exact w
  | cons j rest ih =>
    obtain ⟨others, own⟩ := List.nodup_cons.1 own
    have first := queued j List.mem_cons_self
    have following (k : Job) (hk : k ∈ rest) := queued k (List.mem_cons_of_mem j hk)
    unfold Core.walk
    split
    · exact (recordAll_turns _ _).drives w
    · split
      · exact (recordAll_turns _ _).drives w
      · unfold Core.walkOne
        split
        · exact ih _ own following ((recordWait_turns _ _).drives w)
        · split
          · refine ih _ own (fun k hk => ?_) ((startDrive_turns e j first).drives w)
            rw [startDrive_live_ne e j _ fun h => others (List.mem_map.2 ⟨k, hk, h⟩)]
            exact following k hk
          · exact ih _ own following ((recordWait_turns _ _).drives w)

theorem startWalk_turns : c.Keeps (c.startWalk e) := by
  unfold Core.startWalk
  split
  · refine Core.Turns.trans (turns_of_eq rfl rfl rfl rfl)
      (d := { c with walkTriggered := false, walkCount := c.walkCount + 1 })
      ⟨fun w => ?_, walk_ordered e none c.queue⟩
    exact walk_agrees e none c.queue w.nodup (fun j hj => (w.queued j.opening id).2 ⟨j, hj, rfl⟩) w
  · exact .refl c

end Walks

end Sys2Proof.Machine

end

section
/-! SUPPORT. The Segment Controllers and the Hold Controllers keep the queue, the slots and the opening states in
agreement (R116 to R152). -/

namespace Sys2Proof.Machine

/-! ### Passes, polls and the arbiter -/

section Passes

variable {c : Core} (e : Env) (g : Segment)

theorem makeDue_turns : c.Keeps (c.makeDue g) := setSegment_turns g _

theorem startPass_turns : c.Keeps (c.startPass e g) :=
  (setSegment_turns g _).trans (foldl_turns _ (fun _ o => storePosition_turns e o .unknown) _ _)

theorem triggerPass_turns : c.Keeps (c.triggerPass e g) := by
  unfold Core.triggerPass
  split
  · exact startPass_turns e g
  · exact makeDue_turns g

theorem suspendPass_turns : c.Keeps (c.suspendPass g) := by
  unfold Core.suspendPass
  split
  · exact makeDue_turns g
  · exact .refl c

theorem startDuePass_turns : c.Keeps (c.startDuePass e g) := by
  unfold Core.startDuePass
  split
  · exact startPass_turns e g
  · exact .refl c

theorem passUpkeep_turns : c.Keeps (c.passUpkeep e g) := by
  unfold Core.passUpkeep
  dsimp only
  split
  · split
    · exact .refl c
    · split
      · exact (setSegment_turns g _).trans trigger_turns
      · split
        · exact .refl c
        · split
          · exact ask_turns e _ _
          · exact .refl c
  · exact .refl c

theorem stopTimers_turns : c.Keeps (c.stopTimers e g) := by
  refine (tabulate_turns (fun o => if e.segment o = g then (c.live o).stopPolls else c.live o) (fun o => ?_) rfl).trans
    (setSegment_turns g _)
  split <;> rfl

theorem suspend_turns : c.Keeps (c.suspend e g) :=
  ((setSegment_turns g _).trans (stopTimers_turns e g)).trans (suspendPass_turns g)

theorem resume_turns : c.Keeps (c.resume e g) := by
  unfold Core.resume
  split
  · exact (setSegment_turns g _).trans (triggerPass_turns e g)
  · exact triggerPass_turns e g

theorem pollRound_turns : c.Keeps (c.pollRound e g) := by
  refine (setSegment_turns g _).trans (foldl_turns _ (fun c o => ?_) _ _)
  split
  · exact ask_turns e o _
  · exact .refl c

theorem send_turns (r : Request) : c.Keeps (c.send e g r) := by
  unfold Core.send
  dsimp only
  split
  · exact (setSegment_turns g _).trans (setLive_turns _ _ rfl)
  · exact setSegment_turns g _

theorem arbitrate_turns : c.Keeps (c.arbitrate e g) := by
  have chosen (o : Option Request) : c.Keeps (match o with | some r => c.send e g r | none => c) := by
    cases o with
    | none => exact .refl c
    | some r => exact send_turns e g r
  unfold Core.arbitrate
  split
  · split
    · exact chosen _
    · exact chosen _
    · exact .refl c
    · exact .refl c
  · exact .refl c

theorem frameSent_turns : c.Keeps (c.frameSent e g) := by
  unfold Core.frameSent
  split
  · exact .refl c
  · split
    · exact .refl c
    · exact setSegment_turns g _

end Passes

/-! ### Orphans and nodes declared LOST (R18, R116, R117) -/

section Lost

variable {c : Core} (e : Env) (o : OpeningId)

theorem leaveList_turns {p : OpeningId → Prop} : c.Turns p p (c.leaveList e o) := setSegment_turns _ _

theorem setCount_turns {p : OpeningId → Prop} (g : Segment) (a : NodeAddress) (n : Nat) : c.Turns p p (c.setCount g a n) :=
  setSegment_turns _ _

/-- The slot of an orphan freed, and its held re-probe asked for (R117). -/
theorem endOrphan_turns (i : SlotId)
    (orphan : c.AgreesBut nobody → ∀ x : Slot, look c.slots i = some x → x.phase = .orphan) :
    c.Keeps (c.endOrphan e i) := by
  unfold Core.endOrphan
  split
  · exact .refl c
  · next x hx =>
    have freed : c.Keeps (c.freeSlot e i) := freeOrphan_turns e i hx fun w => orphan w x hx
    dsimp only
    split
    · exact (freed.trans (setLive_turns _ _ rfl)).trans (ask_turns e _ _)
    · exact freed

/-- An opening declared LOST that occupies no slot. -/
theorem markLost_unslotted (h : c.slotOf o = none) : c.Keeps (c.markLost e o) := by
  have off : c.Turns nobody (only o) (((c.removeJob o).withdraw e o RequestBody.any).leaveList e o) :=
    ((removeJob_frees fun _ => h).trans (withdraw_turns e o _)).trans (leaveList_turns e o)
  refine ((off.trans (setLive_settles _ fun _ => ?_)).trans (setCount_turns _ _ _)).trans (hand_turns _)
  constructor <;> simp [Live.lose]

/-- An opening declared LOST, its slot orphaned: out of the slot as a drive's, then in it as an orphan's. -/
theorem markLost_orphaned (i : SlotId) (h : c.slotOf o = some i) :
    c.Keeps ((c.markLost e o).setSlot i Slot.orphan) := by
  obtain ⟨x, hx, own⟩ := slotOf_occupied c o i h
  have out : c.Turns nobody (only o) ((c.freeSlot e i).removeJob o) := (slotOf_frees e h).trans removeJob_turns
  have back := occupy_settles (c := (c.freeSlot e i).removeJob o) (o := o) i x.orphan (Live.lose e.now)
    (look_freeSlot_same e c i) own fun _ => ⟨nofun, fun _ => rfl, fun h => absurd rfl h, fun _ => rfl, nofun, nofun⟩
  refine (out.trans back).trans (turns_of_eq ?_ ?_ ?_ ?_)
  · simp [Core.markLost, Core.removeJob]
  · simp only [Core.setSlot_slots, markLost_slots, hx, freeSlot_eq e c i x hx]
    exact (put_put c.slots i none (some x.orphan)).symm
  · simp [Core.markLost, Core.live, freeSlot_eq e c i x hx]
  · simp [Core.markLost]

theorem orphanSlot_turns (i : SlotId) (h : c.slotOf o = some i) : c.Keeps ((c.markLost e o).orphanSlot e i) := by
  have orphaned := markLost_orphaned e o i h
  unfold Core.orphanSlot
  dsimp only
  split
  · exact orphaned
  · split
    · refine orphaned.trans (endOrphan_turns e i fun _ x hx => ?_)
      obtain ⟨y, hy, _⟩ := slotOf_occupied c o i h
      rw [look_setSlot_same (c.markLost e o) i _ y hy] at hx
      cases hx
      rfl
    · exact orphaned

theorem declareLost_turns : c.Keeps (c.declareLost e o) := by
  cases h : c.slotOf o with
  | none => rw [declareLost_unslotted e o c h]; exact markLost_unslotted e o h
  | some i => rw [declareLost_slotted e o c i h]; exact orphanSlot_turns e o i h

end Lost

/-! ### Ends of transactions (R121, R125 to R127) -/

section Replies

variable {c : Core} (e : Env) (o : OpeningId) (r : NodeReply)

theorem endTransaction_turns (g : Segment) : c.Keeps (c.endTransaction e g) := setSegment_turns g _

theorem restartProgress_turns : c.Keeps (c.restartProgress e o) := by
  unfold Core.restartProgress
  split
  · exact .refl c
  · refine setSlot_turns _ _ fun _ x _ => ?_
    split <;> rfl

theorem failStart_turns : c.Keeps (c.failStart e o) := by
  unfold Core.failStart
  split
  · exact .refl c
  · next i hi => exact (slotOf_frees e hi).trans (takeFailure_settles e o .failedStart)

theorem startReProbe_turns {p : OpeningId → Prop} : c.Turns p p (c.startReProbe e o) := setLive_turns o _ rfl

theorem missedOnce_turns (b : RequestBody) : c.Keeps (c.missedOnce e o b) := by
  unfold Core.missedOnce
  split
  · exact failStart_turns e o
  · exact .refl c
  · exact (requestStop_turns e o _).trans (restartProgress_turns e o)
  · exact ask_turns e o _
  · exact .refl c
  · exact restartProgress_turns e o
  · split
    · exact ask_turns e o _
    · exact .refl c
  · exact .refl c

theorem takeTimeout_turns (g : Segment) (t : Transaction) : c.Keeps (c.takeTimeout e g t) := by
  have ended : c.Keeps (c.endTransaction e g) := endTransaction_turns e g
  unfold Core.takeTimeout
  dsimp only
  split
  · exact ended
  · split
    · split
      · exact (ended.trans (leaveList_turns e _)).trans (startReProbe_turns e _)
      · exact ended.trans (startReProbe_turns e _)
    · split
      · exact ended.trans (declareLost_turns e _)
      · exact (ended.trans (setCount_turns _ _ _)).trans (missedOnce_turns e _ _)

theorem startReply_turns : c.Keeps (c.startReply e o r) := by
  unfold Core.startReply
  split
  · exact .refl c
  · next i hi =>
    split
    · exact .refl c
    · split
      · next hs _ =>
        refine Core.Turns.trans ?_ (takeOutcome_turns e o r.locked r.outcome)
        exact setSlot_driven o _ hi (.inl hs) (fun _ => rfl) (fun _ _ => nofun) fun _ => rfl
      · exact failStart_turns e o
      · split
        · exact .refl c
        · exact confirmStop_turns e o _ _
      · exact confirmStop_turns e o _ _
      · exact .refl c

theorem confirmIfOutcome_turns (otherwise : Core → Core) (h : c.Keeps (otherwise c)) :
    c.Keeps (c.confirmIfOutcome e o r otherwise) := by
  unfold Core.confirmIfOutcome
  split
  · exact .refl c
  · split
    · exact h
    · exact confirmStop_turns e o _ _

theorem reDriveReply_turns : c.Keeps (c.reDriveReply e o r) := by
  unfold Core.reDriveReply
  split
  · exact (takeOutcome_turns e o _ _).trans (restartProgress_turns e o)
  · exact requestStop_turns e o _
  · exact confirmIfOutcome_turns e o r _ (.refl c)
  · exact confirmIfOutcome_turns e o r _ (requestStop_turns e o _)
  · exact .refl c

theorem stopRefused_turns : c.Keeps (c.stopRefused e o) := by
  unfold Core.stopRefused
  split
  · exact .refl c
  · next i _ =>
    have counted : c.Keeps (c.setSlot i fun s => { s with stopNaks := s.stopNaks + 1 }) :=
      setSlot_turns i _ fun _ _ _ => rfl
    dsimp only
    split
    · exact counted.trans (declareLost_turns e o)
    · exact counted.trans (ask_turns e o _)

theorem stopReply_turns : c.Keeps (c.stopReply e o r) := by
  unfold Core.stopReply
  split
  · exact confirmStop_turns e o _ _
  · exact confirmIfOutcome_turns e o r _ (stopRefused_turns e o)
  · exact .refl c

theorem progressReply_turns : c.Keeps (c.progressReply e o r) := by
  unfold Core.progressReply
  split
  · exact (takeOutcome_turns e o _ _).trans (restartProgress_turns e o)
  · exact confirmIfOutcome_turns e o r _ (.refl c)
  · exact .refl c

theorem idleReply_turns (before : Position) : c.Keeps (c.idleReply e o before r) := by
  refine Core.Turns.trans (setLive_turns o _ rfl) (d := c.setLive o fun l =>
    { l with followPoll := if r.moving then startTimer e.now followPollMs else none }) ?_
  unfold Core.idleReply
  extract_lets d
  by_cases h : (d.live o).state = .idle ∧ movedFrom before (d.live o).position = true
  · rw [if_pos h]
    exact join_turns _ o
  · rw [if_neg h]
    exact .refl _

end Replies

/-! ### Replies to an ENROLL (R129, R133 to R135) -/

section Enrolls

variable {c : Core} (e : Env) (o : OpeningId) (r : NodeReply)

/-- What holds of a core whose queue, slots and states agree may be used for a change. -/
theorem keeps_of_agrees {d : Core} {P : Prop} (h : c.AgreesBut nobody → P) (drives : P → c.Keeps d)
    (order : c.ordered → d.ordered) : c.Keeps d :=
  ⟨fun w => (drives (h w)).drives w, order⟩

/-- A LOST opening whose slot is no orphan's occupies none. -/
theorem Core.AgreesBut.lost_unslotted (w : c.AgreesBut nobody) (lost : (c.live o).state = .lost)
    (orphaned : c.orphaned o = false) : c.slotOf o = none := by
  cases h : c.slotOf o with
  | none => rfl
  | some i =>
    obtain ⟨x, hx, rfl⟩ := slotOf_occupied c _ i h
    obtain ⟨_, drives, _⟩ := w.slot i x hx
    have orphan : x.phase = .orphan := by
      by_contra other
      rw [lost] at drives
      simpa using drives other
    refine absurd orphaned ?_
    rw [Bool.not_eq_false, Core.orphaned, List.any_eq_true]
    exact ⟨some x, (mem_toList_iff _ _).2 ⟨i, hx⟩, by simp [orphan]⟩

/-- An opening that takes an ENROLL's reply is not driven and occupies no slot (R135). -/
theorem enrollTooLate_unslotted (h : c.enrollTooLate o = false) : (c.live o).state ≠ .driving ∧
    (c.live o).state ≠ .stopping ∧ (c.AgreesBut nobody → c.slotOf o = none) := by
  unfold Core.enrollTooLate at h
  cases hs : (c.live o).state <;> rw [hs] at h <;> try contradiction
  case lost => exact ⟨nofun, nofun, fun w => w.lost_unslotted o hs h⟩
  all_goals exact ⟨nofun, nofun, fun w => w.unslotted (by simp [hs]) (by simp [hs]) (by simp [hs])⟩

/-- The position and lock of a reply stored where nothing is driven: the opening keeps its state, out of a slot. -/
theorem storeReport_unslotted (x : Byte) (locked : Option Bool) (hi : c.slotOf o = none)
    (hd : (c.live o).state ≠ .driving) (hs : (c.live o).state ≠ .stopping) :
    (c.storeReport e o x locked).slotOf o = none ∧ ((c.storeReport e o x locked).live o).state = (c.live o).state := by
  unfold Core.storeReport Core.storePosition
  split
  · exact ⟨by rw [slotOf_setLive]; exact hi, by rw [live_setLive_same]⟩
  · rw [setLive_setLive, recheckDrive_unslotted]
    · exact ⟨by rw [slotOf_setLive]; exact hi, by rw [live_setLive_same]⟩
    · rw [slotOf_setLive]; exact hi
    · rw [live_setLive_same]; exact hd
    · rw [live_setLive_same]; exact hs

/-- What an accepted ENROLL writes in the record before the position (R134). -/
def Live.accept (a : AbilityReport) (l : Live) : Live :=
  { l with ability := some (acceptedAbility a), locked := if a.lockContact then l.locked else none, reProbe := none,
           reProbeHeld := false }

/-- What a refused ENROLL writes in the record before the position (R134). -/
def Live.refuse (l : Live) : Live := { l with ability := none, locked := none }

/-- The state an accepted ENROLL leads to (R134, R135). -/
def Core.enrolledIn (o : OpeningId) (c : Core) : Core :=
  match (c.live o).state with
  | .unenrolled => c.enterIdle o
  | .lost => c.enterIdle o
  | .idle => c.join o
  | .queued => c.join o
  | _ => c

theorem acceptEnroll_eq (a : AbilityReport) :
    c.acceptEnroll e o a r = ((c.setLive o (Live.accept a)).storeReport e o r.position r.locked).enrolledIn o := rfl

theorem refuseEnroll_eq (reason : FaultReason) : c.refuseEnroll e o reason r =
    (((c.setLive o Live.refuse).storeReport e o r.position r.locked).removeJob o).enterFaulted e o reason := rfl

theorem enrolledIn_ordered (w : c.ordered) : (c.enrolledIn o).ordered := by
  unfold Core.enrolledIn
  split
  · exact (enterIdle_settles o).order w
  · exact (enterIdle_settles o).order w
  · exact (join_turns (p := nobody) c o).order w
  · exact (join_turns (p := nobody) c o).order w
  · exact w

theorem enrolledIn_turns (hi : c.slotOf o = none) : c.Keeps (c.enrolledIn o) := by
  have leaves (queued : (c.live o).state ≠ .queued) : c.Turns nobody (only o) c := leave_frees fun _ => ⟨queued, hi⟩
  unfold Core.enrolledIn
  split
  · next h => exact (leaves (by simp [h])).trans (enterIdle_settles o)
  · next h => exact (leaves (by simp [h])).trans (enterIdle_settles o)
  · exact join_turns _ o
  · exact join_turns _ o
  · exact .refl c

/-- An ENROLL's reply taken keeps the agreement, and the order in any state. -/
theorem acceptEnroll_turns (a : AbilityReport) (unslotted : c.AgreesBut nobody → c.slotOf o = none)
    (hd : (c.live o).state ≠ .driving) (hs : (c.live o).state ≠ .stopping) : c.Keeps (c.acceptEnroll e o a r) := by
  have stored : c.Keeps ((c.setLive o (Live.accept a)).storeReport e o r.position r.locked) :=
    (setLive_turns o _ rfl).trans (storeReport_turns e o _ _)
  rw [acceptEnroll_eq]
  refine keeps_of_agrees unslotted (fun hi => stored.trans (enrolledIn_turns o ?_))
      fun w => enrolledIn_ordered o (stored.order w)
  refine (storeReport_unslotted e o _ _ ?_ ?_ ?_).1
  · rw [slotOf_setLive]; exact hi
  · rw [live_setLive_same]; exact hd
  · rw [live_setLive_same]; exact hs

theorem refuseEnroll_turns (reason : FaultReason) (unslotted : c.AgreesBut nobody → c.slotOf o = none)
    (hd : (c.live o).state ≠ .driving) (hs : (c.live o).state ≠ .stopping) :
    c.Keeps (c.refuseEnroll e o reason r) := by
  have stored : c.Keeps ((c.setLive o Live.refuse).storeReport e o r.position r.locked) :=
    (setLive_turns o _ rfl).trans (storeReport_turns e o _ _)
  rw [refuseEnroll_eq]
  refine keeps_of_agrees unslotted (fun hi => (stored.trans (removeJob_frees fun _ => ?_)).trans
    (enterFaulted_settles e o reason)) fun w => (enterFaulted_settles e o reason).order
      ((stored.order w).of_queue rfl List.filter_sublist)
  refine (storeReport_unslotted e o _ _ ?_ ?_ ?_).1
  · rw [slotOf_setLive]; exact hi
  · rw [live_setLive_same]; exact hd
  · rw [live_setLive_same]; exact hs

theorem enrollRefusedNow_turns : c.Keeps (c.enrollRefusedNow e o r) := by
  have stored : c.Keeps (c.storeReport e o r.position r.locked) := storeReport_turns e o _ _
  unfold Core.enrollRefusedNow
  dsimp only
  split
  · exact stored.trans (startReProbe_turns e o)
  · exact stored.trans (startReProbe_turns e o)
  · exact stored

theorem enrollReply_turns (pass alone : Bool) : c.Keeps (c.enrollReply e o pass alone r) := by
  have taken (d : Core) (left : c.Keeps d) (back : d.Keeps c) (live : d.live o = c.live o) (slot : d.slotOf o = c.slotOf o)
      (h : c.enrollTooLate o = false) : c.Keeps (match r.answer, r.ability with
        | .ack, some a =>
          match refusalOf (e.com o).kind a with
          | some reason => d.refuseEnroll e o reason r
          | none => d.acceptEnroll e o a r
        | _, _ => d.enrollRefusedNow e o r) := by
    obtain ⟨hd, hs, unslotted⟩ := enrollTooLate_unslotted o h
    rw [← live] at hd hs
    have unslotted (w : d.AgreesBut nobody) : d.slotOf o = none := slot.trans (unslotted (back.drives w))
    refine left.trans ?_
    split
    · split
      · exact refuseEnroll_turns e o r _ unslotted hd hs
      · exact acceptEnroll_turns e o r _ unslotted hd hs
    · exact enrollRefusedNow_turns e o r
  unfold Core.enrollReply
  split
  · exact storeReport_turns e o _ _
  · next h =>
    refine taken _ ?_ ?_ ?_ ?_ (Bool.eq_false_iff.2 h) <;> split
    · exact leaveList_turns e o
    · exact .refl c
    · exact turns_of_eq rfl rfl rfl rfl
    · exact .refl c
    all_goals rfl

end Enrolls

end Sys2Proof.Machine

end

section
/-! SUPPORT. The events of the drive core keep the queue, the slots and the opening states in agreement: replies, holds,
the supply, the checks at the end of an event, resets (R121 to R198). -/

namespace Sys2Proof.Machine

/-! ### Frames received (R121, R122, R125, R126) -/

section Frames

variable {c : Core} (e : Env) (g : Segment)

theorem takeReply_turns (t : Transaction) (r : NodeReply) : c.Keeps (c.takeReply e g t r) := by
  have ended : c.Keeps ((c.endTransaction e g).setCount g t.address 0) :=
    (endTransaction_turns e g).trans (setCount_turns _ _ _)
  have stored := ended.trans (storeReport_turns e t.opening r.position r.locked)
  unfold Core.takeReply
  dsimp only
  split
  · exact ended.trans (enrollReply_turns e _ r _ _)
  · exact stored.trans (startReply_turns e _ r)
  · exact stored.trans (reDriveReply_turns e _ r)
  · exact stored.trans (stopReply_turns e _ r)
  · exact stored.trans (progressReply_turns e _ r)
  · exact stored.trans (idleReply_turns e _ r _)

theorem replyArrives_turns (r : NodeReply) : c.Keeps (c.replyArrives e g r) := by
  unfold Core.replyArrives
  split
  · exact .refl c
  · split
    · exact takeReply_turns e g _ r
    · exact .refl c

theorem busyArrives_turns (a : NodeAddress) : c.Keeps (c.busyArrives e g a) := by
  unfold Core.busyArrives
  split
  · exact .refl c
  · split
    · split
      · exact setSegment_turns g _
      · exact takeTimeout_turns e g _
    · exact .refl c

theorem frameArrives_turns (bytes : List Byte) (gap : Bool) : c.Keeps (c.frameArrives e g bytes gap) := by
  unfold Core.frameArrives
  split
  · exact .refl c
  · split
    · exact replyArrives_turns e g _
    · exact busyArrives_turns e g _
    · exact .refl c

theorem windowEnds_turns : c.Keeps (c.windowEnds e g) := by
  unfold Core.windowEnds
  split
  · exact .refl c
  · exact takeTimeout_turns e g _

end Frames

/-! ### Timers of the slots and the records (R103, R105, R111, R112, R129, R130) -/

section Timers

variable {c : Core} (e : Env)

theorem runLimitEnds_turns (i : SlotId) : c.Keeps (c.runLimitEnds e i) := by
  unfold Core.runLimitEnds
  split
  · exact .refl c
  · refine Core.Turns.trans ?_ (requestStop_turns e _ .cutoff)
    exact setSlot_turns i _ fun _ _ _ => rfl

theorem progressDue_turns (i : SlotId) : c.Keeps (c.progressDue e i) := by
  unfold Core.progressDue
  split
  · exact .refl c
  · refine Core.Turns.trans ?_ (ask_turns e _ .progressPoll)
    exact setSlot_turns i _ fun _ _ _ => rfl

theorem reProbeDue_turns (o : OpeningId) : c.Keeps (c.reProbeDue e o) := by
  have stopped : c.Keeps (c.setLive o fun l => { l with reProbe := none }) := setLive_turns o _ rfl
  unfold Core.reProbeDue
  dsimp only
  split
  · exact stopped.trans (setLive_turns o _ rfl)
  · exact stopped.trans (ask_turns e o _)

/-- The orphan hold timer runs in an orphan's slot only. -/
theorem orphanTimer_turns (i : SlotId) (h : (c.orphanTimerOf i).isSome = true) : c.Keeps (c.endOrphan e i) := by
  refine endOrphan_turns e i fun w x hx => ?_
  obtain ⟨_, _, held⟩ := w.slot i x hx
  refine held ?_
  simpa [Core.orphanTimerOf, hx] using h

/-- The rest timer runs in RESTING only. -/
theorem restTimer_turns (o : OpeningId) (h : (c.live o).restTimer.isSome = true) : c.Keeps (c.enterIdle o) := by
  refine Core.Turns.trans (leave_frees (o := o) fun w => ?_) (enterIdle_settles o)
  have resting := (w.timers o).1 h
  exact ⟨by simp [resting], w.unslotted (by simp [resting]) (by simp [resting]) (by simp [resting])⟩

/-- The dwell timer runs in DWELL only. -/
theorem dwellTimer_turns (o : OpeningId) (h : (c.live o).dwellTimer.isSome = true) : c.Keeps (c.enterIdle o) := by
  refine Core.Turns.trans (leave_frees (o := o) fun w => ?_) (enterIdle_settles o)
  have dwelling := (w.timers o).2 h
  exact ⟨by simp [dwelling], w.unslotted (by simp [dwelling]) (by simp [dwelling]) (by simp [dwelling])⟩

end Timers

/-! ### Holds (R144 to R152) -/

section Holds

variable {c : Core} (e : Env) (g : Segment)

theorem enterReleasing_turns : c.Keeps (c.enterReleasing e g) := by
  refine (setHold_turns g _).trans (foldl_turns _ (fun c i => ?_) _ _)
  split
  · split
    · exact requestStop_turns e _ .hold
    · exact .refl c
  · exact .refl c

theorem tryRelease_turns : c.Keeps (c.tryRelease e g) := by
  unfold Core.tryRelease
  dsimp only
  split
  · exact enterReleasing_turns e g
  · exact .refl c

theorem grant_turns : c.Keeps (c.grant e g) :=
  ((((setSegment_turns g _).trans (stopTimers_turns e g)).trans (suspendPass_turns g)).trans (setHold_turns g _)).trans
    (hand_turns _)

theorem reclaimOwned_turns : c.Keeps (c.reclaimOwned e g) :=
  (((setHold_turns g _).trans trigger_turns).trans (startDuePass_turns e g)).trans (tryRelease_turns e g)

theorem finishRelease_turns : c.Keeps (c.finishRelease e g) := by
  unfold Core.finishRelease
  dsimp only
  split
  · split
    · split
      · exact grant_turns e g
      · exact .refl c
    · exact reclaimOwned_turns e g
  · exact .refl c

theorem enterReturning_turns (reason : HoldReason) : c.Keeps (c.enterReturning e g reason) :=
  turns_of_eq rfl rfl rfl rfl

theorem revoke_turns : c.Keeps (c.revoke e g) := turns_of_eq rfl rfl rfl rfl

theorem holdAsserted_turns : c.Keeps (c.holdAsserted e g) := (setHold_turns g _).trans (tryRelease_turns e g)

theorem holdDeasserted_turns : c.Keeps (c.holdDeasserted e g) := by
  unfold Core.holdDeasserted
  dsimp only
  split
  · exact (setHold_turns g _).trans (enterReturning_turns e g _)
  · exact setHold_turns g _

theorem holdreqSettles_turns : c.Keeps (c.holdreqSettles e g) := by
  unfold Core.holdreqSettles
  split
  · exact holdDeasserted_turns e g
  · exact holdAsserted_turns e g

theorem returned_turns : c.Keeps (c.returned e g) :=
  ((((setHold_turns g _).trans (setSegment_turns g _)).trans (triggerPass_turns e g)).trans trigger_turns).trans
    (tryRelease_turns e g)

theorem holdAtCloseAll_turns : c.Keeps (c.holdAtCloseAll e g) := by
  unfold Core.holdAtCloseAll
  split
  · exact .refl c
  · exact ((setHold_turns g _).trans trigger_turns).trans (startDuePass_turns e g)
  · exact setHold_turns g _
  · exact .refl c

theorem holdBelowCloseAll_turns : c.Keeps (c.holdBelowCloseAll e g) := by
  unfold Core.holdBelowCloseAll
  split
  · exact setHold_turns g _
  · exact tryRelease_turns e g

end Holds

/-! ### The end of an event (log entry 12) -/

section Settling

variable {c : Core} (e : Env)

theorem tidyFollow_turns : c.Keeps (c.tidyFollow e) := by
  refine tabulate_turns _ (fun o => ?_) rfl
  split <;> rfl

theorem noteBuilding_turns : c.Keeps (c.noteBuilding e) := by
  unfold Core.noteBuilding
  dsimp only
  split
  · exact .refl c
  · exact turns_of_eq rfl rfl rfl rfl

theorem driveReclaim_turns (g : Segment) : c.Keeps (c.driveReclaim g) := setHold_turns g _

theorem concluded_turns : c.Keeps (c.concluded e) := by
  have tidied : c.Keeps (((c.tidyRequests e .seg0).tidyRequests e .seg1).tidyFollow e) :=
    ((setSegment_turns _ _).trans (setSegment_turns _ _)).trans (tidyFollow_turns e)
  have released := (tidied.trans (finishRelease_turns e .seg0)).trans (finishRelease_turns e .seg1)
  have kept := (released.trans (passUpkeep_turns e .seg0)).trans (passUpkeep_turns e .seg1)
  have sent := (kept.trans (arbitrate_turns e .seg0)).trans (arbitrate_turns e .seg1)
  exact (sent.trans (driveReclaim_turns .seg0)).trans (driveReclaim_turns .seg1)

theorem settle_turns : c.Keeps (c.settle e) := (concluded_turns e).trans (noteBuilding_turns e)

end Settling

/-! ### The supply (R21, R159, R160, R167) -/

section Supply

variable {c : Core} (e : Env)

theorem supplyNormal_turns (fromOut : Bool) : c.Keeps (c.supplyNormal e fromOut) := by
  unfold Core.supplyNormal
  refine Core.Turns.trans ?_ trigger_turns
  split
  · exact (resume_turns e .seg0).trans (resume_turns e .seg1)
  · exact .refl c

/-- A slot's drive ended by the outage: an orphan's freed, another's opening back in the queue (R21). -/
theorem outageSlot_turns (i : SlotId) : c.Keeps (c.outageSlot e i) := by
  unfold Core.outageSlot
  split
  · exact .refl c
  · next x hx =>
    dsimp only
    split
    · next orphan => exact freeOrphan_turns e i hx fun _ => orphan
    · exact ((freeSlot_frees e i hx).trans (setLive_turns _ _ rfl)).trans (enqueue_settles e _ _ .tail)

theorem forgetQueued_turns (o : OpeningId) : c.Keeps (c.forgetQueued o) := by
  unfold Core.forgetQueued
  split
  · exact setLive_turns o _ rfl
  · exact .refl c

theorem outage_turns : c.Keeps (c.outage e) := by
  have slots : c.Keeps (allSlots.foldl (fun c i => c.outageSlot e i) c) :=
    foldl_turns _ (fun _ i => outageSlot_turns e i) _ _
  have drives : c.Keeps (c.outageDrives e) := slots.trans (foldl_turns _ (fun _ o => forgetQueued_turns o) _ _)
  exact (drives.trans (suspend_turns e .seg0)).trans (suspend_turns e .seg1)

theorem shed_turns : c.Keeps (c.shed e) := by
  unfold Core.shed
  split
  · exact .refl c
  · exact requestStop_turns e _ .shed

end Supply

/-! ### Requests and resets (R4, R19, R36, R115, R196) -/

section Edits

variable {c : Core} (e : Env) (o : OpeningId)

theorem claimRemoved_turns (reason : ExpiryReason) (x : Claim) : c.Keeps (c.claimRemoved e reason x) :=
  (hand_turns _).trans (joinAll_turns _ _)

theorem clearFault_turns (faulted : (c.live o).state = .faulted) : c.Keeps (c.clearFault e o) := by
  have cleared : c.Turns nobody (only o) (c.setLive o fun l => { l with failureCount := 0 }) :=
    (leave_unslotted o (by simp [faulted]) (by simp [faulted]) (by simp [faulted]) (by simp [faulted])).trans
      (setLive_turns o _ rfl)
  unfold Core.clearFault
  dsimp only
  split
  · exact cleared.trans (enterIdle_settles o)
  · refine Core.Turns.trans (cleared.trans (setLive_settles _ fun w => ?_)) (ask_turns e o _)
    have timers := w.timers o
    rw [live_setLive_same] at timers ⊢
    exact ⟨nofun, by simp, fun h => absurd (faulted.symm.trans (timers.1 h)) nofun,
      fun h => absurd (faulted.symm.trans (timers.2 h)) nofun⟩

/-- An opening that may be written leaves its slot, if it has one, which is then an orphan's (R3, R4, R117). -/
theorem rewritten_turns (m : Commissioned) (bars : (c.live o).state.bars = false) : c.Keeps (c.rewritten e o m) := by
  have freed : c.Turns nobody (only o) (match c.slotOf o with | some i => c.freeSlot e i | none => c) := by
    cases h : c.slotOf o with
    | some i => exact slotOf_frees e h
    | none => exact leave_frees fun _ => ⟨fun queued => by simp [queued, OpeningState.bars] at bars, h⟩
  have forgotten : c.Turns nobody (only o) (c.forgetOpening e o) :=
    ((freed.trans (withdraw_turns e o _)).trans (setSegment_turns _ _)).trans (setCount_turns _ _ _)
  have kept : c.Turns nobody (only o) ((c.forgetOpening e o).keepInList e o m) := by
    unfold Core.keepInList
    split
    · exact forgotten
    · exact forgotten.trans (leaveList_turns e o)
  refine (kept.trans (setLive_settles _ fun _ => ?_)).trans (setCount_turns _ _ _)
  cases m.present <;> constructor <;> simp [Live.restart, Live.afterReset]

theorem held_turns (k : ResetKind) : c.Keeps (c.held k) := by
  cases k with
  | powerOn =>
    refine Core.Quiet.turns ⟨rfl, fun _ => rfl, fun o => ?_, rfl⟩
    rw [live_held_powerOn]
    rfl
  | pin | soft => exact turns_of_eq rfl rfl rfl rfl

end Edits

end Sys2Proof.Machine

end

section
/-! SUPPORT. The Weather Assessor keeps sector, arc, stability timer and latches in agreement (R55, R62 to R70), and the
drive core it hands its changes to. -/

namespace Sys2Proof.Machine

/-! ### What the Weather Assessor keeps -/

/-- The report, the arc and the stability timer go with the vane and the stable sector, as SectorWf says. -/
def Weather.sectored (w : Weather) : Prop :=
  w.reported = reportedSector w.stable w.vane ∧ w.arc = arcOf w.reported w.stable ∧
    (w.stability.isNone = true ↔ w.stable = some w.vane) ∧ ∀ x, w.stability = some x → x.candidate = w.vane

/-- At CALM and WATCH every latch is clear, as LatchesWf says. -/
def Weather.latched (w : Weather) : Prop :=
  (w.level = .calm ∨ w.level = .watch) → ∀ o : OpeningId, look w.latches o = false

theorem sectorWf_iff (s : State) : SectorWf s ↔ s.weather.sectored := .rfl

theorem latchesWf_iff (s : State) : LatchesWf s ↔ s.weather.latched := .rfl

/-- A change of the Weather Assessor and the drive core that keeps both in agreement. -/
structure Sky.Keeps (k m : Sky) : Prop where
  sector : k.weather.sectored → m.weather.sectored
  latches : k.weather.latched → m.weather.latched
  core : k.core.Keeps m.core

section Weather

variable {k m : Sky} (e : Env)

theorem Sky.Keeps.refl (k : Sky) : k.Keeps k := ⟨id, id, .refl _⟩

theorem Sky.Keeps.trans {n : Sky} (h : k.Keeps m) (g : m.Keeps n) : k.Keeps n :=
  ⟨fun w => g.sector (h.sector w), fun w => g.latches (h.latches w), h.core.trans g.core⟩

/-- A change of the drive core alone. -/
theorem Sky.Keeps.of_core (h : m.weather = k.weather) (core : k.core.Keeps m.core) : k.Keeps m :=
  ⟨fun w => h ▸ w, fun w => h ▸ w, core⟩

/-- What the sector's and the latches' agreement reads of the weather. -/
def Weather.standing (w : Weather) :
    ReportedSector × Option Sector × Sector × BitVec 8 × Option Stability × Level × Vector Bool 128 :=
  (w.reported, w.stable, w.vane, w.arc, w.stability, w.level, w.latches)

theorem sectored_of_standing {v w : Weather} (h : v.standing = w.standing) (agrees : w.sectored) : v.sectored := by
  cases v
  cases w
  cases h
  exact agrees

theorem latched_of_standing {v w : Weather} (h : v.standing = w.standing) (agrees : w.latched) : v.latched := by
  cases v
  cases w
  cases h
  exact agrees

/-- A change of other parts of the weather. -/
theorem Sky.Keeps.of_standing (h : m.weather.standing = k.weather.standing) (core : k.core.Keeps m.core) : k.Keeps m :=
  ⟨sectored_of_standing h, latched_of_standing h, core⟩

/-- A latch is set at CLOSE_EXPOSED and CLOSE_ALL only (R68). -/
theorem setLatch_keepsSky (o : OpeningId) (high : ¬ (k.weather.level = .calm ∨ k.weather.level = .watch)) :
    k.Keeps (k.setLatch e o) := by
  unfold Sky.setLatch
  split
  · exact .refl k
  · exact ⟨id, fun _ low => absurd low high, (join_turns _ o).trans (recheckDrive_turns _ o)⟩

theorem setLatch_level (o : OpeningId) : (k.setLatch e o).weather.level = k.weather.level := by
  unfold Sky.setLatch
  split <;> rfl

/-- No opening is exposed at CALM and WATCH (R67). -/
theorem exposed_high {work : Content} {level : Level} {arc : BitVec 8} {o : OpeningId}
    (h : exposed work level arc o = true) : ¬ (level = .calm ∨ level = .watch) := by
  rintro (rfl | rfl) <;> exact absurd h nofun

theorem setLatches_keepsSky : k.Keeps (k.setLatches e) := by
  suffices k.Keeps (k.setLatches e) ∧ (k.setLatches e).weather.level = k.weather.level from this.1
  refine List.foldlRecOn (motive := fun m => k.Keeps m ∧ m.weather.level = k.weather.level) _ _ ⟨.refl k, rfl⟩
    fun m ⟨kept, level⟩ o ho => ?_
  have high := exposed_high (List.mem_filter.1 ho).2
  rw [← level] at high
  exact ⟨kept.trans (setLatch_keepsSky e o high), (setLatch_level e o).trans level⟩

/-- A written opening's latch is set where it is exposed, and cleared with its record (R4). -/
theorem writeLatch_keepsSky (o : OpeningId) (present : Bool) : k.Keeps (k.writeLatch e o present) := by
  unfold Sky.writeLatch
  split
  · split
    · next h => exact setLatch_keepsSky e o (exposed_high h)
    · exact .refl k
  · refine ⟨id, fun w low q => ?_, ?_⟩
    · rw [show (k.clearLatch o).weather.latches = put k.weather.latches o false from rfl, look_put]
      split
      · rfl
      · exact w low q
    · unfold Sky.clearLatch
      dsimp only
      split
      · exact join_turns _ o
      · exact .refl _

/-! ### The level (R60 to R65) -/

/-- A change of the level announced: LEVEL_CHANGED, and the openings to resolve (R65). -/
def Sky.announced (e : Env) (new : Level) (k : Sky) : Sky :=
  { weather := { k.weather with level := new }
    core := if decide (k.weather.level = .watch) != decide (new = .watch)
      then (k.core.hand .levelChanged).joinAll e.present else k.core.hand .levelChanged }

theorem levelled_eq (new : Level) (k : Sky) : k.levelled e new =
    if k.weather.level.height < new.height ∧ 2 ≤ new.height then (k.announced e new).setLatches e
    else if k.weather.level = .closeExposed ∧ new = .watch then
      { k.announced e new with weather := (k.announced e new).weather.clearLatches }
    else k.announced e new := by
  unfold Sky.levelled Sky.announced
  dsimp only
  cases decide (k.weather.level = .watch) != decide (new = .watch) <;> rfl

theorem announced_core (new : Level) : k.core.Keeps (k.announced e new).core := by
  unfold Sky.announced
  dsimp only
  split
  · exact (hand_turns _).trans (joinAll_turns _ _)
  · exact hand_turns _

/-- A change of the level that leaves latches clear: to CALM or WATCH it comes from CALM or WATCH, or it steps down from
CLOSE_EXPOSED, which clears them. -/
theorem levelled_keepsSky (new : Level) (h : new = .calm ∨ new = .watch → k.weather.level = .calm ∨
    k.weather.level = .watch ∨ (k.weather.level = .closeExposed ∧ new = .watch)) : k.Keeps (k.levelled e new) := by
  have core := announced_core (k := k) e new
  rw [levelled_eq]
  split
  · next rises =>
    refine Sky.Keeps.trans (m := k.announced e new) ⟨id, fun _ low => ?_, core⟩ (setLatches_keepsSky e)
    rcases low with low | low <;> simp [show new = _ from low, Level.height] at rises
  · split
    · exact ⟨id, fun _ _ o => look_replicate false o, core⟩
    · next stays =>
      refine ⟨id, fun w low => ?_, core⟩
      rcases h low with before | before | before
      · exact w (.inl before)
      · exact w (.inr before)
      · exact absurd before stays

theorem changeLevel_keepsSky (new : Level) (h : new = .calm ∨ new = .watch → k.weather.level = .calm ∨
    k.weather.level = .watch ∨ (k.weather.level = .closeExposed ∧ new = .watch)) : k.Keeps (k.changeLevel e new) := by
  have levelled := levelled_keepsSky e new h
  rw [changeLevel_eq]
  split
  · exact levelled.trans (.of_core rfl ((holdAtCloseAll_turns _ .seg0).trans (holdAtCloseAll_turns _ .seg1)))
  · split
    · exact levelled.trans (.of_core rfl ((holdBelowCloseAll_turns _ .seg0).trans (holdBelowCloseAll_turns _ .seg1)))
    · exact levelled

/-- An evaluation raises the level or keeps it (R60). -/
theorem evaluate_keepsSky : k.Keeps (k.evaluate e) := by
  have judged (t : Option Timer) : k.Keeps { k with weather := { k.weather with standDown := t } } :=
    .of_standing rfl (.refl _)
  unfold Sky.evaluate
  dsimp only
  split
  · next rises =>
    refine (judged none).trans (changeLevel_keepsSky e _ fun low => ?_)
    dsimp only
    cases hl : k.weather.level <;> rcases low with low | low <;> simp [hl, low, Level.height] at rises ⊢
  · exact judged _

/-- A stand-down goes one step down the scale (R62). -/
theorem standDownEnds_keepsSky : k.Keeps (k.standDownEnds e) := by
  have stopped : k.Keeps { k with weather := { k.weather with standDown := none } } := .of_standing rfl (.refl _)
  refine Sky.Keeps.trans (stopped.trans (changeLevel_keepsSky e k.weather.level.lower ?_)) (evaluate_keepsSky e)
  dsimp only
  cases k.weather.level <;> simp [Level.lower]

/-- A change of other parts of the weather, then an evaluation. -/
theorem reevaluate_keepsSky {w : Weather} {d : Core} (h : w.standing = k.weather.standing) (core : k.core.Keeps d) :
    k.Keeps (Sky.evaluate e { weather := w, core := d }) :=
  (Sky.Keeps.of_standing h core).trans (evaluate_keepsSky e)

theorem dryOutEnds_keepsSky : k.Keeps (k.dryOutEnds e) := reevaluate_keepsSky e rfl (.refl _)

theorem gustEnds_keepsSky : k.Keeps (k.gustEnds e) := reevaluate_keepsSky e rfl (.refl _)

theorem warmUpEnds_keepsSky : k.Keeps (k.warmUpEnds e) := reevaluate_keepsSky e rfl (.refl _)

theorem cancelAdvisory_keepsSky : k.Keeps (k.cancelAdvisory e) := reevaluate_keepsSky e rfl (.refl _)

theorem placeAdvisory_keepsSky (kind : AdvisoryKind) (lead duration : Nat) :
    k.Keeps (k.placeAdvisory e kind lead duration) := reevaluate_keepsSky e rfl (.refl _)

theorem rainFilterEnds_keepsSky (x : RainContact) : k.Keeps (k.rainFilterEnds e x) := by
  have filtered (f : RainFilter) : (k.weather.setFilter x f).standing = k.weather.standing := by cases x <;> rfl
  unfold Sky.rainFilterEnds Sky.judgeRain
  dsimp only
  split
  · split
    · exact reevaluate_keepsSky e (filtered _) (.refl _)
    · exact .of_standing (filtered _) (.refl _)
  · split <;> exact .of_standing (filtered _) (.refl _)

theorem minuteMark_keepsSky : k.Keeps (k.minuteMark e) := by
  unfold Sky.minuteMark
  split
  · exact .refl k
  · split
    · exact reevaluate_keepsSky e rfl (hand_turns _)
    · exact reevaluate_keepsSky e rfl (.refl _)

/-! ### The sector and the arc (R55, R66) -/

/-- The report and the arc of a reading (R55, R66). -/
def Weather.derived (w : Weather) : Weather :=
  { w with reported := reportedSector w.stable w.vane, arc := arcOf (reportedSector w.stable w.vane) w.stable }

/-- The arc derived again, from a stability timer that goes with the vane and the stable sector. -/
theorem deriveArc_keepsSky {w : Weather} (level : w.level = k.weather.level) (latches : w.latches = k.weather.latches)
    (runs : k.weather.sectored → (w.stability.isNone = true ↔ w.stable = some w.vane) ∧
      ∀ x, w.stability = some x → x.candidate = w.vane) :
    k.Keeps (Sky.deriveArc e { weather := w, core := k.core }) := by
  have derived : k.Keeps { weather := w.derived, core := k.core } := by
    refine ⟨fun agrees => ⟨rfl, rfl, runs agrees⟩, fun agrees low => ?_, .refl _⟩
    rw [show w.derived.latches = k.weather.latches from latches]
    exact agrees (level ▸ low)
  unfold Sky.deriveArc
  dsimp only
  split
  · exact derived.trans (setLatches_keepsSky e)
  · exact derived

/-- The stability timer runs from every reading that is not the stable sector (R55). -/
theorem vaneReads_keepsSky (s : Sector) : k.Keeps (k.vaneReads e s) := by
  refine deriveArc_keepsSky e rfl rfl fun _ => ?_
  dsimp only
  split
  · next h => exact ⟨iff_of_true rfl h, nofun⟩
  · next h => exact ⟨iff_of_false (by simp) h, fun x hx => by cases hx; rfl⟩

/-- The vane's reading is stable when the timer expires (R55). -/
theorem sectorSettles_keepsSky : k.Keeps (k.sectorSettles e) := by
  unfold Sky.sectorSettles
  split
  · exact .refl k
  · next x hx =>
    refine deriveArc_keepsSky e rfl rfl fun ⟨_, _, _, candidate⟩ => ?_
    exact ⟨iff_of_true rfl (congrArg some (candidate x hx)), nofun⟩

end Weather

end Sys2Proof.Machine

end

section
/-! SUPPORT. Every command keeps the Dynamic Claim Table, the weather and the drive core in agreement; the statements on
them. -/

namespace Sys2Proof.Machine

/-! ### The Dynamic Claim Table (R29 to R36) -/

section Table

variable {s t : State}

/-- A table each of whose entries stood in its slot, with an age in range. -/
theorem claimsWf_of_kept (w : ClaimsWf s) (h : ∀ (i : Fin 192) (x : Claim), look t.claims.slots i = some x →
    ∃ y : Claim, look s.claims.slots i = some y ∧ y.claimant = x.claimant ∧ y.scope = x.scope ∧
      y.position = x.position ∧ x.age ≤ 3) : ClaimsWf t := by
  intro i x hx
  obtain ⟨y, hy, who, scope, position, age⟩ := h i x hx
  obtain ⟨_, range, unique⟩ := w i y hy
  refine ⟨age, position ▸ range, fun j z hz hwho hscope => ?_⟩
  obtain ⟨y', hy', who', scope', _, _⟩ := h j z hz
  exact unique j y' hy' (who'.trans (hwho.trans who.symm)) (scope'.trans (hscope.trans scope.symm))

/-- An entry placed in a slot, no other slot holding its key. -/
theorem claimsWf_put (w : ClaimsWf s) (i : Fin 192) (x : Claim) (ht : t.claims.slots = put s.claims.slots i (some x))
    (age : x.age ≤ 3) (position : x.position ≤ 100) (own : ∀ (j : Fin 192) (y : Claim), look s.claims.slots j = some y →
      y.claimant = x.claimant → y.scope = x.scope → j = i) : ClaimsWf t := by
  have slots (j : Fin 192) (y : Claim) (hy : look t.claims.slots j = some y) :
      (j = i ∧ y = x) ∨ (j ≠ i ∧ look s.claims.slots j = some y) := by
    rw [ht, look_put] at hy
    split at hy
    · next h => cases hy; exact .inl ⟨h, rfl⟩
    · next h => exact .inr ⟨h, hy⟩
  intro j y hy
  rcases slots j y hy with ⟨rfl, rfl⟩ | ⟨other, hy⟩
  · refine ⟨age, position, fun k z hz who scope => ?_⟩
    rcases slots k z hz with ⟨h, _⟩ | ⟨_, hz⟩
    · exact h.symm
    · exact (own k z hz who scope).symm
  · obtain ⟨range, place, unique⟩ := w j y hy
    refine ⟨range, place, fun k z hz who scope => ?_⟩
    rcases slots k z hz with ⟨_, rfl⟩ | ⟨_, hz⟩
    · exact absurd (own j y hy who.symm scope.symm) other
    · exact unique k z hz who scope

/-- CLAIM keeps the table: an entry refreshed in its slot, or placed where no slot holds its key (R30, R31). -/
theorem placeClaim_claimsWf (who : Claimant) (scope : ClaimScope) (position : Nat) (range : position ≤ 100)
    (w : ClaimsWf s) : ClaimsWf (s.placeClaim who scope position).1 := by
  unfold State.placeClaim
  dsimp only
  split
  · exact w
  · split
    · exact w
    · split
      · next i hi =>
        obtain ⟨x, hx, key⟩ := (Option.any_eq_true _ _).1 (lowest_passes _ _ i hi)
        obtain ⟨hwho, hscope⟩ : x.claimant = who ∧ x.scope = scope := by simpa using key
        obtain ⟨_, _, unique⟩ := w i x hx
        exact claimsWf_put w i _ rfl (Nat.zero_le 3) range fun j y hy yw ys =>
          (unique j y hy (yw.trans hwho.symm) (ys.trans hscope.symm)).symm
      · next none =>
        split
        · next i _ =>
          refine claimsWf_put w i _ rfl (Nat.zero_le 3) range fun j y hy yw ys => ?_
          have lacks := (lowest_eq_none _ _).1 none j
          simp [hasKey, hy, show y.claimant = who from yw, show y.scope = scope from ys] at lacks
        · exact w

theorem removeClaims_claimsWf (reason : ExpiryReason) (which : Claim → Bool) (w : ClaimsWf s) :
    ClaimsWf (s.removeClaims reason which) :=
  claimsWf_of_kept w fun i x hx =>
    have hy := ((look_removeClaims s reason which i x).1 hx).1
    ⟨x, hy, rfl, rfl, rfl, (w i x hy).1⟩

/-- The aging sweep removes age 3 before it ages the rest (R33, R34). -/
theorem agingSweep_claimsWf (w : ClaimsWf s) : ClaimsWf s.agingSweep := by
  refine claimsWf_of_kept w fun i x hx => ?_
  obtain ⟨y, hy, rfl⟩ : ∃ y : Claim, look (s.removeClaims .aged fun x => x.age == 3).claims.slots i = some y ∧
      { y with age := y.age + 1 } = x := by
    simpa [State.agingSweep] using hx
  obtain ⟨hy, young⟩ := (look_removeClaims s _ _ i y).1 hy
  have range := (w i y hy).1
  have : y.age ≠ 3 := by simpa using young
  exact ⟨y, hy, rfl, rfl, rfl, by dsimp only; omega⟩

/-- RELEASE empties a slot (R32). -/
theorem claimsWf_emptied (i : Fin 192) (ht : t.claims.slots = put s.claims.slots i none) (w : ClaimsWf s) :
    ClaimsWf t := by
  refine claimsWf_of_kept w fun j x hx => ?_
  rw [ht, look_put] at hx
  split at hx
  · cases hx
  · exact ⟨x, hx, rfl, rfl, rfl, (w j x hx).1⟩

end Table

/-! ### Changes of a state -/

/-- A change of a state that keeps the Dynamic Claim Table, the weather and the drive core in agreement. -/
structure State.Keeps (s t : State) : Prop where
  claims : ClaimsWf s → ClaimsWf t
  sky : Sky.Keeps ⟨s.weather, s.core⟩ ⟨t.weather, t.core⟩

section Changes

variable {s t u : State}

theorem State.Keeps.refl (s : State) : s.Keeps s := ⟨id, .refl _⟩

theorem State.Keeps.trans (h : s.Keeps t) (g : t.Keeps u) : s.Keeps u :=
  ⟨fun w => g.claims (h.claims w), h.sky.trans g.sky⟩

/-- A change of the drive core alone, of these three. -/
theorem State.Keeps.of_core (claims : t.claims = s.claims) (weather : t.weather = s.weather) (core : s.core.Keeps t.core) :
    s.Keeps t := ⟨ClaimsWf_of_eq s t claims, .of_core weather core⟩

/-- A change of other blocks. -/
theorem State.Keeps.of_eq (claims : t.claims = s.claims) (weather : t.weather = s.weather) (core : t.core = s.core) :
    s.Keeps t := .of_core claims weather (by rw [core]; exact .refl _)

theorem within_keepsState (f : Env → Core → Core) (h : s.core.Keeps (f s.env s.core)) : s.Keeps (s.within f) :=
  .of_core rfl rfl h

theorem settled_keepsState : s.Keeps s.settled := .of_core rfl rfl (settle_turns _)

theorem onSky_keepsState (f : Env → Sky → Sky) (h : ∀ (e : Env) (k : Sky), k.Keeps (f e k)) : s.Keeps (s.onSky f) :=
  ⟨id, h _ _⟩

theorem setPort_keepsState (p : Role) (f : Port → Port) : s.Keeps (s.setPort p f) := .of_eq rfl rfl rfl

theorem setNotices_keepsState (p : Role) (f : NoticePort → NoticePort) : s.Keeps (s.setNotices p f) :=
  .of_core rfl rfl (turns_of_eq rfl rfl rfl rfl)

/-- A change of the Weather Assessor's timers. -/
theorem setWeather_keepsState (w : Weather) (h : w.standing = s.weather.standing) :
    s.Keeps { s with weather := w } := ⟨id, .of_standing h (.refl _)⟩

theorem removeClaims_keepsState (reason : ExpiryReason) (which : Claim → Bool) :
    s.Keeps (s.removeClaims reason which) :=
  ⟨removeClaims_claimsWf reason which, .of_core rfl (foldl_turns _ (fun _ x => claimRemoved_turns _ reason x) _ _)⟩

theorem agingSweep_keepsState : s.Keeps s.agingSweep :=
  ⟨agingSweep_claimsWf, (removeClaims_keepsState (s := s) .aged fun x => x.age == 3).sky⟩

end Changes

/-! ### The supply (R155 to R167) -/

section Supply

variable (s : State)

theorem judgePause_keepsState : s.Keeps s.judgePause := by
  refine .of_core rfl rfl ?_
  unfold State.judgePause
  dsimp only
  split
  · exact trigger_turns
  · exact .refl _

theorem judgeTrip_keepsState : s.Keeps s.judgeTrip := .of_eq rfl rfl rfl

theorem budgetChanged_keepsState : s.Keeps s.budgetChanged :=
  ((judgePause_keepsState s).trans (judgeTrip_keepsState _)).trans (.of_core rfl rfl trigger_turns)

theorem enterSupply_keepsState (new : SupplyState) : s.Keeps (s.enterSupply new) := by
  refine .of_core rfl rfl ?_
  unfold State.enterSupply
  rw [State.within_core]
  dsimp only
  refine (hand_turns .supplyChanged).trans ?_
  cases new with
  | normal => exact supplyNormal_turns _ _
  | out => exact outage_turns _
  | sag | outPending => exact .refl _

theorem judgeSupply_keepsState : s.Keeps s.judgeSupply := by
  unfold State.judgeSupply
  dsimp only
  split
  · exact .refl s
  · exact enterSupply_keepsState s _

theorem mainsChanges_keepsState : s.Keeps s.mainsChanges := by
  have told (u : Supply) : s.Keeps { s with supply := u, core := s.core.hand .supplyChanged } :=
    .of_core rfl rfl (hand_turns .supplyChanged)
  unfold State.mainsChanges
  exact (told _).trans (budgetChanged_keepsState _)

theorem pauseLimitEnds_keepsState : s.Keeps s.pauseLimitEnds :=
  .of_core rfl rfl ((hand_turns .pauseTimeout).trans trigger_turns)

theorem tripEnds_keepsState : s.Keeps s.tripEnds := .of_core rfl rfl (shed_turns _)

end Supply

/-! ### Requests -/

section Requests

variable (s : State)

theorem serveClaim_keepsState (p : Role) (a b x : Byte) : s.Keeps (serveClaim p a b x s).1 := by
  unfold serveClaim
  split
  · exact .refl s
  · split
    · exact .refl s
    · next position hp =>
      refine ⟨placeClaim_claimsWf _ _ _ (positionOf?_range hp), ?_⟩
      unfold State.placeClaim
      dsimp only
      split
      · exact .refl _
      · split
        · exact .refl _
        · split
          · refine .of_core rfl ?_
            dsimp only
            split
            · exact joinAll_turns _ _
            · exact .refl _
          · split
            · exact .of_core rfl (joinAll_turns _ _)
            · exact .refl _

theorem serveRelease_keepsState (p : Role) (a b : Byte) : s.Keeps (serveRelease p a b s).1 := by
  unfold serveRelease
  split
  · exact .refl s
  · split
    · exact .refl s
    · split
      · exact .refl s
      · next i _ => exact ⟨claimsWf_emptied i rfl, .of_core rfl (joinAll_turns _ _)⟩

theorem serveAdvisory_keepsState (a b : Byte) (d : Word16) : s.Keeps (serveAdvisory a b d s).1 := by
  have cancelled : s.Keeps (s.onSky Sky.cancelAdvisory).settled :=
    (onSky_keepsState _ fun e _ => cancelAdvisory_keepsSky e).trans settled_keepsState
  have placed (kind : AdvisoryKind) :
      s.Keeps (s.onSky fun e k => k.placeAdvisory e kind b.toNat d.toNat).settled :=
    (onSky_keepsState _ fun e _ => placeAdvisory_keepsSky e _ _ _).trans settled_keepsState
  unfold serveAdvisory
  split
  · exact .refl s
  · split
    · exact .refl s
    · split
      · exact .refl s
      · split
        · split
          · exact .refl s
          · exact cancelled
        · exact placed _

theorem putStatic_keepsState (i : Fin 32) (x : StaticEntry) : s.Keeps (s.putStatic i x) := by
  unfold State.putStatic
  have written : s.Keeps (s.withStatics (put s.work.statics i (some x))) := .of_eq rfl rfl rfl
  refine (written.trans (within_keepsState _ ?_)).trans settled_keepsState
  dsimp only
  split
  · exact (joinAll_turns _ _).trans (recheckAll_turns _ _)
  · exact joinAll_turns _ _

theorem setStatic_keepsState (x : StaticEntry) : s.Keeps (s.setStatic x).1 := by
  unfold State.setStatic
  split
  · exact .refl s
  · split
    · exact putStatic_keepsState s _ x
    · split
      · exact putStatic_keepsState s _ x
      · exact .refl s

theorem serveStaticSet_keepsState (a b k x : Byte) : s.Keeps (serveStaticSet a b k x s).1 := by
  unfold serveStaticSet
  split
  · exact .refl s
  · split
    · exact .refl s
    · split
      · exact .refl s
      · exact setStatic_keepsState s _

theorem serveStaticClear_keepsState (a b : Byte) : s.Keeps (serveStaticClear a b s).1 := by
  unfold serveStaticClear
  split
  · exact .refl s
  · split
    · exact .refl s
    · split
      · exact .refl s
      · split
        · exact .refl s
        · exact .of_core rfl rfl (joinAll_turns _ _)

theorem serveReadOpening_keepsState (p : Role) (b : Byte) : s.Keeps (serveReadOpening p b s).1 := by
  have dropped (o : OpeningId) : s.Keeps { s with core := s.core.setLive o fun l => { l with linkDropped := false } } :=
    .of_core rfl rfl (setLive_turns o (fun l => { l with linkDropped := false }) rfl)
  unfold serveReadOpening
  dsimp only
  split
  · exact .refl s
  · split
    · exact dropped _
    · exact .refl s

theorem serveReadCounters_keepsState (b : Byte) : s.Keeps (serveReadCounters b s).1 := by
  have cleared (o : OpeningId) : s.Keeps { s with core := s.core.setLive o Live.clearCounters } :=
    .of_core rfl rfl (setLive_turns o _ rfl)
  unfold serveReadCounters
  split
  · exact .refl s
  · exact cleared _

theorem serveSetMask_keepsState (p : Role) (w : Word16) : s.Keeps (serveSetMask p w s).1 := by
  unfold serveSetMask
  split
  · exact .refl s
  · next k _ => exact setNotices_keepsState p fun n => n.setMask k

theorem serveForceEvent_keepsState (p : Role) (w : Word16) : s.Keeps (serveForceEvent p w s).1 := by
  unfold serveForceEvent
  split
  · exact .refl s
  · next k _ => exact setNotices_keepsState p fun n => n.force k

theorem serveClearFault_keepsState (b : Byte) : s.Keeps (serveClearFault b s).1 := by
  unfold serveClearFault
  split
  · exact .refl s
  · split
    · exact .refl s
    · split
      · exact .refl s
      · next faulted =>
        exact (within_keepsState _ (clearFault_turns _ _ (not_not.1 faulted))).trans settled_keepsState

theorem serveResync_keepsState (b : Byte) : s.Keeps (serveResync b s).1 := by
  unfold serveResync
  split
  · exact .refl s
  · exact (within_keepsState _ (foldl_turns _ (fun _ g => triggerPass_turns _ g) _ _)).trans settled_keepsState

/-- An accepted OPENING_WRITE, of an opening in a state that allows one (R3, R4). -/
theorem written_keepsState (o : OpeningId) (m : Commissioned) (bars : (s.core.live o).state.bars = false) :
    s.Keeps (s.written o m) := by
  have record : s.Keeps { s with work := { s.work with openings := put s.work.openings o m }
                                 core := s.core.rewritten s.env o m } := .of_core rfl rfl (rewritten_turns _ o m bars)
  have latched := (record.trans (removeClaims_keepsState _ _)).trans
    (onSky_keepsState (s := s.rewritten o m) (fun e k => k.writeLatch e o m.present) fun e _ =>
      writeLatch_keepsSky e o m.present)
  refine latched.trans (within_keepsState _ ?_)
  split
  · exact ask_turns _ _ _
  · exact .refl _

theorem serveOpeningWrite_keepsState (a b c d e f g h i : Byte) : s.Keeps (serveOpeningWrite a b c d e f g h i s).1 := by
  unfold serveOpeningWrite
  split
  · exact .refl s
  · split
    · exact .refl s
    · split
      · exact .refl s
      · split
        · exact .refl s
        · split
          · exact .refl s
          · next bars =>
            split
            · exact .refl s
            · exact (written_keepsState s _ _ (Bool.eq_false_iff.2 bars)).trans settled_keepsState

theorem endAdmission_keepsState (z : ZoneId) (before after : Zone) (who : Claimant) :
    s.Keeps (s.endAdmission z before after who) := by
  unfold State.endAdmission
  split
  · exact removeClaims_keepsState _ _
  · exact .refl s

theorem serveZoneWrite_keepsState (a b c d e f : Byte) : s.Keeps (serveZoneWrite a b c d e f s).1 := by
  have written (z : ZoneId) (new : Zone) : s.Keeps { s with work := { s.work with zones := put s.work.zones z new } } :=
    .of_eq rfl rfl rfl
  unfold serveZoneWrite
  split
  · exact .refl s
  · split
    · exact .refl s
    · exact (((written _ _).trans (endAdmission_keepsState _ _ _ _ .ventilation)).trans
        (endAdmission_keepsState _ _ _ _ .security)).trans (.of_core rfl rfl (joinAll_turns _ _))

end Requests

/-! ### SETTINGS_WRITE: what each changed setting does at once (R179) -/

section Settings

variable (s : State) (old : Settings)

theorem agingChanged_keepsState : s.Keeps (s.agingChanged old) := by
  unfold State.agingChanged
  split
  · exact agingSweep_keepsState
  · exact .refl s

theorem filterChanged_keepsState (x : RainContact) : s.Keeps (s.filterChanged x) := by
  have retimed (f : RainFilter) : s.Keeps { s with weather := s.weather.setFilter x f } :=
    setWeather_keepsState _ (by cases x <;> rfl)
  unfold State.filterChanged
  dsimp only
  split
  · exact (retimed _).trans (onSky_keepsState _ fun e _ => rainFilterEnds_keepsSky e x)
  · exact retimed _

theorem rainFilterChanged_keepsState : s.Keeps (s.rainFilterChanged old) := by
  unfold State.rainFilterChanged
  split
  · exact .refl s
  · exact (filterChanged_keepsState s .roof).trans (filterChanged_keepsState _ .facade)

theorem dryOutChanged_keepsState : s.Keeps (s.dryOutChanged old) := by
  unfold State.dryOutChanged
  dsimp only
  split
  · exact .refl s
  · split
    · exact (setWeather_keepsState _ rfl).trans (onSky_keepsState _ fun e _ => dryOutEnds_keepsSky e)
    · exact setWeather_keepsState _ rfl

theorem thresholdsChanged_keepsState : s.Keeps (s.thresholdsChanged old) := by
  unfold State.thresholdsChanged
  split
  · exact .refl s
  · exact onSky_keepsState _ fun e _ => evaluate_keepsSky e

theorem standDownChanged_keepsState : s.Keeps (s.standDownChanged old) := by
  unfold State.standDownChanged
  dsimp only
  split
  · exact .refl s
  · split
    · exact (setWeather_keepsState _ rfl).trans (onSky_keepsState _ fun e _ => standDownEnds_keepsSky e)
    · exact setWeather_keepsState _ rfl

theorem ceilingChanged_keepsState : s.Keeps (s.ceilingChanged old) := by
  unfold State.ceilingChanged
  dsimp only
  split
  · exact .of_core rfl rfl (joinAll_turns _ _)
  · exact .refl s

theorem reclaimRetimed_keepsState (g : Segment) : s.Keeps (s.reclaimRetimed g) := by
  unfold State.reclaimRetimed
  dsimp only
  refine within_keepsState _ ?_
  split
  · exact (setHold_turns g _).trans (revoke_turns _ g)
  · exact setHold_turns g _

theorem reclaimChanged_keepsState : s.Keeps (s.reclaimChanged old) := by
  unfold State.reclaimChanged
  split
  · exact .refl s
  · exact (reclaimRetimed_keepsState s .seg0).trans (reclaimRetimed_keepsState _ .seg1)

theorem budgetsChanged_keepsState (old : Content) : s.Keeps (s.budgetsChanged old) := by
  unfold State.budgetsChanged
  split
  · exact .refl s
  · exact budgetChanged_keepsState s

theorem marksChanged_keepsState : s.Keeps (s.marksChanged old) := by
  unfold State.marksChanged
  split
  · exact .refl s
  · exact judgePause_keepsState s

theorem levelsChanged_keepsState : s.Keeps (s.levelsChanged old) := by
  unfold State.levelsChanged
  dsimp only
  split
  · exact .refl s
  · exact judgeSupply_keepsState s

theorem writeSettings_keepsState (new : Settings) : s.Keeps (s.writeSettings new) := by
  have written : s.Keeps { s with work := { s.work with settings := new } } := .of_eq rfl rfl rfl
  have weather := (((written.trans (agingChanged_keepsState _ s.work.settings)).trans
    (rainFilterChanged_keepsState _ s.work.settings)).trans (dryOutChanged_keepsState _ s.work.settings)).trans
      (thresholdsChanged_keepsState _ s.work.settings)
  have holds := ((weather.trans (standDownChanged_keepsState _ s.work.settings)).trans
    (ceilingChanged_keepsState _ s.work.settings)).trans (reclaimChanged_keepsState _ s.work.settings)
  exact (((holds.trans (budgetsChanged_keepsState _ s.work)).trans (marksChanged_keepsState _ s.work.settings)).trans
    (levelsChanged_keepsState _ s.work.settings)).trans settled_keepsState

theorem serveSettingsWrite_keepsState (new : Settings) : s.Keeps (serveSettingsWrite new s).1 := by
  unfold serveSettingsWrite
  split
  · exact .refl s
  · split
    · exact .refl s
    · exact writeSettings_keepsState s new

end Settings

/-! ### Every request, reset and start-up -/

section Commands

variable (s : State)

/-- A request that writes none of the three (R174). -/
theorem serve_leaves_keepsState (r : MasterRequest) (p : Role) (claims : r.writesClaims = false)
    (weather : r.writesWeather = false) (core : r.leavesCore = true) : s.Keeps (r.serve p s).1 := by
  rw [serve_over]
  exact .of_eq (over_claims r _ s claims) (over_weather r _ s weather) (over_core r _ s core)

theorem serve_keepsState (r : MasterRequest) (p : Role) : s.Keeps (r.serve p s).1 := by
  cases r with
  | readOpening b => exact serveReadOpening_keepsState s p b
  | readCounters b => exact serveReadCounters_keepsState s b
  | readEvents => exact setNotices_keepsState p _
  | setMask w => exact serveSetMask_keepsState s p w
  | forceEvent w => exact serveForceEvent_keepsState s p w
  | claim a b x => exact serveClaim_keepsState s p a b x
  | release a b => exact serveRelease_keepsState s p a b
  | advisory a b d => exact serveAdvisory_keepsState s a b d
  | staticSet a b k x => exact serveStaticSet_keepsState s a b k x
  | staticClear a b => exact serveStaticClear_keepsState s a b
  | clearFault b => exact serveClearFault_keepsState s b
  | resync b => exact serveResync_keepsState s b
  | openingWrite => exact serveOpeningWrite_keepsState s _ _ _ _ _ _ _ _ _
  | zoneWrite => exact serveZoneWrite_keepsState s _ _ _ _ _ _
  | settingsWrite x => exact serveSettingsWrite_keepsState s x
  | readBlock | readWeather | readStatus | readStatic | readClaim | zoneRead | settingsRead | save | mode | reset =>
    exact serve_leaves_keepsState s _ p rfl rfl rfl

theorem takeRequest_keepsState (p : Role) (r : MasterRequest) : s.Keeps (s.takeRequest p r) := by
  rcases takeRequest_cases s p r with h | ⟨y, h⟩ | ⟨y, _, h⟩ <;> rw [h]
  · exact .refl s
  · exact .of_eq rfl rfl rfl
  · exact (serve_keepsState s r p).trans (.of_eq rfl rfl rfl)

/-- What the ports and the requests keep, any change reached through them keeps. -/
theorem takeBytes_keepsState {s t : State} (p : Role) (bytes : List RxByte) (h : s.Keeps t) :
    s.Keeps (t.takeBytes p bytes) :=
  takeBytes_keeps s.Keeps (fun _ q f h => h.trans (setPort_keepsState q f))
    (fun _ q r h => h.trans (takeRequest_keepsState _ q r)) t p bytes h

theorem completeFrame_keepsState (p : Role) (frame : List RxByte) : s.Keeps (s.completeFrame p frame).1 :=
  completeFrame_keeps s.Keeps (fun _ q f h => h.trans (setPort_keepsState q f))
    (fun _ q r h => h.trans (takeRequest_keepsState _ q r)) s p frame (.refl s)

theorem takeByte_keepsState (p : Role) (b : RxByte) : s.Keeps (s.takeByte p b).1 :=
  takeByte_keeps s.Keeps (fun _ q f h => h.trans (setPort_keepsState q f))
    (fun _ q r h => h.trans (takeRequest_keepsState _ q r)) s p b (.refl s)

theorem enterReset_keepsState (k : ResetKind) : s.Keeps (s.enterReset k) := .of_core rfl rfl (held_turns k)

/-- The load event leaves each of the three in agreement whatever stood before it (R197). -/
theorem load_keepsState : s.Keeps s.load :=
  ⟨fun _ => load_claimsWf s, fun _ => load_sectorWf s, fun _ => load_latchesWf s,
    fun _ => (drivesWf_iff s.load).1 (load_drivesWf s), fun _ => load_orderWf s⟩

theorem replyLeaves_keepsState (p : Role) : s.Keeps (s.replyLeaves p) := by
  unfold State.replyLeaves
  dsimp only
  split
  · exact (setPort_keepsState p _).trans (enterReset_keepsState _ .soft)
  · exact setPort_keepsState p _

end Commands

/-! ### Every command -/

section Events

variable {s : State}

theorem unlessHeld_keepsState (f : State → State) (h : s.Keeps (f s)) : s.Keeps (s.unlessHeld f) :=
  unlessHeld_keeps f (.refl s) fun _ => h

/-- The expiry of a timer that runs, at its moment. -/
theorem expiry_keepsState (x : Option Timer) (f : State → State)
    (h : x.isSome = true → ∀ m : Nat, (s.atMoment m).Keeps (f (s.atMoment m))) : s.Keeps (s.expiry x f) := by
  unfold State.expiry
  refine unlessHeld_keepsState _ ?_
  cases x with
  | none => exact .refl s
  | some x => exact (State.Keeps.of_eq rfl rfl rfl : s.Keeps (s.atMoment x.deadline)).trans (h rfl _)

theorem coreEvent_keepsState (f : Env → Core → Core) (h : ∀ e : Env, s.core.Keeps (f e s.core)) :
    s.Keeps (s.coreEvent f) :=
  unlessHeld_keepsState _ ((within_keepsState f (h _)).trans settled_keepsState)

theorem coreExpiry_keepsState (x : Option Timer) (f : Env → Core → Core)
    (h : ∀ e : Env, x.isSome = true → s.core.Keeps (f e s.core)) : s.Keeps (s.coreExpiry x f) :=
  expiry_keepsState x _ fun running m =>
    (within_keepsState (s := s.atMoment m) f (h _ running)).trans settled_keepsState

theorem skyExpiry_keepsState (x : Option Timer) (f : Env → Sky → Sky) (h : ∀ (e : Env) (k : Sky), k.Keeps (f e k)) :
    s.Keeps (s.skyExpiry x f) :=
  expiry_keepsState x _ fun _ _ => (onSky_keepsState f h).trans settled_keepsState

end Events

/-- The state a command answers is the one it is given. -/
theorem next_keepsState {s t u : State} (h : (Host.Outcome.next u : Result) = .next t) (w : s.Keeps u) : s.Keeps t := by
  cases h; exact w

/-- Every command keeps the Dynamic Claim Table, the weather and the drive core in agreement. -/
theorem exec_keepsState (i : Instr) (s t : State) (h : exec i s = .next t) : s.Keeps t := by
  have input (x : Inputs) : s.Keeps { s with inputs := x } := .of_eq rfl rfl rfl
  cases i with
  | readOpening | readBlock | readWeather | readStatus | readEvents | setMask | forceEvent | claim | release | advisory
  | staticSet | staticClear | readStatic | readClaim | zoneRead | readCounters | clearFault | resync | openingWrite
  | zoneWrite | settingsWrite | settingsRead | save | mode | reset =>
    exact next_keepsState h (takeRequest_keepsState s _ _)
  | requestFrameArrival p frame =>
    exact next_keepsState h (unlessHeld_keepsState _ (takeBytes_keepsState p _ (completeFrame_keepsState s p frame)))
  | byteReceived p b =>
    exact next_keepsState h (unlessHeld_keepsState _ (takeBytes_keepsState p _ (takeByte_keepsState s p b)))
  | frameGapTimeout p => exact next_keepsState h (unlessHeld_keepsState _ (setPort_keepsState p _))
  | replySent p => exact next_keepsState h (unlessHeld_keepsState _ (replyLeaves_keepsState s p))
  | powerOnReset | resetPinAssert => exact next_keepsState h (enterReset_keepsState s _)
  | logicSupplyFall micros =>
    refine next_keepsState h ?_
    split
    · exact enterReset_keepsState s _
    · exact .refl s
  | loadEvent =>
    refine next_keepsState h ?_
    split
    · exact load_keepsState s
    · exact .refl s
  | noticeEvent =>
    refine next_keepsState h ?_
    split
    · exact .of_core rfl rfl (hand_turns .startUp)
    · exact .refl s
    · exact .refl s
  | saveCompletion intact =>
    refine next_keepsState h (unlessHeld_keepsState _ ?_)
    split
    · exact .of_core rfl rfl (hand_turns _)
    · exact .refl s
  | rainContactChange x raw =>
    refine next_keepsState h ((input _).trans (unlessHeld_keepsState _ ?_))
    exact setWeather_keepsState _ (by cases x <;> rfl)
  | mainsLineChange raw =>
    exact next_keepsState h ((input _).trans (unlessHeld_keepsState _ (.of_eq rfl rfl rfl)))
  | anemometerPulse micros =>
    refine next_keepsState h (unlessHeld_keepsState _ ?_)
    split
    · exact setWeather_keepsState _ rfl
    · exact .refl s
  | rainFilterExpiry x => exact next_keepsState h (skyExpiry_keepsState _ _ fun e _ => rainFilterEnds_keepsSky e x)
  | dryOutExpiry => exact next_keepsState h (skyExpiry_keepsState _ _ fun e _ => dryOutEnds_keepsSky e)
  | gustWindowEnd => exact next_keepsState h (skyExpiry_keepsState _ _ fun e _ => gustEnds_keepsSky e)
  | warmUpExpiry => exact next_keepsState h (skyExpiry_keepsState _ _ fun e _ => warmUpEnds_keepsSky e)
  | stabilityTimerExpiry => exact next_keepsState h (skyExpiry_keepsState _ _ fun e _ => sectorSettles_keepsSky e)
  | advisoryMinuteMark => exact next_keepsState h (skyExpiry_keepsState _ _ fun e _ => minuteMark_keepsSky e)
  | standDownExpiry => exact next_keepsState h (skyExpiry_keepsState _ _ fun e _ => standDownEnds_keepsSky e)
  | vaneChange lines =>
    refine next_keepsState h ?_
    split
    · exact .refl s
    · exact (input _).trans (unlessHeld_keepsState _ ((onSky_keepsState _ fun e _ => vaneReads_keepsSky e _).trans
        settled_keepsState))
  | agingSweep => exact next_keepsState h (expiry_keepsState _ _ fun _ _ => agingSweep_keepsState)
  | resolveOpening => exact next_keepsState h (coreEvent_keepsState _ fun e => resolveNext_turns e _)
  | startWalk => exact next_keepsState h (coreEvent_keepsState _ fun e => startWalk_turns e)
  | nodeFrameSent g => exact next_keepsState h (coreEvent_keepsState _ fun e => frameSent_turns e g)
  | nodeReply g r => exact next_keepsState h (coreEvent_keepsState _ fun e => replyArrives_turns e g r)
  | nodeReplyBusy g a => exact next_keepsState h (coreEvent_keepsState _ fun e => busyArrives_turns e g a)
  | invalidNodeFrame g bytes gap =>
    exact next_keepsState h (coreEvent_keepsState _ fun e => frameArrives_turns e g bytes gap)
  | turnaroundEnd g => exact next_keepsState h (coreExpiry_keepsState _ _ fun _ _ => setSegment_turns g _)
  | replyWindowExpiry g => exact next_keepsState h (coreExpiry_keepsState _ _ fun e _ => windowEnds_turns e g)
  | runLimitExpiry i => exact next_keepsState h (coreExpiry_keepsState _ _ fun e _ => runLimitEnds_turns e i)
  | orphanHoldEnd i => exact next_keepsState h (coreExpiry_keepsState _ _ fun e runs => orphanTimer_turns e i runs)
  | restTimerExpiry o => exact next_keepsState h (coreExpiry_keepsState _ _ fun _ runs => restTimer_turns o runs)
  | dwellTimerExpiry o => exact next_keepsState h (coreExpiry_keepsState _ _ fun _ runs => dwellTimer_turns o runs)
  | progressPollTimerExpiry i => exact next_keepsState h (coreExpiry_keepsState _ _ fun e _ => progressDue_turns e i)
  | idlePollRound g => exact next_keepsState h (coreExpiry_keepsState _ _ fun e _ => pollRound_turns e g)
  | followPollTimerExpiry o =>
    exact next_keepsState h (coreExpiry_keepsState _ _ fun e _ => (setLive_turns o _ rfl).trans (ask_turns e o _))
  | enrollmentRetry o =>
    exact next_keepsState h (coreExpiry_keepsState _ _ fun e _ => (setLive_turns o _ rfl).trans (ask_turns e o _))
  | reProbeTimerExpiry o => exact next_keepsState h (coreExpiry_keepsState _ _ fun e _ => reProbeDue_turns e o)
  | holdreqChange g raw =>
    exact next_keepsState h ((input _).trans (unlessHeld_keepsState _ (.of_core rfl rfl (setHold_turns g _))))
  | holdreqFilterExpiry g => exact next_keepsState h (coreExpiry_keepsState _ _ fun e _ => holdreqSettles_turns e g)
  | reclaimTimerExpiry g => exact next_keepsState h (coreExpiry_keepsState _ _ fun e _ => revoke_turns e g)
  | returningTimerExpiry g => exact next_keepsState h (coreExpiry_keepsState _ _ fun e _ => returned_turns e g)
  | motorVoltageChange v =>
    exact next_keepsState h ((input _).trans (unlessHeld_keepsState _ ((judgeSupply_keepsState _).trans settled_keepsState)))
  | rideThroughExpiry =>
    exact next_keepsState h (expiry_keepsState _ _ fun _ _ => (enterSupply_keepsState _ .out).trans settled_keepsState)
  | mainsFilterExpiry => exact next_keepsState h (expiry_keepsState _ _ fun _ _ => mainsChanges_keepsState _)
  | measuredCurrentChange n =>
    exact next_keepsState h ((input _).trans (unlessHeld_keepsState _ ((judgePause_keepsState _).trans
      (judgeTrip_keepsState _))))
  | pauseLimitExpiry => exact next_keepsState h (expiry_keepsState _ _ fun _ _ => pauseLimitEnds_keepsState _)
  | tripTimerExpiry =>
    exact next_keepsState h (expiry_keepsState _ _ fun _ _ => (tripEnds_keepsState _).trans settled_keepsState)

/-- A step lets a millisecond pass or runs a command. -/
theorem step_keepsState (s t : State) (h : step s = .next t) : s.Keeps t := by
  unfold step at h
  split at h
  · exact next_keepsState h (.of_eq rfl rfl rfl)
  · next _ rest _ =>
    exact (State.Keeps.of_eq rfl rfl rfl : s.Keeps { s with pending := rest }).trans (exec_keepsState _ _ t h)

end Sys2Proof.Machine

open Sys2Proof Sys2Proof.Machine

/-- Settles O55: every command keeps the table, the aging sweep removing age 3 before it ages the rest. -/
theorem stepKeepsTheClaimTable : Obligations.StepKeepsTheClaimTable := fun s t w h => (step_keepsState s t h).claims w

/-- Settles O57: the arc is derived wherever the vane or the stable sector changes, and a latch is set at CLOSE_EXPOSED
and CLOSE_ALL only. -/
theorem stepKeepsWeatherInAgreement : Obligations.StepKeepsWeatherInAgreement :=
  ⟨fun s t w h => (step_keepsState s t h).sky.sector w, fun s t w h => (step_keepsState s t h).sky.latches w⟩

/-- Settles O60: every operation of the drive core is made of changes that carry the agreement over while an opening is
in transit from one state to the next. -/
theorem stepKeepsDrivesInAgreement : Obligations.StepKeepsDrivesInAgreement :=
  ⟨fun s t w h => (drivesWf_iff t).2 ((step_keepsState s t h).sky.core.drives ((drivesWf_iff s).1 w)),
    fun s t w h => (step_keepsState s t h).sky.core.order w⟩

end

section
/-! SUPPORT. The fields and the verdicts of the requests that read and write the Dynamic Claim Table, by the bytes that
spell their operands (R28 to R32, R37); the statements on them. -/

namespace Sys2Proof.Machine

/-! ### Bytes and ports -/

/-- A request for the Service port alone is permitted from no other. -/
theorem permits_serviceOnly {r : MasterRequest} (h : ∀ q : Role, r.permits q = decide (q = .service)) {p : Role}
    (hp : p ≠ .service) : r.permits p = false := by rw [h p, decide_eq_false hp]

/-- The bytes that spell a scope read back as it (R30, R200). -/
theorem claimScopeOf_spelled {scope subject : Byte} {k : ClaimScope} (h : spellsScope scope subject k) :
    claimScopeOf scope subject = .ok k := by
  cases k with
  | opening o =>
    obtain ⟨rfl, named⟩ := h
    simp [claimScopeOf, finOf?_eq_some 128 _ o named]
  | zone z =>
    obtain ⟨rfl, named⟩ := h
    simp [claimScopeOf, finOf?_eq_some 16 _ z named]
  | all =>
    cases h
    rfl

theorem positionOf?_of_le {b : Byte} (h : b.toNat ≤ 100) : positionOf? b = some b.toNat := if_pos h

theorem positionOf?_of_lt {b : Byte} (h : 100 < b.toNat) : positionOf? b = none := if_neg (Nat.not_le.2 h)

/-! ### ZONE_READ and READ_CLAIM -/

theorem serveZoneRead_named (b : Byte) (z : ZoneId) (s : State) (h : b.toNat = z.val) :
    serveZoneRead b s = (s, .ok (s.zoneBytes z)) := by
  simp only [serveZoneRead, finOf?_eq_some 16 b.toNat z h]

theorem serveZoneRead_outOfRange (b : Byte) (s : State) (h : 16 ≤ b.toNat) :
    serveZoneRead b s = (s, .outOfRange 1) := by
  simp only [serveZoneRead, finOf?_eq_none 16 b.toNat h]

theorem serveReadClaim_named (b : Byte) (i : Fin 192) (s : State) (h : b.toNat = i.val) :
    serveReadClaim b s = (s, .ok (claimBytes (look s.claims.slots i) ++ [byteOf s.claims.occupied])) := by
  simp only [serveReadClaim, finOf?_eq_some 192 b.toNat i h]

theorem serveReadClaim_outOfRange (b : Byte) (s : State) (h : 192 ≤ b.toNat) :
    serveReadClaim b s = (s, .outOfRange 1) := by
  simp only [serveReadClaim, finOf?_eq_none 192 b.toNat h]

/-! ### CLAIM (R30, R31) -/

/-- The present openings a scope covers (R48). -/
theorem mem_coveredBy (s : State) (k : ClaimScope) (o : OpeningId) : o ∈ s.env.coveredBy k ↔ s.covered k o := by
  cases k with
  | opening p =>
    unfold Env.coveredBy State.covered
    dsimp only
    by_cases h : (s.env.com p).present = true
    · rw [if_pos h, List.mem_singleton]
      exact ⟨fun e => by subst e; exact ⟨h, rfl⟩, fun ⟨_, e⟩ => e.symm⟩
    · rw [if_neg h]
      refine iff_of_false List.not_mem_nil ?_
      rintro ⟨present, rfl⟩
      exact h present
  | zone z =>
    simp only [Env.coveredBy, Env.present, State.covered, List.mem_filter, mem_allOpenings, true_and, decide_eq_true_eq]
    rfl
  | all => simp [Env.coveredBy, Env.present, State.covered, Env.com, State.env]

theorem scopeAbsent_opening (s : State) (o : OpeningId) :
    s.env.scopeAbsent (.opening o) = !(look s.work.openings o).present := rfl

theorem claimBarred_opening (s : State) (who : Claimant) (o : OpeningId) : s.env.claimBarred who (.opening o) =
    if !(look s.work.zones (look s.work.openings o).zone).valid then some .zoneInvalid
    else if !(look s.work.zones (look s.work.openings o).zone).admits who then some .notAdmitted else none := rfl

theorem claimBarred_zone (s : State) (who : Claimant) (z : ZoneId) : s.env.claimBarred who (.zone z) =
    if !(look s.work.zones z).valid then some .zoneInvalid
    else if !(look s.work.zones z).admits who then some .notAdmitted else none := rfl

/-- A zone that admits a claimant is valid (R25). -/
theorem valid_of_admits {z : Zone} {who : Claimant} (h : z.admits who = true) : z.valid = true :=
  (Bool.and_eq_true_iff.1 h).1

/-- A CLAIM that passes checks 2 to 4 of R30. -/
theorem admitsClaim_passes {s : State} {who : Claimant} {k : ClaimScope} (h : s.admitsClaim who k) :
    s.env.scopeAbsent k = false ∧ s.env.claimBarred who k = none := by
  cases k with
  | opening o =>
    obtain ⟨present, admits⟩ := h
    rw [scopeAbsent_opening, claimBarred_opening, present, admits, valid_of_admits admits]
    exact ⟨rfl, rfl⟩
  | zone z =>
    have admits : (look s.work.zones z).admits who = true := h
    rw [claimBarred_zone, admits, valid_of_admits admits]
    exact ⟨rfl, rfl⟩
  | all => exact ⟨rfl, rfl⟩

/-- CLAIM past its range checks. -/
theorem serveClaim_spelled (p : Role) {scope subject position : Byte} {k : ClaimScope} (s : State)
    (h : spellsScope scope subject k) (hp : position.toNat ≤ 100) :
    serveClaim p scope subject position s = s.placeClaim (claimantOf p) k position.toNat := by
  simp only [serveClaim, claimScopeOf_spelled h, positionOf?_of_le hp]

section Placed

variable {s : State} {who : Claimant} {k : ClaimScope} (position : Nat)

/-- A state with an entry in a slot of the Dynamic Claim Table, and openings placed in the pending-resolution set. -/
def State.withClaim (s : State) (i : Fin 192) (x : Option Claim) (c : Core) : State :=
  { s with claims := { s.claims with slots := put s.claims.slots i x }, core := c }

/-- A key no slot holds takes the lowest empty one (R31). -/
theorem placeClaim_adds (admits : s.admitsClaim who k) (lacks : s.claims.lacks who k) {i : Fin 192}
    (empty : lowestEmpty s.claims.slots i) : s.placeClaim who k position =
      (s.withClaim i (some ⟨who, k, position, 0⟩) (s.core.joinAll (s.env.coveredBy k)), .ok [byteOf i.val, 0]) := by
  obtain ⟨present, allowed⟩ := admitsClaim_passes admits
  obtain ⟨free, below⟩ := empty
  have first : lowest s.claims.slots Option.isNone = some i := by
    refine lowest_eq_some _ _ i (by rw [free]; rfl) fun j hj => ?_
    have occupied := below j hj
    cases h : look s.claims.slots j <;> simp [h] at occupied ⊢
  simp only [State.placeClaim, present, allowed, (lowest_eq_none _ _).2 lacks, first]
  rfl

/-- A key no slot holds is refused where every slot is occupied (R31). -/
theorem placeClaim_full (admits : s.admitsClaim who k) (lacks : s.claims.lacks who k)
    (full : ∀ i : Fin 192, (look s.claims.slots i).isSome = true) :
    s.placeClaim who k position = (s, .refused .tableFull) := by
  obtain ⟨present, allowed⟩ := admitsClaim_passes admits
  have none : lowest s.claims.slots Option.isNone = none := (lowest_eq_none _ _).2 fun j => by
    have occupied := full j
    cases h : look s.claims.slots j <;> simp [h] at occupied ⊢
  simp only [State.placeClaim, present, allowed, (lowest_eq_none _ _).2 lacks, none]
  rfl

/-- The slot that holds a key is the one found for it. -/
theorem lowest_hasKey (w : ClaimsWf s) {i : Fin 192} {x : Claim} (hx : look s.claims.slots i = some x)
    (hwho : x.claimant = who) (hscope : x.scope = k) : lowest s.claims.slots (hasKey who k) = some i := by
  obtain ⟨_, _, unique⟩ := w i x hx
  refine lowest_eq_of_unique _ _ i (by simp [hasKey, hx, hwho, hscope]) fun j hj => ?_
  obtain ⟨y, hy, key⟩ := (Option.any_eq_true _ _).1 hj
  obtain ⟨ywho, yscope⟩ : y.claimant = who ∧ y.scope = k := by simpa using key
  exact (unique j y hy (ywho.trans hwho.symm) (yscope.trans hscope.symm)).symm

/-- A key that a slot holds is refreshed in it; its openings are resolved again where the position moved (R31). -/
theorem placeClaim_refreshes (admits : s.admitsClaim who k) (w : ClaimsWf s) {i : Fin 192} {x : Claim}
    (hx : look s.claims.slots i = some x) (hwho : x.claimant = who) (hscope : x.scope = k) :
    s.placeClaim who k position = (s.withClaim i (some ⟨who, k, position, 0⟩)
      (if decide (x.position ≠ position) then s.core.joinAll (s.env.coveredBy k) else s.core), .ok [byteOf i.val, 1]) := by
  obtain ⟨present, allowed⟩ := admitsClaim_passes admits
  simp only [State.placeClaim, present, allowed, lowest_hasKey w hx hwho hscope, hx, Option.any_some]
  rfl

end Placed

/-! ### RELEASE (R32) -/

section Released

variable (p : Role) {scope subject : Byte} {k : ClaimScope} {s : State} (h : spellsScope scope subject k)
include h

theorem serveRelease_absent (absent : s.env.scopeAbsent k = true) :
    serveRelease p scope subject s = (s, .refused .noSuchOpening) := by
  simp only [serveRelease, claimScopeOf_spelled h, absent, if_true]

theorem serveRelease_lacks (present : s.env.scopeAbsent k = false) (lacks : s.claims.lacks (claimantOf p) k) :
    serveRelease p scope subject s = (s, .refused .notFound) := by
  simp only [serveRelease, claimScopeOf_spelled h, present, Bool.false_eq_true, if_false, (lowest_eq_none _ _).2 lacks]

theorem serveRelease_held (present : s.env.scopeAbsent k = false) {i : Fin 192}
    (held : lowest s.claims.slots (hasKey (claimantOf p) k) = some i) :
    serveRelease p scope subject s = (s.withClaim i none (s.core.joinAll (s.env.coveredBy k)), .ok []) := by
  simp only [serveRelease, claimScopeOf_spelled h, present, Bool.false_eq_true, if_false, held, State.withClaim]

end Released

/-- A scope that names no absent record. -/
theorem scopeAbsent_false {s : State} {k : ClaimScope}
    (h : ∀ o : OpeningId, k = .opening o → (look s.work.openings o).present = true) : s.env.scopeAbsent k = false := by
  cases k with
  | opening o => rw [scopeAbsent_opening, h o rfl]; rfl
  | zone | all => rfl

/-- Openings joined change the pending-resolution set alone. -/
theorem joinAll_rest (os : List OpeningId) (c : Core) : (c.joinAll os).openings = c.openings ∧
    (c.joinAll os).queue = c.queue ∧ (c.joinAll os).slots = c.slots ∧ (c.joinAll os).notices = c.notices := by
  rw [joinAll_eq]
  exact ⟨rfl, rfl, rfl, rfl⟩

end Sys2Proof.Machine

open Sys2Proof Sys2Proof.Machine

/-- Settles O11: ZONE_READ by the zone number and by the port. -/
theorem zoneReadReturnsTheRecord : Obligations.ZoneReadReturnsTheRecord := by
  intro b s
  refine ⟨fun ht z hz => ?_, fun ht hb => ?_, fun p hp ht => ?_⟩
  · exact exec_served (.zoneRead b) .service s _ _ ht rfl (serveZoneRead_named b z s hz)
  · exact exec_served (.zoneRead b) .service s _ _ ht rfl (serveZoneRead_outOfRange b s hb)
  · exact exec_forbidden (.zoneRead b) p s ht (permits_serviceOnly (fun _ => rfl) hp)

/-- Settles O12: READ_CLAIM by the slot number, its contents and the port. -/
theorem readClaimReturnsTheSlot : Obligations.ReadClaimReturnsTheSlot := by
  intro b s
  refine ⟨fun ht i hi => ?_, fun ht hb => ?_, fun p hp ht => ?_⟩
  · have read := exec_served (.readClaim b) .service s _ _ ht rfl (serveReadClaim_named b i s hi)
    refine ⟨fun x hx => ?_, fun hx => ?_⟩
    · rw [hx] at read
      exact read
    · rw [hx] at read
      exact read
  · exact exec_served (.readClaim b) .service s _ _ ht rfl (serveReadClaim_outOfRange b s hb)
  · exact exec_forbidden (.readClaim b) p s ht (permits_serviceOnly (fun _ => rfl) hp)

/-- Settles O15: a key that no slot holds, with a slot free and without. -/
theorem claimAddsAnEntry : Obligations.ClaimAddsAnEntry := by
  intro p scope subject position k s hp ht spelled range admits lacks
  have served := serveClaim_spelled p s spelled range
  refine ⟨fun i empty => ?_, fun full => ?_⟩
  · obtain ⟨openings, queue, slots, notices⟩ := joinAll_rest (s.env.coveredBy k) s.core
    refine ⟨_, exec_served (.claim scope subject position) p s _ _ ht (decide_eq_true hp)
      (served.trans (placeClaim_adds _ admits lacks empty)), rfl, fun o => ?_, openings, queue, slots, notices, rfl⟩
    exact (mem_joinAll _ _ _).trans (or_congr .rfl (mem_coveredBy s k o))
  · exact exec_served (.claim scope subject position) p s _ _ ht (decide_eq_true hp)
      (served.trans (placeClaim_full _ admits lacks full))

/-- Settles O16: a key that a slot holds; the table's keys are unique, so the slot is the one found. -/
theorem claimRefreshesAnEntry : Obligations.ClaimRefreshesAnEntry := by
  intro p scope subject position k i x s hp ht wf spelled range admits hx hwho hscope
  obtain ⟨openings, queue, slots, notices⟩ := joinAll_rest (s.env.coveredBy k) s.core
  have served := (serveClaim_spelled p s spelled range).trans
    (placeClaim_refreshes position.toNat admits wf hx hwho hscope)
  refine ⟨_, exec_served (.claim scope subject position) p s _ _ ht (decide_eq_true hp) served, ?_, fun same => ?_,
    fun moved o => ?_, ?_, ?_, ?_, ?_, rfl⟩
  · rw [← hwho, ← hscope]
    rfl
  · simp [State.withClaim, same]
  · simp only [State.withClaim, moved, ne_eq, not_false_eq_true, decide_true, if_true, mem_joinAll]
    exact or_congr .rfl (mem_coveredBy s k o)
  · dsimp only [State.withClaim]
    split
    · exact openings
    · rfl
  · dsimp only [State.withClaim]
    split
    · exact slots
    · rfl
  · dsimp only [State.withClaim]
    split
    · exact queue
    · rfl
  · dsimp only [State.withClaim]
    split
    · exact notices
    · rfl

/-- Settles O17: the checks of R30 in their order, for a claim on an opening. -/
theorem claimRefusalsInOrder : Obligations.ClaimRefusalsInOrder := by
  intro p subject position o s hp ht named
  have spelled : spellsScope 0 subject (.opening o) := ⟨rfl, named⟩
  have sent (t : State) (v : Verdict) (h : serveClaim p 0 subject position s = (t, v)) :
      exec (.claim p 0 subject position) s = .next (t.sending p (v.reply 8)) :=
    exec_served (.claim 0 subject position) p s t v ht (decide_eq_true hp) h
  refine ⟨fun far => sent s (.outOfRange 3) ?_, fun range => ?_⟩
  · simp only [serveClaim, claimScopeOf_spelled spelled, positionOf?_of_lt far]
  · have served := serveClaim_spelled p s spelled range
    refine ⟨fun absent => sent s (.refused .noSuchOpening) (served.trans ?_), fun present =>
      ⟨fun invalid => sent s (.refused .zoneInvalid) (served.trans ?_),
        fun valid barred => sent s (.refused .notAdmitted) (served.trans ?_)⟩⟩
    · simp [State.placeClaim, scopeAbsent_opening, absent]
    · simp [State.placeClaim, scopeAbsent_opening, claimBarred_opening, present, invalid]
    · simp [State.placeClaim, scopeAbsent_opening, claimBarred_opening, present, valid, barred]

/-- Settles O18: RELEASE of an absent record, of a key no slot holds, and of an entry. -/
theorem releaseEmptiesTheSlot : Obligations.ReleaseEmptiesTheSlot := by
  intro p scope subject k s hp ht spelled
  have sent (t : State) (v : Verdict) (h : serveRelease p scope subject s = (t, v)) :
      exec (.release p scope subject) s = .next (t.sending p (v.reply 9)) :=
    exec_served (.release scope subject) p s t v ht (decide_eq_true hp) h
  refine ⟨fun o ho absent => sent s _ (serveRelease_absent p spelled ?_), fun present =>
    ⟨fun lacks => sent s _ (serveRelease_lacks p spelled (scopeAbsent_false present) lacks),
      fun i x wf hx hwho hscope => ?_⟩⟩
  · rw [ho, scopeAbsent_opening, absent]
    rfl
  · obtain ⟨openings, _, slots, notices⟩ := joinAll_rest (s.env.coveredBy k) s.core
    have served := serveRelease_held p spelled (scopeAbsent_false present) (lowest_hasKey wf hx hwho hscope)
    refine ⟨_, sent _ _ served, rfl, fun o => ?_, openings, slots, notices⟩
    exact (mem_joinAll _ _ _).trans (or_congr .rfl (mem_coveredBy s k o))

end

section
/-! SUPPORT. The pending-resolution set loses no opening in a stop, a pass, a hold's change and at the end of an event; what
an evaluation and a derived arc make of the level, the latches and that set (R55, R60 to R70). -/

namespace Sys2Proof.Machine

/-! ### Changes that lose no opening of the pending-resolution set -/

/-- Every opening of the pending-resolution set is still in it. -/
def Core.Widens (c d : Core) : Prop := c.resolveSet ⊆ d.resolveSet

section Widens

variable {c d : Core} (e : Env) (o : OpeningId) (g : Segment)

theorem Core.Widens.refl (c : Core) : c.Widens c := List.Subset.refl _

theorem Core.Widens.trans {b : Core} (h : c.Widens d) (k : d.Widens b) : c.Widens b := List.Subset.trans h k

/-- A change of other parts of the drive core. -/
theorem Core.Widens.of_eq (h : d.resolveSet = c.resolveSet) : c.Widens d := fun _ hq => h.symm ▸ hq

theorem join_widens : c.Widens (c.join o) := fun _ hq => (mem_insertAscending o _ _).2 (.inr hq)

theorem joinAll_widens (os : List OpeningId) : c.Widens (c.joinAll os) := fun _ hq => (mem_joinAll os c _).2 (.inl hq)

theorem enterIdle_widens : c.Widens (c.enterIdle o) := join_widens o

theorem enterResting_widens : c.Widens (c.enterResting e o) := by
  unfold Core.enterResting
  split
  · exact enterIdle_widens o
  · exact .refl c

theorem takeFailure_widens (f : Failure) : c.Widens (c.takeFailure e o f) := by
  have counted : c.Widens (c.setLive o fun l => { l.countFailure f with failureCount := l.failureCount + 1 }) := .refl c
  unfold Core.takeFailure
  dsimp only
  split
  · exact .refl c
  · cases f with
    | obstruction => exact .refl c
    | cutOff | failedStart => exact counted.trans (enterResting_widens e o)

theorem afterRetarget_widens : c.Widens (c.afterRetarget e o) := by
  unfold Core.afterRetarget
  split
  · split
    · exact enterIdle_widens o
    · exact .refl c
  · exact .refl c

theorem afterShedOrHold_widens (cls : JobClass) : c.Widens (c.afterShedOrHold e o cls) := by
  unfold Core.afterShedOrHold
  split
  · split
    · exact enterIdle_widens o
    · exact .refl c
  · exact enterIdle_widens o

theorem completeStop_widens : c.Widens (c.completeStop o) := join_widens o

theorem settleStop_widens (cause : StopCause) (cls : JobClass) (out : DriveOutcome) :
    c.Widens (c.settleStop e o cause cls out) := by
  cases out with
  | none =>
    cases cause with
    | retarget => exact afterRetarget_widens e o
    | cutoff => exact takeFailure_widens e o .cutOff
    | lockout => exact .refl c
    | shed | hold => exact afterShedOrHold_widens e o cls
  | reached =>
    cases cause with
    | retarget => exact (completeStop_widens o).trans (afterRetarget_widens e o)
    | lockout => exact completeStop_widens o
    | cutoff | shed | hold => exact (completeStop_widens o).trans (enterIdle_widens o)
  | stalled =>
    cases cause with
    | lockout => exact .refl c
    | retarget | cutoff | shed | hold => exact takeFailure_widens e o .cutOff
  | obstructed =>
    cases cause with
    | lockout => exact .refl c
    | retarget | cutoff | shed | hold => exact takeFailure_widens e o .obstruction

theorem confirmStop_widens (locked : Option Bool) (out : DriveOutcome) : c.Widens (c.confirmStop e o locked out) := by
  unfold Core.confirmStop
  split
  · exact .refl c
  · next i _ =>
    split
    · exact .refl c
    · exact (Core.Widens.of_eq (freeSlot_resolveSet e i c)).trans (settleStop_widens e o _ _ _)

theorem requestStop_widens (cause : StopCause) : c.Widens (c.requestStop e o cause) := by
  have stopping : c.Widens (c.setLive o fun l => { l with state := .stopping, stopCause := some cause }) := .refl c
  unfold Core.requestStop
  split
  · split
    · exact .refl c
    · dsimp only
      split
      · exact stopping.trans (confirmStop_widens e o none .none)
      · exact .refl c
  · exact .refl c
  · exact .refl c

theorem startDuePass_widens : c.Widens (c.startDuePass e g) := by
  unfold Core.startDuePass
  split
  · exact .of_eq (startPass_starts e g c).resolveSet
  · exact .refl c

theorem tryRelease_widens : c.Widens (c.tryRelease e g) := by
  unfold Core.tryRelease
  dsimp only
  split
  · exact enterReleasing_keeps e g c c.Widens (.refl c) fun _ o h => h.trans (requestStop_widens e o .hold)
  · exact .refl c

theorem holdAtCloseAll_widens : c.Widens (c.holdAtCloseAll e g) := by
  unfold Core.holdAtCloseAll
  split
  · exact .refl c
  · exact Core.Widens.trans (d := (c.setHold g fun h => { h with state := .owned }).trigger) (.refl c)
      (startDuePass_widens e g)
  · exact .refl c
  · exact .refl c

theorem holdBelowCloseAll_widens : c.Widens (c.holdBelowCloseAll e g) := by
  unfold Core.holdBelowCloseAll
  split
  · exact .refl c
  · exact tryRelease_widens e g

theorem suspendPass_resolveSet (c : Core) : (c.suspendPass g).resolveSet = c.resolveSet := by
  unfold Core.suspendPass
  split <;> rfl

theorem finishRelease_widens : c.Widens (c.finishRelease e g) := by
  unfold Core.finishRelease
  dsimp only
  split
  · split
    · split
      · exact .of_eq (suspendPass_resolveSet g _)
      · exact .refl c
    · refine Core.Widens.trans (d := (c.setHold g fun h => { h with state := .owned }).trigger) (.refl c) ?_
      exact (startDuePass_widens e g).trans (tryRelease_widens e g)
  · exact .refl c

theorem passUpkeep_widens : c.Widens (c.passUpkeep e g) := by
  unfold Core.passUpkeep
  dsimp only
  repeat' split
  all_goals exact .refl c

theorem send_widens (r : Request) : c.Widens (c.send e g r) := by
  unfold Core.send
  dsimp only
  split <;> exact .refl c

theorem arbitrate_widens : c.Widens (c.arbitrate e g) := by
  have chosen (o : Option Request) : c.Widens (match o with | some r => c.send e g r | none => c) := by
    cases o with
    | none => exact .refl c
    | some r => exact send_widens e g r
  unfold Core.arbitrate
  split
  · split
    · exact chosen _
    · exact chosen _
    · exact .refl c
    · exact .refl c
  · exact .refl c

theorem driveReclaim_widens : c.Widens (c.driveReclaim g) := .refl c

theorem noteBuilding_widens : c.Widens (c.noteBuilding e) := by
  unfold Core.noteBuilding
  dsimp only
  split <;> exact .refl c

theorem concluded_widens : c.Widens (c.concluded e) := by
  have tidied : c.Widens (((c.tidyRequests e .seg0).tidyRequests e .seg1).tidyFollow e) := .refl c
  have released := (tidied.trans (finishRelease_widens e .seg0)).trans (finishRelease_widens e .seg1)
  have kept := (released.trans (passUpkeep_widens e .seg0)).trans (passUpkeep_widens e .seg1)
  have sent := (kept.trans (arbitrate_widens e .seg0)).trans (arbitrate_widens e .seg1)
  exact (sent.trans (driveReclaim_widens .seg0)).trans (driveReclaim_widens .seg1)

/-- The end of an event takes no opening out of the pending-resolution set (log entry 12). -/
theorem settle_widens : c.Widens (c.settle e) := (concluded_widens e).trans (noteBuilding_widens e)

end Widens

/-! ### Latches (R68, R69) -/

/-- The latches with those of every opening exposed at a level and an arc set. -/
def latchedAt (work : Content) (level : Level) (arc : BitVec 8) (latches : Vector Bool 128) : Vector Bool 128 :=
  tabulate fun o => look latches o || exposed work level arc o

/-- A change that loses no opening of the pending-resolution set and puts every newly latched one into it. -/
structure Sky.Joins (k m : Sky) : Prop where
  widens : k.core.Widens m.core
  latched : ∀ o : OpeningId, look k.weather.latches o = false → look m.weather.latches o = true → o ∈ m.core.resolveSet

section Latches

variable {k m : Sky} (e : Env)

theorem Sky.Joins.trans {n : Sky} (h : k.Joins m) (g : m.Joins n) : k.Joins n := by
  refine ⟨h.widens.trans g.widens, fun o clear set => ?_⟩
  cases latch : look m.weather.latches o with
  | false => exact g.latched o latch set
  | true => exact g.widens (h.latched o clear latch)

/-- A change that sets no latch. -/
theorem Sky.Joins.of_latches (h : m.weather.latches = k.weather.latches) (widens : k.core.Widens m.core) : k.Joins m :=
  ⟨widens, fun o clear set => by simp [h, clear] at set⟩

theorem Sky.Joins.refl (k : Sky) : k.Joins k := .of_latches rfl (.refl _)

theorem setLatch_weather (o : OpeningId) :
    (k.setLatch e o).weather = { k.weather with latches := put k.weather.latches o true } := by
  unfold Sky.setLatch
  split
  · next h => rw [show put k.weather.latches o true = k.weather.latches by rw [← h, put_look]]
  · rfl

theorem setLatch_joins (o : OpeningId) : k.Joins (k.setLatch e o) := by
  have weather := setLatch_weather (k := k) e o
  have joined : look k.weather.latches o = false → (k.setLatch e o).core.resolveSet = (k.core.join o).resolveSet := by
    intro clear
    unfold Sky.setLatch
    rw [if_neg (by simp [clear])]
    exact (recheckDrive_leaves _ o _).resolveSet
  refine ⟨fun q hq => ?_, fun q clear set => ?_⟩
  · cases latch : look k.weather.latches o with
    | true => rwa [Sky.setLatch, if_pos latch]
    | false => rw [joined latch]; exact join_widens o hq
  · rw [weather, look_put] at set
    split at set
    · next same => subst same; rw [joined clear]; exact (mem_insertAscending q q _).2 (.inl rfl)
    · simp [clear] at set

/-- Openings latched one after the other. -/
theorem latchFold_weather (os : List OpeningId) (k : Sky) :
    (os.foldl (fun k o => k.setLatch e o) k).weather =
      { k.weather with latches := tabulate fun o => look k.weather.latches o || decide (o ∈ os) } := by
  induction os generalizing k with
  | nil =>
    rw [show (tabulate fun o => look k.weather.latches o || decide (o ∈ ([] : List OpeningId))) = k.weather.latches from
      table_ext _ _ fun o => by simp]
    rfl
  | cons q rest ih =>
    rw [List.foldl_cons, ih, setLatch_weather]
    dsimp only
    congr 1
    refine table_ext _ _ fun o => ?_
    rw [look_tabulate, look_tabulate, look_put]
    by_cases h : o = q <;> simp [h]

theorem setLatches_weather : (k.setLatches e).weather =
    { k.weather with latches := latchedAt e.work k.weather.level k.weather.arc k.weather.latches } := by
  unfold Sky.setLatches
  rw [latchFold_weather]
  dsimp only
  congr 1
  refine table_ext _ _ fun o => ?_
  simp [latchedAt]

theorem setLatches_joins : k.Joins (k.setLatches e) :=
  List.foldlRecOn (motive := k.Joins) _ _ (.refl k) fun _ h o _ => h.trans (setLatch_joins e o)

end Latches

/-! ### A change of the level (R65, R68, R69) -/

/-- The latches after a change of the level: those of the exposed openings set at a rise to CLOSE_EXPOSED or above, all
clear at a step from CLOSE_EXPOSED down to WATCH. -/
def Weather.relatched (work : Content) (new : Level) (w : Weather) : Vector Bool 128 :=
  if w.level.height < new.height ∧ 2 ≤ new.height then latchedAt work new w.arc w.latches
  else if w.level = .closeExposed ∧ new = .watch then Vector.replicate 128 false
  else w.latches

section Levels

variable {k : Sky} (e : Env) (new : Level)

theorem levelled_weather : (k.levelled e new).weather =
    { k.weather with level := new, latches := k.weather.relatched e.work new } := by
  rw [levelled_eq]
  unfold Weather.relatched
  split
  · exact setLatches_weather e
  · split <;> rfl

theorem changeLevel_weather : (k.changeLevel e new).weather =
    { k.weather with level := new, latches := k.weather.relatched e.work new } := by
  have levelled := levelled_weather (k := k) e new
  rw [changeLevel_eq]
  split
  · exact levelled
  · split <;> exact levelled

theorem levelled_joins : (k.announced e new).Joins (k.levelled e new) := by
  rw [levelled_eq]
  split
  · exact setLatches_joins e
  · split
    · exact ⟨.refl _, fun o _ set => absurd ((look_replicate false o).symm.trans set) nofun⟩
    · exact .refl _

theorem changeLevel_joins : (k.announced e new).Joins (k.changeLevel e new) := by
  have levelled := levelled_joins (k := k) e new
  rw [changeLevel_eq]
  split
  · exact levelled.trans (.of_latches rfl ((holdAtCloseAll_widens _ .seg0).trans (holdAtCloseAll_widens _ .seg1)))
  · split
    · exact levelled.trans (.of_latches rfl ((holdBelowCloseAll_widens _ .seg0).trans (holdBelowCloseAll_widens _ .seg1)))
    · exact levelled

theorem announced_widens : k.core.Widens (k.announced e new).core := by
  unfold Sky.announced
  dsimp only
  split
  · exact joinAll_widens (c := k.core.hand .levelChanged) _
  · exact .refl _

/-- A change into WATCH or out of it has every present opening resolved (R65). -/
theorem changeLevel_resolves (differs : k.weather.level ≠ new) (h : k.weather.level = .watch ∨ new = .watch)
    (o : OpeningId) (present : (look e.work.openings o).present = true) : o ∈ (k.changeLevel e new).core.resolveSet := by
  have crossed : (decide (k.weather.level = .watch) != decide (new = .watch)) = true := by
    rcases h with h | h
    · rw [h] at differs
      simp [h, differs.symm]
    · rw [h] at differs
      simp [h, differs]
  refine (changeLevel_joins e new).widens ?_
  unfold Sky.announced
  rw [if_pos crossed]
  exact (mem_joinAll _ _ o).2 (.inr (List.mem_filter.2 ⟨List.mem_finRange o, present⟩))

/-- An event that a port has latched stays latched. -/
theorem Notices.Hears.latched {n m : Notices} (w : n.Hears m) {p : Role} {x : EventKind}
    (h : hasKind (n.ports.get p).latch x = true) : hasKind (m.ports.get p).latch x = true :=
  w.keeps (fun n => hasKind (n.ports.get p).latch x = true) (fun n y => hand_keeps n y p x) h

/-- Every change of the level is latched on every port (R65, R183). -/
theorem changeLevel_announces (p : Role) :
    hasKind ((k.changeLevel e new).core.notices.ports.get p).latch .levelChanged = true := by
  have announced : (k.announced e new).core.notices = (k.core.hand .levelChanged).notices := by
    unfold Sky.announced
    dsimp only
    split
    · exact joinAll_notices _ _
    · rfl
  have levelled : (k.levelled e new).core.notices = (k.core.hand .levelChanged).notices := by
    rw [levelled_eq, ← announced]
    split
    · exact setLatches_notices e _
    · split <;> rfl
  have heard : (k.core.hand .levelChanged).notices.Hears (k.changeLevel e new).core.notices := by
    have base : (k.core.hand .levelChanged).notices.Hears (k.levelled e new).core.notices := .of_eq levelled
    rw [changeLevel_eq]
    split
    · exact holdAtCloseAll_hears _ .seg1 (holdAtCloseAll_hears _ .seg0 base)
    · split
      · exact holdBelowCloseAll_hears _ .seg1 (holdBelowCloseAll_hears _ .seg0 base)
      · exact base
  exact heard.latched (hand_latches k.core.notices .levelChanged p rfl)

end Levels

/-! ### Evaluations (R60 to R62) -/

section Evaluations

variable {k : Sky} (e : Env)

theorem evaluate_raises (h : k.weather.level.height < (riseTarget e.work.settings k.weather).height) :
    k.evaluate e = Sky.changeLevel e (riseTarget e.work.settings k.weather)
      { k with weather := { k.weather with standDown := none } } := if_pos h

theorem evaluate_stays (h : ¬ k.weather.level.height < (riseTarget e.work.settings k.weather).height) :
    k.evaluate e = { k with weather := { k.weather with
      standDown := k.weather.standDownJudged e.now e.work.settings.standDownTime
        (holdTarget e.work.settings k.weather) } } := if_neg h

/-- An evaluation changes no more of the weather than the level, the stand-down timer and the latches (R60). -/
theorem evaluate_weather : ∃ (level : Level) (timer : Option Timer) (latches : Vector Bool 128),
    (k.evaluate e).weather = { k.weather with level := level, standDown := timer, latches := latches } := by
  by_cases h : k.weather.level.height < (riseTarget e.work.settings k.weather).height
  · exact ⟨_, _, _, by rw [evaluate_raises e h, changeLevel_weather]⟩
  · exact ⟨_, _, _, by rw [evaluate_stays e h]⟩

/-- Lower thresholds make a target no lower (R58, R59). -/
theorem targetLevel_height_le (a b : Thresholds) (lead : Nat) (w : Weather) (storm : b.storm ≤ a.storm)
    (rain : b.drivingRain ≤ a.drivingRain) (close : b.close ≤ a.close) (watch : b.watch ≤ a.watch) :
    (targetLevel a lead w).height ≤ (targetLevel b lead w).height := by
  have storms : a.storm ≤ w.gust → b.storm ≤ w.gust := storm.trans
  have rains : a.drivingRain ≤ w.mean → b.drivingRain ≤ w.mean := rain.trans
  have closes : a.close ≤ w.mean → b.close ≤ w.mean := close.trans
  have watches : a.watch ≤ w.gust → b.watch ≤ w.gust := watch.trans
  unfold targetLevel
  dsimp only
  split
  · next h => rw [if_pos (by simp only [Bool.or_eq_true, Bool.and_eq_true, decide_eq_true_eq] at h ⊢; tauto)]
  · split
    · next h =>
      have above : (decide (w.rain = .wet) || decide (b.close ≤ w.mean) ||
          w.advisory.any fun x => decide (x.lead ≤ lead)) = true := by
        simp only [Bool.or_eq_true, decide_eq_true_eq] at h ⊢
        tauto
      rw [if_pos above]
      split <;> decide
    · split
      · next h =>
        have above : (w.advisory.isSome || decide (b.watch ≤ w.gust)) = true := by
          simp only [Bool.or_eq_true, decide_eq_true_eq] at h ⊢
          tauto
        rw [if_pos above]
        repeat' split
        all_goals decide
      · exact Nat.zero_le _

/-- The wind thresholds of valid settings: each release below its set (R58, R59). -/
theorem settingsValid_thresholds (r : Settings) (h : settingsValid r = true) :
    r.stormGustRelease < r.stormGustSet ∧ r.drivingRainRelease < r.drivingRainSet ∧
      r.closeMeanRelease < r.closeMeanSet ∧ r.watchGustRelease < r.watchGustSet := by
  have unbroken : brokenRelation r = none := by simpa using (Bool.and_eq_true_iff.1 h).2
  simp only [brokenRelation, check_passes_iff] at unbroken
  obtain ⟨storm, rain, close, watch, _⟩ := unbroken
  omega

end Evaluations

/-! ### The derived arc (R55, R66, R68) -/

section Arc

variable {k : Sky} (e : Env)

/-- What the arc derived again makes of the weather. -/
theorem deriveArc_weather : (k.deriveArc e).weather =
    { k.weather.derived with
      latches := if (k.weather.derived.arc &&& ~~~k.weather.arc) ≠ 0#8 ∧ k.weather.level = .closeExposed
        then latchedAt e.work .closeExposed k.weather.derived.arc k.weather.latches else k.weather.latches } := by
  unfold Sky.deriveArc
  dsimp only
  split
  · next h =>
    obtain ⟨widened, level⟩ := h
    rw [if_pos ⟨by simpa [Weather.derived] using widened, level⟩, setLatches_weather]
    exact congrArg (fun level => { k.weather.derived with
      latches := latchedAt e.work level k.weather.derived.arc k.weather.latches }) level
  · next h =>
    rw [if_neg fun ⟨widened, level⟩ => h ⟨by simpa [Weather.derived] using widened, level⟩]
    rfl

theorem deriveArc_joins : k.Joins (k.deriveArc e) := by
  have derived : k.Joins { k with weather := k.weather.derived } := .of_latches rfl (.refl _)
  unfold Sky.deriveArc
  dsimp only
  split
  · exact derived.trans (setLatches_joins e)
  · exact derived

/-- What an event that derives the arc again does to the latches (R68). -/
theorem deriveArc_latchedByArc {s t : State} {w : Weather} (arc : w.arc = s.weather.arc)
    (level : w.level = s.weather.level) (latches : w.latches = s.weather.latches) (work : e.work = s.work)
    (weather : t.weather = (Sky.deriveArc e ⟨w, s.core⟩).weather)
    (core : (Sky.deriveArc e ⟨w, s.core⟩).core.Widens t.core) : latchedByArc s t := by
  have derived : t.weather = _ := weather.trans (deriveArc_weather e)
  rw [latchedByArc, derived]
  dsimp only
  rw [← arc, ← level, ← latches, ← work]
  refine ⟨fun exposes gained o => ?_, fun kept => ?_, fun o clear set => ?_⟩
  · rw [if_pos ⟨gained, exposes⟩]
    exact look_tabulate _ o
  · refine if_neg fun ⟨gained, exposes⟩ => ?_
    rcases kept with kept | kept
    · exact kept exposes
    · exact gained kept
  · refine core ((deriveArc_joins e).latched o clear ?_)
    rw [deriveArc_weather]
    exact set

end Arc

end Sys2Proof.Machine

end

section
/-! SUPPORT. What the Weather Assessor's events and the advisory requests make of the weather (R50 to R70); the statements
on them. -/

namespace Sys2Proof.Machine

/-! ### Operations on the Weather Assessor alone -/

section OnSky

variable (s : State) (f : Env → Sky → Sky)

/-- An operation counts by what it makes of the state it is applied to. -/
theorem onSky_congr {g : Env → Sky → Sky} (h : f s.env ⟨s.weather, s.core⟩ = g s.env ⟨s.weather, s.core⟩) :
    s.onSky f = s.onSky g := by
  unfold State.onSky
  rw [h]

/-- An operation that changes the weather alone. -/
theorem onSky_weather {w : Weather} (h : f s.env ⟨s.weather, s.core⟩ = ⟨w, s.core⟩) :
    s.onSky f = { s with weather := w } := by
  unfold State.onSky
  rw [h]

end OnSky

/-! ### Rain (R50, R51) -/

section Rain

variable {k : Sky} (e : Env) {x y : RainContact}

theorem filter_setFilter_same (w : Weather) (f : RainFilter) : (w.setFilter x f).filter x = f := by cases x <;> rfl

/-- A contact that turns wet makes a dry state wet. -/
theorem rainFilterEnds_wets (level : (k.weather.filter x).level = .dry) (rain : k.weather.rain = .dry) :
    k.rainFilterEnds e x = Sky.evaluate e
      ⟨{ k.weather.setFilter x ⟨.wet, none⟩ with rain := .wet, dryOut := none }, k.core⟩ := by
  have wet : (k.weather.filter x).expired = ⟨.wet, none⟩ := by simp [RainFilter.expired, level]
  unfold Sky.rainFilterEnds Sky.judgeRain
  rw [wet]
  cases x <;> simp [Weather.setFilter, rain]

/-- A contact that turns wet in a wet state stops the dry-out timer. -/
theorem rainFilterEnds_stays_wet (level : (k.weather.filter x).level = .dry) (rain : k.weather.rain = .wet) :
    k.rainFilterEnds e x = ⟨{ k.weather.setFilter x ⟨.wet, none⟩ with dryOut := none }, k.core⟩ := by
  have wet : (k.weather.filter x).expired = ⟨.wet, none⟩ := by simp [RainFilter.expired, level]
  unfold Sky.rainFilterEnds Sky.judgeRain
  rw [wet]
  cases x <;> simp [Weather.setFilter, rain]

/-- A contact that turns dry while the other is wet. -/
theorem rainFilterEnds_other_wet (level : (k.weather.filter x).level = .wet) (rain : k.weather.rain = .wet)
    (differ : y ≠ x) (other : (k.weather.filter y).level = .wet) :
    k.rainFilterEnds e x = ⟨{ k.weather.setFilter x ⟨.dry, none⟩ with dryOut := none }, k.core⟩ := by
  have dry : (k.weather.filter x).expired = ⟨.dry, none⟩ := by simp [RainFilter.expired, level]
  unfold Sky.rainFilterEnds Sky.judgeRain
  rw [dry]
  cases x <;> cases y <;> simp_all [Weather.setFilter, Weather.filter]

/-- Both contacts dry in a wet state: the dry-out timer runs, from now unless it runs already. -/
theorem rainFilterEnds_both_dry (level : (k.weather.filter x).level = .wet) (rain : k.weather.rain = .wet)
    (differ : y ≠ x) (other : (k.weather.filter y).level = .dry) :
    (k.weather.dryOut = none → k.rainFilterEnds e x = ⟨{ k.weather.setFilter x ⟨.dry, none⟩ with
      dryOut := some ⟨e.now, e.work.settings.dryOutTime * 1000⟩ }, k.core⟩) ∧
    (k.weather.dryOut.isSome = true → k.rainFilterEnds e x = ⟨k.weather.setFilter x ⟨.dry, none⟩, k.core⟩) := by
  have dry : (k.weather.filter x).expired = ⟨.dry, none⟩ := by simp [RainFilter.expired, level]
  unfold Sky.rainFilterEnds Sky.judgeRain
  rw [dry]
  constructor
  · intro stopped
    cases x <;> cases y <;> simp_all [Weather.setFilter, Weather.filter, startTimer, seconds]
  · intro runs
    obtain ⟨timer, runs⟩ := Option.isSome_iff_exists.1 runs
    cases x <;> cases y <;> simp_all [Weather.setFilter, Weather.filter]

end Rain

/-! ### The stand-down (R62) -/

/-- A stand-down clears the latches at the step from CLOSE_EXPOSED to WATCH (R69). -/
theorem look_relatched_lower (work : Content) (w : Weather) (o : OpeningId) :
    look (w.relatched work w.level.lower) o = (look w.latches o && decide (w.level ≠ .closeExposed)) := by
  unfold Weather.relatched
  cases h : w.level with
  | closeExposed => simp [Level.lower, Level.height, look_replicate]
  | calm | watch | closeAll => simp [Level.lower, Level.height]

/-! ### The vane (R55, R66, R68) -/

/-- A new vane reading, before the arc is derived from it. -/
def Weather.turned (now : Nat) (vane : Sector) (w : Weather) : Weather :=
  { w with
    vane := vane
    stability := if w.stable = some vane then none else some { timer := ⟨now, 5000⟩, candidate := vane } }

/-- A state whose arc is derived again from a weather. -/
def State.derivesArc (s : State) (w : Weather) : State := s.onSky fun e k => Sky.deriveArc e ⟨w, k.core⟩

theorem derivesArc_weather (s : State) (w : Weather) : (s.derivesArc w).weather =
    { w.derived with
      latches := if (w.derived.arc &&& ~~~w.arc) ≠ 0#8 ∧ w.level = .closeExposed
        then latchedAt s.work .closeExposed w.derived.arc w.latches else w.latches } :=
  deriveArc_weather (k := ⟨w, s.core⟩) s.env

/-- The latches after an event that derives the arc again, to its end. -/
theorem derivesArc_latchedByArc {s u : State} {w : Weather} (arc : w.arc = s.weather.arc)
    (level : w.level = s.weather.level) (latches : w.latches = s.weather.latches) (work : u.work = s.work)
    (core : u.core = s.core) : latchedByArc s (u.derivesArc w).settled := by
  refine deriveArc_latchedByArc u.env arc level latches work ?_ ?_
  · rw [State.settled_weather, ← core]
    rfl
  · rw [State.settled_core, ← core]
    exact settle_widens _

/-! ### The advisory (R56, R57) -/

section Advisories

variable {k : Sky} (e : Env) {a : Advisory}

theorem minuteMark_ends (h : k.weather.advisory = some a) (last : a.time ≤ 1) :
    k.minuteMark e = Sky.evaluate e ⟨{ k.weather with advisory := none }, k.core.hand .advisoryEnded⟩ := by
  simp only [Sky.minuteMark, h, if_pos last]

theorem minuteMark_counts (h : k.weather.advisory = some a) (more : 1 < a.time) :
    k.minuteMark e = Sky.evaluate e ⟨{ k.weather with
      advisory := some { a with lead := a.lead - 1, time := a.time - 1, markFrom := a.markFrom + 60000 } },
      k.core⟩ := by
  simp only [Sky.minuteMark, h, if_neg (Nat.not_le.2 more), minuteMs]

end Advisories

end Sys2Proof.Machine

open Sys2Proof Sys2Proof.Machine

/-- Settles O29: a sheltered window, a window of a facade outside the arc, and every opening at WATCH and CALM are not
exposed (R67). -/
theorem exposureByLevelAndArc : Obligations.ExposureByLevelAndArc := by
  unfold Obligations.ExposureByLevelAndArc
  intro work arc o
  refine ⟨.rfl, ?_, rfl, rfl⟩
  unfold exposed
  dsimp only
  cases kind : (look work.openings o).kind with
  | skylight => simp
  | window => cases facade : (look work.openings o).facade <;> simp [inArc]

/-- Settles O30: the level rises at once with its latches and its openings to resolve, and never falls here (R58 to
R65). -/
theorem evaluationRaisesOrKeepsTheLevel : Obligations.EvaluationRaisesOrKeepsTheLevel := by
  unfold Obligations.EvaluationRaisesOrKeepsTheLevel
  intro e k
  refine ⟨?_, ?_, fun r h => ?_⟩
  case refine_1 =>
    intro new target rises
    have raised : k.evaluate e = Sky.changeLevel e new { k with weather := { k.weather with standDown := none } } := by
      rw [target] at rises ⊢
      exact evaluate_raises e rises
    rw [raised, changeLevel_weather]
    refine ⟨rfl, rfl, changeLevel_announces e new, fun o => ?_, fun o clear set => ?_, fun crossed o present => ?_⟩
    · unfold Weather.relatched
      cases new with
      | calm => exact absurd rises (Nat.not_lt_zero _)
      | watch =>
        have level : k.weather.level ≠ .closeExposed := fun h => by simp [h, Level.height] at rises
        simp [Level.height, level]
      | closeExposed => simp [latchedAt, rises, show 2 ≤ Level.closeExposed.height by decide]
      | closeAll => simp [latchedAt, rises, show 2 ≤ Level.closeAll.height by decide]
    · refine (changeLevel_joins e new).latched o clear ?_
      rw [changeLevel_weather]
      exact set
    · refine changeLevel_resolves (k := ⟨{ k.weather with standDown := none }, k.core⟩) e new (fun same => ?_)
        crossed o present
      exact Nat.lt_irrefl _ ((congrArg Level.height same).symm ▸ rises)
  case refine_2 =>
    intro stays
    rw [evaluate_stays e stays]
    refine ⟨rfl, rfl, rfl, fun held => if_pos held, fun warming => ?_, fun released warm =>
      ⟨fun f runs => ?_, fun stopped => ?_⟩⟩
    · obtain ⟨timer, warming⟩ := Option.isSome_iff_exists.1 warming
      simp [Weather.standDownJudged, warming]
    · simp [Weather.standDownJudged, warm, runs, Nat.not_le.2 released]
    · simp [Weather.standDownJudged, warm, stopped, Nat.not_le.2 released, startTimer, seconds]
  case refine_3 =>
    obtain ⟨storm, rain, close, watch⟩ := settingsValid_thresholds r h
    exact targetLevel_height_le _ _ _ _ storm.le rain.le close.le watch.le

/-- Settles O31: the rain filters, the rain state, and the dry-out, warm-up and stand-down timers (R50, R51, R62 to
R64). -/
theorem rainAndWeatherTimers : Obligations.RainAndWeatherTimers := by
  unfold Obligations.RainAndWeatherTimers
  refine ⟨fun x raw s running => ⟨?change, ?expiry⟩, fun s s' f running moment => ⟨?dryOut, ?warmUp, ?standDown⟩⟩
  case change =>
    refine ⟨_, by rw [exec_rainContactChange, unlessHeld_running _ _ (by exact running)], ?_⟩
    dsimp only
    rw [filter_setFilter_same]
    refine ⟨rfl, fun same => ?_, fun differs stopped => ?_, rfl, rfl, rfl, rfl, by cases x <;> rfl⟩
    · simp [RainFilter.take, debounce, same]
    · simp [RainFilter.take, debounce, differs, stopped, startTimer, seconds]
  case expiry =>
    intro f y s' runs differ moment
    have expires : exec (.rainFilterExpiry x) s = .next (s'.onSky fun e k => k.rainFilterEnds e x).settled := by
      rw [exec_rainFilterExpiry, runs, skyExpiry_running _ _ _ running, moment]
    rw [expires]
    subst moment
    refine ⟨fun level => ⟨fun rain => ?_, fun rain => ?_⟩, fun level rain => ⟨fun other => ?_,
      fun other => ⟨fun stopped => ?_, fun timed => ?_⟩⟩⟩
    · exact congrArg _ (congrArg _ (onSky_congr _ _ (rainFilterEnds_wets (k := ⟨s.weather, s.core⟩) _ level rain)))
    · rw [onSky_weather _ _ (rainFilterEnds_stays_wet (k := ⟨s.weather, s.core⟩) _ level rain)]
    · rw [onSky_weather _ _ (rainFilterEnds_other_wet (k := ⟨s.weather, s.core⟩) _ level rain differ other)]
    · rw [onSky_weather _ _ ((rainFilterEnds_both_dry (k := ⟨s.weather, s.core⟩) _ level rain differ other).1 stopped)]; rfl
    · rw [onSky_weather _ _ ((rainFilterEnds_both_dry (k := ⟨s.weather, s.core⟩) _ level rain differ other).2 timed)]
  case dryOut =>
    intro runs
    rw [exec_dryOutExpiry, runs, skyExpiry_running _ _ _ running, moment]
    rfl
  case warmUp =>
    intro runs
    rw [exec_warmUpExpiry, runs, skyExpiry_running _ _ _ running, moment]
    rfl
  case standDown =>
    intro runs
    refine ⟨Sky.changeLevel s'.env s.weather.level.lower ⟨{ s.weather with standDown := none }, s.core⟩, ?_, ?_⟩
    · rw [exec_standDownExpiry, runs, skyExpiry_running _ _ _ running, moment]
      rfl
    · rw [changeLevel_weather]
      refine ⟨rfl, rfl, changeLevel_announces _ _, fun o => look_relatched_lower _ s.weather o, fun level o present => ?_⟩
      have crossed : s.weather.level ≠ s.weather.level.lower ∧
          (s.weather.level = .watch ∨ s.weather.level.lower = .watch) := by
        rcases level with level | level <;> simp [level, Level.lower]
      refine changeLevel_resolves _ _ crossed.1 crossed.2 o ?_
      rw [moment]
      exact present

/-- Settles O32: the gust of a window is counted from its pulses, and enters the history and the mean (R52, R53). -/
theorem gustWindowsCountPulses : Obligations.GustWindowsCountPulses := by
  unfold Obligations.GustWindowsCountPulses
  intro micros s running
  refine ⟨fun long => ?_, fun short => ?_, ?_⟩
  · rw [exec_anemometerPulse, unlessHeld_running _ _ running]
    rw [if_pos (show pulseMinMicros ≤ micros from long)]
  · rw [exec_anemometerPulse, unlessHeld_running _ _ running]
    rw [if_neg (Nat.not_le.2 (show micros < pulseMinMicros from short))]
  · have ends : exec .gustWindowEnd s =
        .next ((s.atMoment (s.weather.windowFrom + gustWindowMs)).onSky Sky.gustEnds).settled := by
      rw [exec_gustWindowEnd]
      exact congrArg _ (skyExpiry_running s ⟨s.weather.windowFrom, gustWindowMs⟩ _ running)
    refine ⟨_, ends, ?_⟩
    obtain ⟨level, timer, latches, evaluated⟩ := evaluate_weather
      (k := ⟨s.weather.closeWindow s.work.settings.anemometerConstant, s.core⟩)
      (s.atMoment (s.weather.windowFrom + gustWindowMs)).env
    rw [State.settled_weather, show (State.onSky _ Sky.gustEnds).weather = _ from evaluated]
    exact ⟨rfl, rfl, rfl, rfl, rfl⟩

/-- Settles O33: a vane reading starts or stops the stability timer, whose expiry makes its candidate the stable sector;
both derive the arc again (R55, R66, R68). -/
theorem vaneAndStableSector : Obligations.VaneAndStableSector := by
  unfold Obligations.VaneAndStableSector
  intro lines s running
  refine ⟨fun same => ?_, fun differs => ?_, fun x runs => ?_⟩
  · rw [exec_vaneChange, if_pos same]
  · have reads : exec (.vaneChange lines) s = .next ((State.derivesArc { s with inputs := { s.inputs with vane := lines } }
        (s.weather.turned s.clock (sectorOf lines))).settled) := by
      rw [exec_vaneChange, if_neg differs, unlessHeld_running _ _ (by exact running)]
      rfl
    refine ⟨_, reads, rfl, ?_⟩
    rw [State.settled_weather, derivesArc_weather]
    refine ⟨rfl, rfl, fun stable => ⟨if_pos stable, ?_⟩, fun unstable => if_neg unstable, rfl, ?_, rfl,
      rfl, rfl⟩
    · simp [Weather.turned, Weather.derived, reportedSector, stable]
    · apply derivesArc_latchedByArc <;> rfl
  · have expires : exec .stabilityTimerExpiry s = .next (((s.atMoment (x.timer.start + x.timer.length)).derivesArc
        { s.weather with stable := some x.candidate, stability := none }).settled) := by
      rw [exec_stabilityTimerExpiry, runs, Option.map_some, skyExpiry_running _ _ _ running]
      refine congrArg _ (congrArg _ (onSky_congr _ _ ?_))
      simp only [Sky.sectorSettles, State.atMoment, runs]
    refine ⟨_, expires, ?_⟩
    rw [State.settled_weather, derivesArc_weather]
    refine ⟨rfl, rfl, rfl, rfl, ?_⟩
    apply derivesArc_latchedByArc <;> rfl

/-- Settles O34: an advisory is placed, replaced, cancelled and counted down (R56, R57). -/
theorem advisoryLife : Obligations.AdvisoryLife := by
  unfold Obligations.AdvisoryLife
  intro kind lead w k s known
  refine ⟨fun takes => ?_, fun a running placed => ?_⟩
  · have sent (t : State) (v : Verdict) (h : serveAdvisory kind lead w s = (t, v)) :
        exec (.advisory .ventilation kind lead w) s = .next (t.sending .ventilation (v.reply 10)) :=
      exec_served (.advisory kind lead w) .ventilation s t v takes rfl h
    refine ⟨fun late => sent s (.outOfRange 2) ?_, fun soon => ⟨fun long => sent s (.outOfRange 3) ?_,
      fun positive short => sent _ (.ok []) ?_, fun zero absent => sent s (.refused .notFound) ?_,
      fun zero stands => sent _ (.ok []) ?_⟩⟩
    · simp only [serveAdvisory, known, late, if_true]
    · simp only [serveAdvisory, known, Nat.not_lt.2 soon, long, if_true, if_false]
    · simp only [serveAdvisory, known, Nat.not_lt.2 soon, Nat.not_lt.2 short, Nat.ne_of_gt positive, if_false]
      rfl
    · simp only [serveAdvisory, known, Nat.not_lt.2 soon, zero, absent]
      rfl
    · simp only [serveAdvisory, known, Nat.not_lt.2 soon, zero, Option.isNone_eq_false_iff.2 stands]
      rfl
  · have expires : exec .advisoryMinuteMark s =
        .next ((s.atMoment (a.markFrom + 60000)).onSky Sky.minuteMark).settled := by
      rw [exec_advisoryMinuteMark, placed]
      exact congrArg _ (skyExpiry_running s ⟨a.markFrom, minuteMs⟩ _ running)
    rw [expires]
    refine ⟨fun more => ?_, fun last => ?_⟩
    · exact congrArg _ (congrArg _ (onSky_congr _ _ (minuteMark_counts (k := ⟨s.weather, s.core⟩) _ placed more)))
    · exact congrArg _ (congrArg _ (onSky_congr _ _ (minuteMark_ends (k := ⟨s.weather, s.core⟩) _ placed last)))

end

section
/-! SUPPORT. The drive that is shed at a trip, and a drive that REACHED completes (R99, R100, R130, R166, R167); the
statements on them. -/

namespace Sys2Proof.Machine

/-! ### The youngest drive (R167) -/

/-- The youngest drive is the slot of a DRIVING opening. -/
theorem youngest_drives {c : Core} {b : SlotId × Slot} (h : c.youngest = some b) :
    look c.slots b.1 = some b.2 ∧ (c.live b.2.opening).state = .driving := by
  revert b
  refine List.foldlRecOn (motive := fun best => ∀ {b : SlotId × Slot}, best = some b →
    look c.slots b.1 = some b.2 ∧ (c.live b.2.opening).state = .driving) _ _ (by rintro _ ⟨⟩) fun best holds i _ b hb => ?_
  unfold youngerOf at hb
  split at hb
  · exact holds hb
  · next x hx =>
    split at hb
    · next driving =>
      split at hb
      · cases hb; exact ⟨hx, driving⟩
      · split at hb
        · exact holds hb
        · cases hb; exact ⟨hx, driving⟩
    · exact holds hb

/-- An opening in a slot has one. -/
theorem slotOf_of_look {c : Core} {i : SlotId} {x : Slot} (hx : look c.slots i = some x) :
    ∃ j : SlotId, c.slotOf x.opening = some j := by
  cases h : c.slotOf x.opening with
  | none => exact absurd rfl (slotOf_none c x.opening h i x hx)
  | some j => exact ⟨j, rfl⟩

/-- The youngest drive is shed with a stop request, its DRIVE sent (R167). -/
theorem live_shed {e : Env} {c : Core} {b : SlotId × Slot} (h : c.youngest = some b)
    (sent : c.startUnsent e b.2.opening = false) :
    (c.shed e).live b.2.opening = { c.live b.2.opening with state := .stopping, stopCause := some .shed } := by
  obtain ⟨hx, driving⟩ := youngest_drives h
  obtain ⟨j, hj⟩ := slotOf_of_look hx
  simp only [Core.shed, h]
  rw [requestStop_driving e _ _ c j driving hj sent]
  simp

/-! ### A drive that is complete (R99) -/

section Completed

variable (e : Env) (o : OpeningId) (locked : Option Bool) (out : DriveOutcome) {c : Core} {i : SlotId} {x : Slot}
  (hi : c.slotOf o = some i) (hx : look c.slots i = some x)
include hi hx

/-- A drive that REACHED its target is complete: its slot is free and its opening IDLE. -/
theorem takeOutcome_reached (h : judgedOutcome (c.live o) x locked out = .reached) :
    c.takeOutcome e o locked out = ((c.freeSlot e i).setLive o Live.complete).enterIdle o := by
  simp only [Core.takeOutcome, hi, hx, h]

/-- No outcome leaves the drive. -/
theorem takeOutcome_none (h : judgedOutcome (c.live o) x locked out = .none) : c.takeOutcome e o locked out = c := by
  simp only [Core.takeOutcome, hi, hx, h]

end Completed

/-- A judgement of the start pause leaves the mains state and the trip timer. -/
theorem judgePause_supplied (s : State) :
    s.judgePause.supply.mains = s.supply.mains ∧ s.judgePause.supply.trip = s.supply.trip := by
  simp only [State.judgePause, Supply.judgePause]
  repeat' split
  all_goals exact ⟨rfl, rfl⟩

/-- A trip judged with the current above the trip level or not (R166). -/
theorem judgeTrip_trip (s : State) :
    (s.inputs.current * 100 ≤ s.budget * 125 → s.judgeTrip.supply.trip = none) ∧
    (s.budget * 125 < s.inputs.current * 100 → s.supply.trip = none →
      s.judgeTrip.supply.trip = some ⟨s.clock, 1000⟩) := by
  refine ⟨fun low => if_neg (by simpa [aboveTrip] using low), fun high stopped => ?_⟩
  simp only [State.judgeTrip, Supply.judgeTrip, stopped]
  exact if_pos (decide_eq_true high)

end Sys2Proof.Machine

open Sys2Proof Sys2Proof.Machine

/-- Settles O51: the trip timer runs while the current is above its level, and its expiry sheds the youngest drive (R166,
R167). -/
theorem tripSheds : Obligations.TripSheds := by
  unfold Obligations.TripSheds
  intro i f s running range
  obtain ⟨mains, trip⟩ := judgePause_supplied { s with inputs := { s.inputs with current := i } }
  obtain ⟨stops, starts⟩ := judgeTrip_trip ({ s with inputs := { s.inputs with current := i } } : State).judgePause
  have budget : ({ s with inputs := { s.inputs with current := i } } : State).judgePause.budget = s.budget :=
    congrArg (budgetOf s.work) mains
  rw [budget] at stops starts
  refine ⟨⟨_, exec_measuredCurrentChange_running i s running range, stops, fun high stopped =>
    starts high (trip.trans stopped)⟩, fun runs => ?_⟩
  · refine ⟨(s.atMoment (f.start + f.length)).tripEnds, ?_, fun high => ?_, fun low => ?_, rfl, fun b youngest sent => ?_⟩
    · rw [exec_tripTimerExpiry, runs, expiry_running _ _ _ running]
    · exact if_pos (decide_eq_true high)
    · exact if_neg (decide_eq_true_iff.not.2 (Nat.not_lt.2 low))
    · exact live_shed youngest sent

/-- Settles O42: a progress POLL that reports REACHED completes the drive, or leaves it driving until its lock closes
(R99, R100, R130). -/
theorem reachedCompletesTheDrive : Obligations.ReachedCompletesTheDrive := by
  unfold Obligations.ReachedCompletesTheDrive
  intro g s t r i x lockWanted running flight body fresh address plain segment quiet driving hi hx reached there wanted
  have taken := exec_nodeReply_taken g s t r running flight fresh address
    (replyFits_plain r t.body plain (by simp [body, RequestBody.kind]))
  have told : (s.core.told s.env g t r).live t.opening = (s.core.live t.opening).reported r := live_told_same _ _ _ _ _
  have needs : needsLock ((s.core.told s.env g t r).live t.opening) x ↔ lockWanted := by
    rw [told, wanted]
    rfl
  obtain ⟨judged, unjudged⟩ := judgedOutcome_reached ((s.core.told s.env g t r).live t.opening) x r.locked
  have reply : s.core.takeReply s.env g t r =
      ((s.core.told s.env g t r).takeOutcome s.env t.opening r.locked .reached).restartProgress s.env t.opening := by
    rw [takeReply_progressPoll _ _ _ _ _ body quiet, progressReply_driving _ _ _ _ (by rw [told]; exact driving), reached]
  refine ⟨_, taken, ?_⟩
  rw [State.within_core, reply]
  by_cases complete : ¬ lockWanted ∨ r.locked = some true
  · rw [takeOutcome_reached s.env t.opening r.locked .reached (c := s.core.told s.env g t r) hi hx
      (judged (by rw [told]; exact there) fun need =>
      complete.resolve_left (not_not.2 (needs.1 need)))]
    refine ⟨fun q hq => ?_, by simp [enterIdle_eq], fun _ => ⟨?_, ?_⟩, fun want locked => ?_⟩
    · rw [live_restartProgress]
      simp [enterIdle_eq, live_setLive_ne _ _ _ _ hq, live_told_ne _ _ _ _ _ q hq]
    · exact look_restartProgress_none _ _ _ _ (look_freeSlot_same _ _ _)
    · rw [live_restartProgress, live_enterIdle, live_setLive_same, live_freeSlot, told]
      refine ⟨rfl, rfl, rfl, rfl, ?_, ?_⟩
      · simp [enterIdle_eq]
      · rw [restartProgress_walkTriggered]
        exact freeSlot_walkTriggered _ _ (s.core.told s.env g t r) x hx
    · exact absurd complete (by simp [want, locked])
  · obtain ⟨want, locked⟩ : lockWanted ∧ r.locked ≠ some true := by simpa [not_or] using complete
    rw [takeOutcome_none s.env t.opening r.locked .reached (c := s.core.told s.env g t r) hi hx
      (unjudged (.inr ⟨needs.2 want, locked⟩))]
    refine ⟨fun q hq => ?_, by simp, fun h => absurd h complete, fun _ _ => ⟨?_, by simp, fun phase => ?_⟩⟩
    · rw [live_restartProgress, live_told_ne _ _ _ _ _ q hq]
    · rw [live_restartProgress, told]
      rfl
    · exact look_restartProgress_running _ _ _ _ _ hi hx phase

end

section
/-! SUPPORT. What the removal of claims hands on, by the aging sweep and by a ZONE_WRITE (R26, R27, R33 to R36); the
statements on them. -/

namespace Sys2Proof.Machine

/-! ### One removal (R36) -/

/-- A port on which CLAIM_EXPIRED is latched with this reason as its detail. -/
def Core.toldExpired (p : Role) (reason : ExpiryReason) (c : Core) : Prop :=
  hasKind (c.notices.ports.get p).latch .claimExpired = true ∧ (c.notices.ports.get p).details.claim = some reason

section Removal

variable (e : Env) (reason : ExpiryReason) (x : Claim) (c : Core)

theorem claimRemoved_notices : (c.claimRemoved e reason x).notices = c.notices.hand (.claimExpired x.claimant reason) :=
  joinAll_notices _ _

theorem mem_claimRemoved (o : OpeningId) :
    o ∈ (c.claimRemoved e reason x).resolveSet ↔ o ∈ c.resolveSet ∨ o ∈ e.coveredBy x.scope := mem_joinAll _ _ o

theorem claimRemoved_queue : (c.claimRemoved e reason x).queue = c.queue := (joinAll_rest _ _).2.1

/-- A removal is told on the claimant's port (R36). -/
theorem claimRemoved_tells : (c.claimRemoved e reason x).toldExpired x.claimant.port reason := by
  unfold Core.toldExpired
  rw [claimRemoved_notices]
  refine ⟨hand_latches _ (.claimExpired x.claimant reason) _ (by simp [Happening.latchedOn]), ?_⟩
  simp [Notices.hand, Happening.latchedOn, NoticePort.latchEvent, NoticePort.deriveAttn, Happening.detail]

/-- A further removal with the same reason leaves what a port has been told. -/
theorem claimRemoved_keepsTold {p : Role} (h : c.toldExpired p reason) :
    (c.claimRemoved e reason x).toldExpired p reason := by
  unfold Core.toldExpired
  rw [claimRemoved_notices]
  refine ⟨hand_keeps _ _ _ _ h.1, ?_⟩
  simp only [Notices.hand, PerPort.get_mapWith]
  split
  · rfl
  · exact h.2

end Removal

/-! ### Several removals -/

section Removals

variable (e : Env) (reason : ExpiryReason) (xs : List Claim) (c : Core)

/-- Claims removed one after the other. -/
def Core.claimsRemoved (e : Env) (reason : ExpiryReason) (xs : List Claim) (c : Core) : Core :=
  xs.foldl (fun c x => c.claimRemoved e reason x) c

theorem mem_claimsRemoved (o : OpeningId) : o ∈ (c.claimsRemoved e reason xs).resolveSet ↔
    o ∈ c.resolveSet ∨ ∃ x ∈ xs, o ∈ e.coveredBy x.scope := by
  unfold Core.claimsRemoved
  induction xs generalizing c with
  | nil => simp
  | cons x rest ih => simp [ih, mem_claimRemoved, or_assoc]

theorem claimsRemoved_keepsTold {p : Role} (h : c.toldExpired p reason) :
    (c.claimsRemoved e reason xs).toldExpired p reason :=
  foldl_keeps (fun d => d.toldExpired p reason) _ (fun d x => claimRemoved_keepsTold e reason x d) xs c h

theorem claimsRemoved_tells {x : Claim} (h : x ∈ xs) :
    (c.claimsRemoved e reason xs).toldExpired x.claimant.port reason := by
  induction xs generalizing c with
  | nil => cases h
  | cons y rest ih =>
    rcases List.mem_cons.1 h with rfl | later
    · exact claimsRemoved_keepsTold e reason rest _ (claimRemoved_tells e reason x c)
    · exact ih _ later

end Removals

section Removed

variable (s : State) (reason : ExpiryReason) (which : Claim → Bool)

/-- The entries that a test names. -/
def Claims.named (t : Claims) (which : Claim → Bool) : List Claim := t.slots.toList.filterMap fun x => x.filter which

theorem mem_named (t : Claims) (x : Claim) : x ∈ t.named which ↔
    ∃ i : Fin 192, look t.slots i = some x ∧ which x = true := by
  simp only [Claims.named, List.mem_filterMap, mem_toList_iff, Option.filter_eq_some_iff]
  exact ⟨fun ⟨_, ⟨i, rfl⟩, hx, named⟩ => ⟨i, hx, named⟩, fun ⟨i, hx, named⟩ => ⟨_, ⟨i, rfl⟩, hx, named⟩⟩

theorem removeClaims_core : (s.removeClaims reason which).core =
    s.core.claimsRemoved s.env reason (s.claims.named which) := rfl

theorem removeClaims_queue : (s.removeClaims reason which).core.queue = s.core.queue :=
  foldl_leaves Core.queue _ (fun c x => claimRemoved_queue s.env reason x c) _ _

theorem mem_removeClaims (o : OpeningId) : o ∈ (s.removeClaims reason which).core.resolveSet ↔ o ∈ s.core.resolveSet ∨
    ∃ (i : Fin 192) (x : Claim), look s.claims.slots i = some x ∧ which x = true ∧ s.covered x.scope o := by
  rw [removeClaims_core, mem_claimsRemoved]
  refine or_congr .rfl ?_
  simp only [mem_named, mem_coveredBy]
  exact ⟨fun ⟨x, ⟨i, hx, named⟩, covered⟩ => ⟨i, x, hx, named, covered⟩,
    fun ⟨i, x, hx, named, covered⟩ => ⟨x, ⟨i, hx, named⟩, covered⟩⟩

theorem removeClaims_tells {i : Fin 192} {x : Claim} (hx : look s.claims.slots i = some x) (named : which x = true) :
    (s.removeClaims reason which).core.toldExpired x.claimant.port reason :=
  claimsRemoved_tells s.env reason _ s.core ((mem_named which s.claims x).2 ⟨i, hx, named⟩)

theorem removeClaims_keepsTold {p : Role} (h : s.core.toldExpired p reason) :
    (s.removeClaims reason which).core.toldExpired p reason :=
  claimsRemoved_keepsTold s.env reason _ s.core h

/-- A slot after the removal of what a test names. -/
theorem look_removeClaims_eq (j : Fin 192) : look (s.removeClaims reason which).claims.slots j =
    (look s.claims.slots j).filter fun x => !which x := by simp [State.removeClaims]

end Removed

/-! ### The end of an admission (R27) -/

/-- A scope that a zone's end of admission concerns: the zone, and the openings of it. -/
def State.scopeIn (s : State) (z : ZoneId) (k : ClaimScope) : Prop :=
  k = .zone z ∨ ∃ o : OpeningId, k = .opening o ∧ (look s.work.openings o).zone = z

section Admission

variable (s : State) (z : ZoneId) (before after : Zone) (who : Claimant)

/-- An admission that ended, and a claim it removes (R27). -/
def State.admissionEnds (s : State) (z : ZoneId) (before after : Zone) (who : Claimant) (x : Claim) : Prop :=
  before.admits who = true ∧ after.admits who = false ∧ x.claimant = who ∧ s.scopeIn z x.scope

/-- The test reads the zones of the openings alone. -/
theorem admissionEnds_congr {s t : State} (z : ZoneId) (before after : Zone) (who : Claimant) (x : Claim)
    (h : t.work.openings = s.work.openings) :
    t.admissionEnds z before after who x ↔ s.admissionEnds z before after who x := by
  unfold State.admissionEnds State.scopeIn
  rw [h]

theorem zoneRemoves_iff (x : Claim) :
    zoneRemoves s.work.openings z who x = true ↔ x.claimant = who ∧ s.scopeIn z x.scope := by
  unfold zoneRemoves State.scopeIn
  cases x.scope <;> simp

/-- Whether the admission of a claimant ended or not. -/
theorem endAdmission_cases : (before.admits who = true ∧ after.admits who = false ∧
      s.endAdmission z before after who = s.removeClaims .zoneChanged (zoneRemoves s.work.openings z who)) ∨
    ((before.admits who = false ∨ after.admits who = true) ∧ s.endAdmission z before after who = s) := by
  unfold State.endAdmission
  cases before.admits who <;> cases after.admits who <;> simp

theorem look_endAdmission (j : Fin 192) (x : Claim) :
    look (s.endAdmission z before after who).claims.slots j = some x ↔
      look s.claims.slots j = some x ∧ ¬ s.admissionEnds z before after who x := by
  rcases endAdmission_cases s z before after who with ⟨admitted, ended, eq⟩ | ⟨kept, eq⟩
  · rw [eq, look_removeClaims, ← Bool.not_eq_true, zoneRemoves_iff]
    simp [State.admissionEnds, admitted, ended]
  · rw [eq]
    refine (and_iff_left ?_).symm
    rintro ⟨admitted, ended, _⟩
    simp [admitted, ended] at kept

theorem endAdmission_tells {j : Fin 192} {x : Claim} (hx : look s.claims.slots j = some x)
    (ends : s.admissionEnds z before after who x) :
    (s.endAdmission z before after who).core.toldExpired x.claimant.port .zoneChanged := by
  obtain ⟨admitted, ended, own, inside⟩ := ends
  rcases endAdmission_cases s z before after who with ⟨_, _, eq⟩ | ⟨kept, _⟩
  · rw [eq]
    exact removeClaims_tells s _ _ hx ((zoneRemoves_iff s z who x).2 ⟨own, inside⟩)
  · simp [admitted, ended] at kept

theorem endAdmission_keepsTold {p : Role} (h : s.core.toldExpired p .zoneChanged) :
    (s.endAdmission z before after who).core.toldExpired p .zoneChanged := by
  rcases endAdmission_cases s z before after who with ⟨_, _, eq⟩ | ⟨_, eq⟩
  · rw [eq]
    exact removeClaims_keepsTold s _ _ h
  · rwa [eq]

/-- The openings to resolve after the end of an admission are in the zone, or were to be resolved before it. -/
theorem mem_endAdmission (o : OpeningId) :
    (o ∈ s.core.resolveSet → o ∈ (s.endAdmission z before after who).core.resolveSet) ∧
    (o ∈ (s.endAdmission z before after who).core.resolveSet → o ∈ s.core.resolveSet ∨ s.covered (.zone z) o) := by
  rcases endAdmission_cases s z before after who with ⟨_, _, eq⟩ | ⟨_, eq⟩
  · rw [eq, mem_removeClaims]
    refine ⟨.inl, Or.imp_right ?_⟩
    rintro ⟨i, x, _, removed, present, covers⟩
    obtain ⟨_, inside⟩ := (zoneRemoves_iff s z who x).1 removed
    rcases inside with scope | ⟨p, scope, zone⟩
    · rw [scope] at covers
      exact ⟨present, covers⟩
    · rw [scope] at covers
      cases show p = o from covers
      exact ⟨present, zone⟩
  · rw [eq]
    exact ⟨id, .inl⟩

theorem endAdmission_drives : (s.endAdmission z before after who).core.openings = s.core.openings ∧
    (s.endAdmission z before after who).core.queue = s.core.queue ∧
    (s.endAdmission z before after who).core.slots = s.core.slots := by
  rcases endAdmission_cases s z before after who with ⟨_, _, eq⟩ | ⟨_, eq⟩
  · rw [eq]
    exact ⟨removeClaims_openings s _ _, removeClaims_queue s _ _, removeClaims_slots s _ _⟩
  · rw [eq]
    exact ⟨rfl, rfl, rfl⟩

end Admission

/-! ### ZONE_WRITE (R26, R27) -/

/-- A state with a zone record written. -/
def State.rezoned (s : State) (z : ZoneId) (new : Zone) : State :=
  { s with work := { s.work with zones := put s.work.zones z new } }

/-- A state with a zone record written and each claimant's ended admission taken back, before the zone's openings join the
pending-resolution set. -/
def State.readmitted (s : State) (z : ZoneId) (new : Zone) : State :=
  ((s.rezoned z new).endAdmission z (look s.work.zones z) new .ventilation).endAdmission z (look s.work.zones z) new
    .security

section Written

variable (s : State) (z : ZoneId) (new : Zone)

theorem writeZone_core : (s.writeZone z new).core = (s.readmitted z new).core.joinAll
    ((s.readmitted z new).env.coveredBy (.zone z)) := rfl

theorem readmitted_work : (s.readmitted z new).work = { s.work with zones := put s.work.zones z new } := by
  simp [State.readmitted, State.rezoned]

/-- A claim stays in its slot unless its own claimant's admission ended and the zone concerns it. -/
theorem look_writeZone (j : Fin 192) (x : Claim) : look (s.writeZone z new).claims.slots j = some x ↔
    look s.claims.slots j = some x ∧
      ¬ ((look s.work.zones z).admits x.claimant = true ∧ new.admits x.claimant = false ∧ s.scopeIn z x.scope) := by
  have slots : (s.writeZone z new).claims = (s.readmitted z new).claims := rfl
  have first : (s.rezoned z new).work.openings = s.work.openings := rfl
  have second : ((s.rezoned z new).endAdmission z (look s.work.zones z) new .ventilation).work.openings =
      s.work.openings := by rw [endAdmission_work]; rfl
  rw [slots, State.readmitted, look_endAdmission, look_endAdmission, admissionEnds_congr z _ new .ventilation x first,
    admissionEnds_congr z _ new .security x second]
  unfold State.admissionEnds
  cases own : x.claimant <;> simp [State.rezoned]

/-- A claim whose admission ended is told of on its claimant's port. -/
theorem writeZone_tells {j : Fin 192} {x : Claim} (hx : look s.claims.slots j = some x)
    (admitted : (look s.work.zones z).admits x.claimant = true) (ended : new.admits x.claimant = false)
    (inside : s.scopeIn z x.scope) : (s.writeZone z new).core.toldExpired x.claimant.port .zoneChanged := by
  have told : (s.readmitted z new).core.toldExpired x.claimant.port .zoneChanged := by
    have ends (who : Claimant) (own : x.claimant = who) :
        s.admissionEnds z (look s.work.zones z) new who x := ⟨own ▸ admitted, own ▸ ended, own, inside⟩
    have first : (s.rezoned z new).work.openings = s.work.openings := rfl
    have second : ((s.rezoned z new).endAdmission z (look s.work.zones z) new .ventilation).work.openings =
        s.work.openings := by rw [endAdmission_work]; rfl
    have held : look (s.rezoned z new).claims.slots j = some x := hx
    unfold State.readmitted
    cases own : x.claimant with
    | ventilation =>
      have removed := (admissionEnds_congr z _ new .ventilation x first).2 (ends .ventilation own)
      have told := endAdmission_tells _ z _ _ .ventilation held removed
      rw [own] at told
      exact endAdmission_keepsTold _ z _ _ .security told
    | security =>
      have kept : ¬ (s.rezoned z new).admissionEnds z (look s.work.zones z) new .ventilation x :=
        fun ⟨_, _, other, _⟩ => by cases own.symm.trans other
      have stays := (look_endAdmission _ z _ _ .ventilation j x).2 ⟨held, kept⟩
      have told := endAdmission_tells _ z _ _ .security stays
        ((admissionEnds_congr z _ new .security x second).2 (ends .security own))
      rwa [own] at told
  unfold Core.toldExpired
  rw [writeZone_core, joinAll_notices]
  exact told

theorem mem_writeZone (o : OpeningId) : o ∈ (s.writeZone z new).core.resolveSet ↔
    o ∈ s.core.resolveSet ∨ s.covered (.zone z) o := by
  have covered : (s.readmitted z new).covered (.zone z) o ↔ s.covered (.zone z) o := by
    unfold State.covered
    rw [readmitted_work]
  have first := mem_endAdmission (s.rezoned z new) z (look s.work.zones z) new .ventilation o
  have second := mem_endAdmission ((s.rezoned z new).endAdmission z (look s.work.zones z) new .ventilation) z
    (look s.work.zones z) new .security o
  rw [writeZone_core, mem_joinAll, mem_coveredBy, covered]
  constructor
  · rintro (joined | inside)
    · rcases second.2 joined with joined | inside
      · exact first.2 joined
      · unfold State.covered at inside ⊢
        rw [endAdmission_work] at inside
        exact .inr inside
    · exact .inr inside
  · rintro (before | inside)
    · exact .inl (second.1 (first.1 before))
    · exact .inr inside

theorem writeZone_drives : (s.writeZone z new).core.openings = s.core.openings ∧
    (s.writeZone z new).core.queue = s.core.queue ∧ (s.writeZone z new).core.slots = s.core.slots := by
  obtain ⟨openings, queue, slots, _⟩ := joinAll_rest ((s.readmitted z new).env.coveredBy (.zone z)) (s.readmitted z new).core
  obtain ⟨openings₁, queue₁, slots₁⟩ := endAdmission_drives
    (s.rezoned z new) z (look s.work.zones z) new .ventilation
  obtain ⟨openings₂, queue₂, slots₂⟩ := endAdmission_drives
    ((s.rezoned z new).endAdmission z (look s.work.zones z) new .ventilation) z (look s.work.zones z) new .security
  rw [writeZone_core]
  exact ⟨openings.trans (openings₂.trans openings₁), queue.trans (queue₂.trans queue₁), slots.trans (slots₂.trans slots₁)⟩

end Written

end Sys2Proof.Machine

open Sys2Proof Sys2Proof.Machine

/-- Settles O19: the sweep removes the entries of age 3 and ages the others (R33, R34, R36). -/
theorem agingSweepRemovesAgeThree : Obligations.AgingSweepRemovesAgeThree := by
  unfold Obligations.AgingSweepRemovesAgeThree
  intro s running
  refine ⟨(s.atMoment (s.claims.sweepFrom + s.work.settings.agingPeriod * 1000)).agingSweep, ?_, rfl, rfl,
    fun i x hx => ⟨fun old => ⟨?_, ?_⟩, fun young => ?_⟩, fun i empty => ?_, fun o => ?_, rfl, rfl, rfl, rfl, ?_, ?_, ?_⟩
  · rw [exec_agingSweep]
    exact congrArg _ (expiry_running s ⟨s.claims.sweepFrom, seconds s.work.settings.agingPeriod⟩ _ running)
  · simp [State.agingSweep, look_removeClaims_eq, State.atMoment, hx, old]
  · have told := removeClaims_tells (s.atMoment (s.claims.sweepFrom + s.work.settings.agingPeriod * 1000)) .aged
      (fun x => x.age == 3) hx (by simp [old])
    exact told.1
  · simp [State.agingSweep, look_removeClaims_eq, State.atMoment, hx, young]
  · simp [State.agingSweep, look_removeClaims_eq, State.atMoment, empty]
  · refine (mem_removeClaims _ _ _ o).trans (or_congr .rfl ?_)
    simp only [beq_iff_eq]
    exact .rfl
  · exact removeClaims_openings _ _ _
  · exact removeClaims_slots _ _ _
  · exact removeClaims_queue _ _ _

/-- Settles O23: a zone record that no longer admits a claimant removes its claims on the zone and on the openings of it
(R26, R27, R36). -/
theorem zoneWriteEndsAdmission : Obligations.ZoneWriteEndsAdmission := by
  unfold Obligations.ZoneWriteEndsAdmission
  intro a b c d e f z new s takes mode idle fields
  have served : serveZoneWrite a b c d e f s = (s.writeZone z new, .ok []) := by
    simp only [serveZoneWrite, editBarred_open s mode idle, fields]
  obtain ⟨openings, queue, slots⟩ := writeZone_drives s z new
  refine ⟨_, exec_served (.zoneWrite a b c d e f) .service s _ _ takes rfl served, writeZone_work s z new, fun j x hx => ?_,
    fun j x hx => ⟨fun admitted ended inside => ⟨?_, writeZone_tells s z new hx admitted ended inside⟩, fun kept => ?_⟩,
    mem_writeZone s z new, openings, queue, slots⟩
  · exact ((look_writeZone s z new j x).1 hx).1
  · cases empty : look (s.writeZone z new).claims.slots j with
    | none => rfl
    | some y =>
      obtain ⟨hy, stays⟩ := (look_writeZone s z new j y).1 empty
      cases hx.symm.trans hy
      exact absurd ⟨admitted, ended, inside⟩ stays
  · refine (look_writeZone s z new j x).2 ⟨hx, ?_⟩
    rintro ⟨admitted, ended, inside⟩
    rcases kept with before | after | outside
    · exact absurd (admitted.symm.trans before) nofun
    · exact absurd (after.symm.trans ended) nofun
    · rcases inside with zone | ⟨o, scope, zone⟩
      · exact outside.1 zone
      · exact outside.2 o scope zone

end

section
/-! SUPPORT. What the operations on one opening's drive spare of another opening: its record, its slot, its pending
requests and its job (R16, R90, R96). -/

namespace Sys2Proof.Machine

/-! ### An opening that a change spares -/

/-- A change that spares an opening: its record, slot and pending requests stay, every job, every empty slot and a start
walk already triggered stay too. -/
structure Core.Spares (e : Env) (o : OpeningId) (c d : Core) : Prop where
  live : d.live o = c.live o
  slot : ∀ (i : SlotId) (x : Slot), x.opening = o → (look d.slots i = some x ↔ look c.slots i = some x)
  empty : ∀ i : SlotId, look c.slots i = none → look d.slots i = none
  pending : ∀ k : Nat, d.pendingOf e o k = c.pendingOf e o k
  queue : ∀ j ∈ c.queue, j ∈ d.queue
  widens : c.Widens d
  walk : c.walkTriggered = true → d.walkTriggered = true

section Spares

variable {c d : Core} {e : Env} {o p : OpeningId}

theorem Core.Spares.refl (c : Core) : c.Spares e o c :=
  ⟨rfl, fun _ _ _ => .rfl, fun _ => id, fun _ => rfl, fun _ => id, .refl c, id⟩

theorem Core.Spares.trans {b : Core} (h : c.Spares e o d) (g : d.Spares e o b) : c.Spares e o b :=
  ⟨g.live.trans h.live, fun i x hx => (g.slot i x hx).trans (h.slot i x hx), fun i hi => g.empty i (h.empty i hi),
    fun k => (g.pending k).trans (h.pending k), fun j hj => g.queue j (h.queue j hj), h.widens.trans g.widens,
    fun hw => g.walk (h.walk hw)⟩

/-- A change of other parts of the drive core. -/
theorem Core.Spares.of_eq (openings : d.openings = c.openings) (slots : d.slots = c.slots)
    (segments : d.segments = c.segments) (queue : d.queue = c.queue) (widens : c.Widens d)
    (walk : c.walkTriggered = true → d.walkTriggered = true) : c.Spares e o d :=
  ⟨by unfold Core.live; rw [openings], fun _ _ _ => by rw [slots], fun _ h => by rw [slots]; exact h,
    fun k => pendingOf_congr _ _ _ _ _ (by rw [segments]), fun _ h => queue ▸ h, widens, walk⟩

/-- The opening of a spared slot has the same slot. -/
theorem Core.Spares.startUnsent (h : c.Spares e o d) : d.startUnsent e o = c.startUnsent e o := by
  unfold Core.startUnsent
  rw [h.pending]

/-- What asks a STOP of an opening stands when the opening is spared. -/
theorem Core.Spares.stopAsked (h : c.Spares e o d) {i : SlotId} {x : Slot} {l : Live} {cause : StopCause}
    (hx : x.opening = o) (asked : stopAsked e o i x l cause c) : stopAsked e o i x l cause d := by
  obtain ⟨live, slot, stop, drive, poll⟩ := asked
  exact ⟨h.live.trans live, (h.slot i x.stopped hx).2 slot, by rwa [h.pending], by rwa [h.pending], by rwa [h.pending]⟩

end Spares

/-! ### The small changes -/

section Small

variable {c : Core} {e : Env} {o p : OpeningId}

theorem join_spares : c.Spares e o (c.join p) := .of_eq rfl rfl rfl rfl (join_widens p) id

theorem trigger_spares : c.Spares e o c.trigger := .of_eq rfl rfl rfl rfl (.refl c) fun _ => rfl

variable (other : o ≠ p)
include other

theorem setLive_spares (f : Live → Live) : c.Spares e o (c.setLive p f) :=
  ⟨live_setLive_ne _ _ _ _ other, fun _ _ _ => .rfl, fun _ => id, fun _ => rfl, fun _ => id, .refl c, id⟩

theorem pendingOf_withdraw_other (which : RequestBody → Bool) (k : Nat) :
    (c.withdraw e p which).pendingOf e o k = c.pendingOf e o k := by
  unfold Core.pendingOf Core.withdraw
  rw [segments_get_setSegment]
  split
  · next same =>
    rw [same]
    dsimp only
    rw [List.find?_filter]
    congr 1
    funext r
    by_cases h : r.opening = o
    · simp [h, other, Bool.beq_eq_decide_eq]
    · simp [h]
  · rfl

theorem withdraw_spares (which : RequestBody → Bool) : c.Spares e o (c.withdraw e p which) :=
  ⟨rfl, fun _ _ _ => .rfl, fun _ => id, pendingOf_withdraw_other other which, fun _ => id, .refl c, id⟩

theorem ask_spares (body : RequestBody) : c.Spares e o (c.ask e p body) :=
  ⟨rfl, fun _ _ _ => .rfl, fun _ => id, fun k => pendingOf_ask_other e c p o body k other, fun _ => id, .refl c, id⟩

theorem enqueue_spares (target : Nat) (cls : JobClass) (place : BandEnd) :
    c.Spares e o (c.enqueue e p target cls place) :=
  ⟨by simp [Core.enqueue, live_setLive_ne _ _ _ _ other]; rfl, fun _ _ _ => .rfl, fun _ => id, fun _ => rfl,
    fun j hj => (mem_insertJob _ j c.queue).2 (.inr hj), .refl c, fun _ => rfl⟩

theorem enterIdle_spares : c.Spares e o (c.enterIdle p) := (setLive_spares other _).trans join_spares

theorem afterShedOrHold_spares (cls : JobClass) : c.Spares e o (c.afterShedOrHold e p cls) := by
  unfold Core.afterShedOrHold
  split
  · split
    · exact enterIdle_spares other
    · exact enqueue_spares other _ _ _
  · exact enterIdle_spares other

/-- A slot of another opening written. -/
theorem putSlot_spares {i : SlotId} {x : Slot} (hx : look c.slots i = some x) (own : x.opening = p) (y : Option Slot)
    (same : ∀ z : Slot, y = some z → z.opening = p) : c.Spares e o { c with slots := put c.slots i y } := by
  refine ⟨rfl, fun j z hz => ?_, fun j hj => ?_, fun _ => rfl, fun _ => id, .refl c, id⟩
  · dsimp only
    rw [look_put]
    split
    · next h =>
      subst h
      rw [hx]
      refine iff_of_false (fun e => ?_) fun e => ?_
      · exact other (hz.symm.trans (same z e))
      · cases e; exact other (hz.symm.trans own)
    · rfl
  · dsimp only
    rw [look_put, if_neg fun h => by rw [h, hx] at hj; cases hj]
    exact hj

theorem setSlot_spares {i : SlotId} {x : Slot} (hx : look c.slots i = some x) (own : x.opening = p) (f : Slot → Slot)
    (same : (f x).opening = x.opening) : c.Spares e o (c.setSlot i f) := by
  refine putSlot_spares other hx own _ fun z hz => ?_
  rw [hx] at hz
  cases hz
  exact same.trans own

theorem freeSlot_spares {i : SlotId} {x : Slot} (hx : look c.slots i = some x) (own : x.opening = p) :
    c.Spares e o (c.freeSlot e i) := by
  rw [freeSlot_eq _ _ _ _ hx, own]
  exact ((putSlot_spares other hx own none nofun).trans (withdraw_spares other _)).trans trigger_spares

end Small

/-! ### Stop requests -/

section Stops

variable {c : Core} (e : Env) {o p : OpeningId}

/-- A stop request with cause HOLD of an opening whose start DRIVE is unsent is confirmed at once (R88, R145). -/
theorem requestStop_hold_unsent {i : SlotId} {x : Slot} (driving : (c.live p).state = .driving)
    (hi : c.slotOf p = some i) (hx : look c.slots i = some x) (unsent : c.startUnsent e p = true) :
    c.requestStop e p .hold = Core.afterShedOrHold e p ((c.live p).jobClass.getD x.cls)
      ((c.setLive p fun l => { l with state := .stopping, stopCause := some .hold }).freeSlot e i) := by
  simp only [Core.requestStop, driving, hi, unsent, if_true]
  rw [confirmStop_eq e p none .none _ i x (by exact hi) (by exact hx), live_setLive_same]
  rfl

/-- The stop request of one opening spares every other (R145). -/
theorem requestStop_hold_spares (other : o ≠ p) : c.Spares e o (c.requestStop e p .hold) := by
  cases state : (c.live p).state with
  | driving =>
    cases hi : c.slotOf p with
    | none =>
      simp only [Core.requestStop, state, hi]
      exact .refl c
    | some i =>
      obtain ⟨x, hx, own⟩ := slotOf_occupied c p i hi
      cases unsent : c.startUnsent e p with
      | true =>
        rw [requestStop_hold_unsent e state hi hx unsent]
        exact ((setLive_spares other _).trans (freeSlot_spares other (by exact hx) own)).trans
          (afterShedOrHold_spares other _)
      | false =>
        rw [requestStop_driving e p .hold c i state hi unsent]
        exact (((setLive_spares other _).trans (setSlot_spares other (by exact hx) own _ rfl)).trans
          (withdraw_spares other _)).trans (ask_spares other _)
  | stopping =>
    rw [requestStop_stopping e p .hold c state]
    exact setLive_spares other _
  | _ =>
    simp only [Core.requestStop, state]
    exact .refl c

/-- The withdrawal test of R90 for one opening spares every other. -/
theorem recheckDrive_spares (other : o ≠ p) : c.Spares e o (c.recheckDrive e p) := by
  refine recheckDrive_cases e p c (c.Spares e o) (.refl c) (fun i x hi hx => ?_) (fun i cause _ hi => ?_)
    fun _ _ => setLive_spares other _
  · obtain ⟨y, hy, own⟩ := slotOf_occupied c p i hi
    exact (freeSlot_spares other hy own).trans (enqueue_spares other _ _ _)
  · obtain ⟨y, hy, own⟩ := slotOf_occupied c p i hi
    exact (((setLive_spares other _).trans (setSlot_spares other (by exact hy) own _ rfl)).trans
      (withdraw_spares other _)).trans (ask_spares other _)

end Stops

/-! ### The one slot of an opening -/

/-- An opening occupies at most one slot, this one. -/
def Core.OnlySlot (o : OpeningId) (i : SlotId) (c : Core) : Prop :=
  ∀ (j : SlotId) (y : Slot), look c.slots j = some y → y.opening = o → j = i

section OnlySlot

variable {c d : Core} {e : Env} {o : OpeningId} {i : SlotId}

theorem Core.OnlySlot.spared (only : c.OnlySlot o i) (h : c.Spares e o d) : d.OnlySlot o i :=
  fun j y hy own => only j y ((h.slot j y own).1 hy) own

theorem Core.OnlySlot.slotOf (only : c.OnlySlot o i) {x : Slot} (hx : look c.slots i = some x) (own : x.opening = o) :
    c.slotOf o = some i := by
  refine lowest_eq_of_unique _ _ i (by simp [hx, own]) fun j hj => ?_
  obtain ⟨y, hy, opening⟩ := (Option.any_eq_true _ _).1 hj
  exact only j y hy (by simpa using opening)

/-- A slot of which DrivesWf speaks is its opening's only one. -/
theorem onlySlot_of_drivesWf {s : State} (w : DrivesWf s) {x : Slot} (hx : look s.core.slots i = some x) :
    s.core.OnlySlot x.opening i :=
  fun j y hy own => ((drivesWf_iff s).1 w).unique j i y x hy hx own

theorem onlySlot_put (only : c.OnlySlot o i) {y : Option Slot} : Core.OnlySlot o i { c with slots := put c.slots i y } := by
  intro j z hz own
  dsimp only at hz
  rw [look_put] at hz
  split at hz
  · assumption
  · exact only j z hz own

theorem onlySlot_freeSlot (only : c.OnlySlot o i) : (c.freeSlot e i).OnlySlot o i := by
  unfold Core.freeSlot
  split
  · exact only
  · exact onlySlot_put only

/-- The stop request of an opening leaves it no other slot. -/
theorem onlySlot_requestStop (only : c.OnlySlot o i) {x : Slot} (hx : look c.slots i = some x) (own : x.opening = o) :
    (c.requestStop e o .hold).OnlySlot o i := by
  have hi := only.slotOf hx own
  cases state : (c.live o).state with
  | driving =>
    cases unsent : c.startUnsent e o with
    | true =>
      rw [requestStop_hold_unsent e state hi hx unsent]
      have freed : Core.OnlySlot o i
          ((c.setLive o fun l => { l with state := .stopping, stopCause := some .hold }).freeSlot e i) :=
        onlySlot_freeSlot only
      unfold Core.afterShedOrHold
      repeat' split
      all_goals exact freed
    | false =>
      rw [requestStop_driving e o .hold c i state hi unsent]
      exact onlySlot_put (c := c) only
  | stopping =>
    rw [requestStop_stopping e o .hold c state]
    exact only
  | _ =>
    simp only [Core.requestStop, state]
    exact only

end OnlySlot

end Sys2Proof.Machine

end

section
/-! SUPPORT. The entry to RELEASING drive by drive, and the holds at a change of the level (R143 to R152); the statement on
hold requests. -/

namespace Sys2Proof.Machine

/-! ### The entry to RELEASING, slot by slot (R145) -/

/-- What the entry to RELEASING does to one slot. -/
def Core.releaseSlot (e : Env) (g : Segment) (c : Core) (j : SlotId) : Core :=
  match look c.slots j with
  | some y => if y.liveOn e g then c.requestStop e y.opening .hold else c
  | none => c

theorem enterReleasing_eq (e : Env) (g : Segment) (c : Core) : c.enterReleasing e g =
    allSlots.foldl (Core.releaseSlot e g) (c.setHold g fun h => { h with state := .releasing }) := rfl

section Slots

variable (e : Env) (g : Segment) {c : Core} {o : OpeningId} {i : SlotId}

theorem releaseSlot_of_look {y : Slot} {j : SlotId} (hy : look c.slots j = some y) :
    c.releaseSlot e g j = if y.liveOn e g then c.requestStop e y.opening .hold else c := by
  simp only [Core.releaseSlot, hy]

/-- Another slot's stop request spares the opening of this one. -/
theorem releaseSlot_spares (only : c.OnlySlot o i) {j : SlotId} (hj : j ≠ i) : c.Spares e o (c.releaseSlot e g j) := by
  cases hy : look c.slots j with
  | none =>
    simp only [Core.releaseSlot, hy]
    exact .refl c
  | some y =>
    rw [releaseSlot_of_look e g hy]
    split
    · exact requestStop_hold_spares e fun own => hj (only j y hy own.symm)
    · exact .refl c

theorem releaseSlots_spares (js : List SlotId) (h : i ∉ js) (only : c.OnlySlot o i) :
    c.Spares e o (js.foldl (Core.releaseSlot e g) c) := by
  induction js generalizing c with
  | nil => exact .refl c
  | cons j rest ih =>
    obtain ⟨first, later⟩ : i ≠ j ∧ i ∉ rest := by simpa using h
    have spared := releaseSlot_spares e g only (Ne.symm first)
    exact spared.trans (ih later (only.spared spared))

/-- The entry to RELEASING meets a slot's opening once, and spares it before and after. -/
theorem enterReleasing_meets (only : c.OnlySlot o i) {x : Slot} (hx : look c.slots i = some x) (own : x.opening = o) :
    ∃ d : Core, c.Spares e o d ∧ look d.slots i = some x ∧ d.OnlySlot o i ∧
      (d.releaseSlot e g i).OnlySlot o i ∧ (d.releaseSlot e g i).Spares e o (c.enterReleasing e g) := by
  obtain ⟨before, after, split⟩ := List.append_of_mem (List.mem_finRange i)
  have nodup : (before ++ i :: after).Nodup := split ▸ List.nodup_finRange 8
  obtain ⟨_, later, apart⟩ := List.nodup_append.1 nodup
  have begun : c.Spares e o (c.setHold g fun h => { h with state := .releasing }) := .of_eq rfl rfl rfl rfl (.refl c) id
  have spared := begun.trans (releaseSlots_spares e g before (fun h => apart i h i (by simp) rfl) (only.spared begun))
  have here := (spared.slot i x own).2 hx
  have still := only.spared spared
  have met : Core.OnlySlot o i (Core.releaseSlot e g (before.foldl (Core.releaseSlot e g)
      (c.setHold g fun h => { h with state := .releasing })) i) := by
    rw [releaseSlot_of_look e g here]
    split
    · rw [own]
      exact onlySlot_requestStop still here own
    · exact still
  refine ⟨_, spared, here, still, met, ?_⟩
  rw [enterReleasing_eq, show allSlots = before ++ i :: after from split, List.foldl_append, List.foldl_cons]
  exact releaseSlots_spares e g after (List.nodup_cons.1 later).1 met

end Slots

/-! ### What becomes of a drive (R145) -/

theorem afterShedOrHold_slots (e : Env) (o : OpeningId) (cls : JobClass) (c : Core) :
    (c.afterShedOrHold e o cls).slots = c.slots := by
  unfold Core.afterShedOrHold
  repeat' split
  all_goals rfl

section Drive

variable {s : State} (m : Nat) (g : Segment) {c : Core} {i : SlotId} {x : Slot}

/-- The drive of another segment, and an orphan, stay. -/
theorem enterReleasing_passes (e : Env) (only : c.OnlySlot x.opening i) (hx : look c.slots i = some x)
    (out : x.liveOn e g = false) :
    look (c.enterReleasing e g).slots i = some x ∧ (c.enterReleasing e g).live x.opening = c.live x.opening := by
  obtain ⟨d, spared, here, _, _, after⟩ := enterReleasing_meets e g only hx rfl
  rw [releaseSlot_of_look e g here, out] at after
  exact ⟨(after.slot i x rfl).2 here, after.live.trans spared.live⟩

/-- What a change spares depends on the moment in no way. -/
theorem spares_atMoment {o : OpeningId} {c d : Core} (h : c.Spares (s.atMoment m).env o d) : c.Spares s.env o d :=
  ⟨h.live, h.slot, h.empty, h.pending, h.queue, h.widens, h.walk⟩

/-- What of a core the requeueing of a withdrawn job reads. -/
theorem requeued_of_spares {e : Env} {o : OpeningId} {cls : JobClass} {l : Live} {b f r u : Core}
    (h : requeued e o cls (f.live o) f r) (target : (f.live o).target = l.target)
    (position : (f.live o).position = l.position) (queue : ∀ j ∈ b.queue, j ∈ f.queue) (after : r.Spares e o u) :
    requeued e o cls l b u := by
  obtain ⟨back, idle⟩ := h
  rw [target, position] at back
  rw [target, position] at idle
  refine ⟨fun t aimed away => ?_, fun none => ?_⟩
  · obtain ⟨state, j, hj, opening, aim, class_, rank, least⟩ := back t aimed away
    exact ⟨by rw [after.live]; exact state, j, after.queue j hj, opening, aim, class_, rank,
      fun k hk band => least k (queue k hk) band⟩
  · obtain ⟨state, joined⟩ := idle none
    exact ⟨by rw [after.live]; exact state, after.widens joined⟩

/-- A drive of the segment meets its stop request with cause HOLD. -/
theorem enterReleasing_heldDrive (same : s.core.Spares s.env x.opening c) (only : c.OnlySlot x.opening i)
    (hx : look c.slots i = some x) (on : s.env.segment x.opening = g) (drives : x.phase ≠ .orphan) :
    heldDrive s i x (s.core.live x.opening) (c.enterReleasing (s.atMoment m).env g) := by
  obtain ⟨d, spared, here, still, met, after⟩ := enterReleasing_meets (s.atMoment m).env g only hx rfl
  have kept : s.core.Spares s.env x.opening d := same.trans (spares_atMoment m spared)
  have live : x.liveOn (s.atMoment m).env g = true := by
    simp only [Slot.liveOn, drives, not_false_eq_true, decide_true, Bool.and_true, ne_eq]
    exact decide_eq_true on
  rw [releaseSlot_of_look _ g here, live, if_pos rfl] at after
  have hi := still.slotOf here rfl
  have unsent : d.startUnsent (s.atMoment m).env x.opening = s.core.startUnsent s.env x.opening := kept.startUnsent
  refine ⟨fun driving sent => ?_, fun driving waits => ?_, fun stopping => ?_⟩
  · have asked := requestStop_asked (s.atMoment m).env x.opening .hold d i x (by rw [kept.live]; exact driving) hi here
      (unsent.trans sent)
    rw [kept.live] at asked
    exact after.stopAsked rfl asked
  · rw [requestStop_hold_unsent _ (by rw [kept.live]; exact driving) hi here (unsent.trans waits)] at after
    refine ⟨after.empty i ?_, ?_⟩
    · rw [afterShedOrHold_slots]
      exact look_freeSlot_same _ _ _
    · rw [kept.live] at after
      refine requeued_of_spares (e := (s.atMoment m).env) (afterShedOrHold_requeued _ _ _ _) ?_ ?_ (fun j hj => ?_) after
      · simp [kept.live]
      · simp [kept.live]
      · simpa using kept.queue j hj
  · rw [requestStop_stopping _ _ .hold d (by rw [kept.live]; exact stopping)] at after
    refine ⟨(after.slot i x rfl).2 here, ?_⟩
    rw [after.live, live_setLive_same, kept.live]

end Drive

/-! ### The holds at a change of the level (R65, R144, R147, R150) -/

/-- A Hold Controller when the level enters CLOSE_ALL (R147, R150). -/
def Hold.atCloseAll (now timeout : Nat) (h : Hold) : Hold :=
  match h.state with
  | .owned => h
  | .releasing => { h with state := .owned }
  | .granted => { h with reclaimTimer := startTimer now (seconds timeout) }
  | .returning => h

section Levels

variable (e : Env) (g : Segment) (c : Core)

theorem holds_setHold (f : Hold → Hold) (p : Segment) :
    (c.setHold g f).holds.get p = if p = g then f (c.holds.get g) else c.holds.get p := by
  by_cases h : p = g
  · subst h
    simp
  · simp [h, PerSegment.get_set_ne _ _ _ _ h]

theorem holdAtCloseAll_hold (p : Segment) : (c.holdAtCloseAll e g).holds.get p =
    if p = g then (c.holds.get g).atCloseAll e.now e.work.settings.reclaimTimeout else c.holds.get p := by
  unfold Core.holdAtCloseAll Hold.atCloseAll
  cases state : (c.holds.get g).state with
  | owned | returning =>
    dsimp only
    split
    · next h => rw [h]
    · rfl
  | releasing =>
    dsimp only
    rw [startDuePass_holds]
    exact holds_setHold g c (fun h => { h with state := .owned }) p
  | granted =>
    have timed := holds_setHold g c
      (fun h => { h with reclaimTimer := startTimer e.now (seconds e.work.settings.reclaimTimeout) }) p
    rw [state] at timed
    exact timed

theorem storePosition_walk (o : OpeningId) (p : Position) (h : c.walkTriggered = true) :
    (c.storePosition e o p).walkTriggered = true := by
  unfold Core.storePosition
  split
  · exact h
  · refine recheckDrive_cases e o _ (fun d => d.walkTriggered = true) h (fun _ _ _ _ => rfl) (fun _ _ _ _ => h)
      fun _ _ => h

theorem startDuePass_walk (h : c.walkTriggered = true) : (c.startDuePass e g).walkTriggered = true := by
  unfold Core.startDuePass
  split
  · exact foldl_keeps (fun d => d.walkTriggered = true) _ (fun d o hd => storePosition_walk e d o .unknown hd) _ _ h
  · exact h

theorem holdAtCloseAll_walk (h : c.walkTriggered = true ∨ (c.holds.get g).state = .releasing) :
    (c.holdAtCloseAll e g).walkTriggered = true := by
  unfold Core.holdAtCloseAll
  cases state : (c.holds.get g).state with
  | releasing => exact startDuePass_walk e g _ rfl
  | owned | granted | returning => exact h.resolve_right (by simp [state])

theorem tryRelease_hold_other {p : Segment} (h : p ≠ g) : (c.tryRelease e g).holds.get p = c.holds.get p := by
  unfold Core.tryRelease
  dsimp only
  split
  · rw [enterReleasing_holds, PerSegment.get_set_ne _ _ _ _ h]
  · rfl

theorem holdBelowCloseAll_hold_other {p : Segment} (h : p ≠ g) :
    (c.holdBelowCloseAll e g).holds.get p = c.holds.get p := by
  unfold Core.holdBelowCloseAll
  split
  · exact (holds_setHold g c _ p).trans (if_neg h)
  · exact tryRelease_hold_other e g c h

theorem holdBelowCloseAll_granted (h : (c.holds.get g).state = .granted) :
    (c.holdBelowCloseAll e g).holds.get g = { c.holds.get g with reclaimTimer := none } := by
  simp [Core.holdBelowCloseAll, h]

theorem holdBelowCloseAll_owned (h : (c.holds.get g).state = .owned) (requested : (c.holds.get g).requested = true)
    (below : e.level ≠ .closeAll) :
    (c.holdBelowCloseAll e g).holds.get g = { c.holds.get g with state := .releasing } := by
  unfold Core.holdBelowCloseAll
  rw [h]
  dsimp only
  rw [tryRelease_releases e g c h requested below, enterReleasing_holds, PerSegment.get_set_same]

end Levels

section Skies

variable (e : Env) (k : Sky) (g : Segment)

theorem changeLevel_closeAll_hold : (k.changeLevel e .closeAll).core.holds.get g =
    (k.core.holds.get g).atCloseAll e.now e.work.settings.reclaimTimeout := by
  rw [changeLevel_eq, if_pos rfl]
  dsimp only
  rw [holdAtCloseAll_hold, holdAtCloseAll_hold, holdAtCloseAll_hold, levelled_holds]
  cases g <;> rfl

theorem changeLevel_closeAll_walk (h : (k.core.holds.get g).state = .releasing) :
    (k.changeLevel e .closeAll).core.walkTriggered = true := by
  rw [changeLevel_eq, if_pos rfl]
  rw [← levelled_holds e .closeAll k] at h
  cases g with
  | seg0 => exact holdAtCloseAll_walk _ .seg1 _ (.inl (holdAtCloseAll_walk _ .seg0 _ (.inr h)))
  | seg1 =>
    refine holdAtCloseAll_walk _ .seg1 _ (.inr ?_)
    rw [holdAtCloseAll_hold, if_neg nofun]
    exact h

/-- A step down from CLOSE_ALL meets each hold with the level CLOSE_EXPOSED. -/
theorem changeLevel_below_hold (above : k.weather.level = .closeAll) :
    ((k.core.holds.get g).state = .granted →
      (k.changeLevel e .closeExposed).core.holds.get g = { k.core.holds.get g with reclaimTimer := none }) ∧
    ((k.core.holds.get g).state = .owned → (k.core.holds.get g).requested = true →
      (k.changeLevel e .closeExposed).core.holds.get g = { k.core.holds.get g with state := .releasing }) := by
  have below : (e.under (k.levelled e .closeExposed).weather).level ≠ .closeAll := by
    rw [levelled_weather]
    exact nofun
  rw [changeLevel_eq, if_neg nofun, if_pos above, ← levelled_holds e .closeExposed k]
  dsimp only
  cases g with
  | seg0 =>
    rw [holdBelowCloseAll_hold_other _ .seg1 _ (p := .seg0) nofun]
    exact ⟨holdBelowCloseAll_granted _ .seg0 _, fun owned requested => holdBelowCloseAll_owned _ .seg0 _ owned requested below⟩
  | seg1 =>
    rw [← holdBelowCloseAll_hold_other (e.under (k.levelled e .closeExposed).weather) .seg0 _ (p := .seg1) nofun]
    exact ⟨holdBelowCloseAll_granted _ .seg1 _, fun owned requested => holdBelowCloseAll_owned _ .seg1 _ owned requested below⟩

end Skies

end Sys2Proof.Machine

open Sys2Proof Sys2Proof.Machine

/-- Settles O46: HOLDREQ is filtered; an assertion enters RELEASING with a stop request for each drive of the segment, a
deassertion ends a grant, and CLOSE_ALL takes a release back (R143 to R152). -/
theorem holdRequestsAreFiltered : Obligations.HoldRequestsAreFiltered := by
  unfold Obligations.HoldRequestsAreFiltered
  refine ⟨fun g raw f s running => ⟨?change, fun runs low owned unarmed below => ?assert, fun runs high granted => ?deassert⟩,
    fun e g k h hold => ?levels⟩
  case change =>
    refine ⟨_, by rw [exec_holdreqChange, unlessHeld_running _ _ (by exact running)], ?_⟩
    refine ⟨PerSegment.get_set_same _ _ _, ?_⟩
    dsimp only
    rw [holds_setHold, if_pos rfl]
    refine ⟨rfl, fun same => ?_, fun differs stopped => ?_, rfl, rfl, rfl⟩
    · simp [Hold.take, debounce, same]
    · simp [Hold.take, debounce, differs, stopped, startTimer, holdreqFilterMs]
  case assert =>
    refine ⟨(s.atMoment (f.start + f.length)).within fun e c => c.holdreqSettles e g,
      by rw [exec_holdreqFilterExpiry, runs, coreExpiry_running _ _ _ running], ?_⟩
    have settles (e : Env) (level : e.level = s.weather.level) : s.core.holdreqSettles e g =
        (s.core.setHold g fun h => { h with filtered := true, filterTimer := none }).enterReleasing e g := by
      unfold Core.holdreqSettles Core.holdAsserted
      rw [low, if_neg nofun]
      refine tryRelease_releases e g _ ?_ ?_ (level ▸ below)
      · rw [holds_setHold, if_pos rfl]
        exact owned
      · rw [holds_setHold, if_pos rfl]
        exact (requested_iff _).2 ⟨rfl, unarmed⟩
    rw [State.within_core, State.atMoment_core, settles _ rfl, enterReleasing_holds, PerSegment.get_set_same,
      holds_setHold, if_pos rfl]
    refine ⟨rfl, rfl, fun w i x hx => ?_⟩
    have asserted : s.core.Spares s.env x.opening
        (s.core.setHold g fun h => { h with filtered := true, filterTimer := none }) :=
      .of_eq rfl rfl rfl rfl (.refl _) id
    have only := (onlySlot_of_drivesWf w hx).spared asserted
    refine ⟨fun on drives => enterReleasing_heldDrive _ g asserted only hx on drives, fun out =>
      enterReleasing_passes g _ only hx ?_⟩
    rcases out with off | orphan
    · simp only [Slot.liveOn, Bool.and_eq_false_iff]
      exact .inl (decide_eq_false off)
    · simp [Slot.liveOn, orphan]
  case deassert =>
    refine ⟨(s.atMoment (f.start + f.length)).within fun e c => c.holdreqSettles e g,
      by rw [exec_holdreqFilterExpiry, runs, coreExpiry_running _ _ _ running], ?_⟩
    have settles (e : Env) : s.core.holdreqSettles e g = (s.core.setHold g fun h =>
        { h with filtered := false, filterTimer := none, rearm := false }).enterReturning e g .released := by
      unfold Core.holdreqSettles Core.holdDeasserted
      rw [high, if_pos rfl]
      dsimp only
      rw [holds_setHold, if_pos rfl, granted]
    rw [State.within_core, State.atMoment_core, settles, enterReturning_hold, holds_setHold, if_pos rfl]
    exact ⟨rfl, rfl, rfl, rfl, rfl, rfl, hand_holdChanged _ g .released⟩
  case levels =>
    subst hold
    refine ⟨fun below rises => ?_, fun releasing ready => ?_, fun above => ?_⟩
    · have raised : k.evaluate e = Sky.changeLevel e .closeAll
          { k with weather := { k.weather with standDown := none } } := by
        rw [← rises]
        refine evaluate_raises e ?_
        rw [rises]
        cases level : k.weather.level with
        | closeAll => exact absurd level below
        | calm | watch | closeExposed => decide
      rw [raised, changeLevel_closeAll_hold]
      refine ⟨fun releasing => ⟨?_, changeLevel_closeAll_walk e _ g releasing⟩, fun granted => ?_, fun still => ?_⟩
      · simp [Hold.atCloseAll, releasing]
      · simp [Hold.atCloseAll, granted, startTimer, seconds]
      · rcases still with owned | returning
        · simp [Hold.atCloseAll, owned]
        · simp [Hold.atCloseAll, returning]
    · unfold Core.holdAtCloseAll
      rw [releasing]
      exact if_neg fun ⟨due, _⟩ => ready due
    · obtain ⟨granted, owned⟩ := changeLevel_below_hold e k g above
      exact ⟨granted, fun state filtered unarmed => owned state ((requested_iff _).2 ⟨filtered, unarmed⟩)⟩

end

section
/-! SUPPORT. The withdrawal test of R90 by what it finds unsent, and what STATIC_SET and STATIC_CLEAR write and hand on
(R38 to R41); the statement on static entries. -/

namespace Sys2Proof.Machine

/-! ### What the withdrawal test of R90 finds unsent -/

section Unsent

variable {e : Env} {c d : Core} {o : OpeningId} {target : Nat} {i : SlotId} {x : Slot}

/-- What is pending for an opening depends on its commissioned fields alone, of all the core is told. -/
theorem pendingOf_com {f : Env} (same : f.com o = e.com o) (n : Nat) : c.pendingOf f o n = c.pendingOf e o n := by
  unfold Core.pendingOf Env.segment
  rw [same]

theorem startWithdrawn_com {f : Env} (same : f.com o = e.com o) (h : startWithdrawn e o i x c d) :
    startWithdrawn f o i x c d := by
  unfold startWithdrawn
  rwa [pendingOf_com same, same]

theorem stopAsked_com {f : Env} (same : f.com o = e.com o) {l : Live} {cause : StopCause}
    (h : stopAsked e o i x l cause c) : stopAsked f o i x l cause c := by
  unfold stopAsked
  rwa [pendingOf_com same, pendingOf_com same, pendingOf_com same]

theorem live_enqueue_same (cls : JobClass) (place : BandEnd) : (c.enqueue e o target cls place).live o =
    { c.live o with state := .queued, target := some target, jobClass := some cls, dwellReason := none, stopCause := none,
                    restTimer := none, dwellTimer := none } := by
  unfold Core.enqueue
  dsimp only
  rw [live_trigger, live_setLive_same]
  rfl

/-- An unsent DRIVE that nothing bars is left (R90). -/
theorem recheckDrive_unbarred {start : Bool} (unsent : unsentDrive e c o target start i x)
    (free : e.bars o (c.live o).position target = none) : c.recheckDrive e o = c := by
  obtain ⟨⟨r, v, pending, body⟩, _, _⟩ := unsent
  simp only [Core.recheckDrive, pending, body, free]

/-- A barred start DRIVE is withdrawn (R90). -/
theorem recheckDrive_withdraws {cause : StopCause} (unsent : unsentDrive e c o target true i x)
    (barred : e.bars o (c.live o).position target = some cause) : startWithdrawn e o i x c (c.recheckDrive e o) := by
  obtain ⟨⟨r, v, pending, body⟩, hi, hx⟩ := unsent
  obtain ⟨y, hy, own⟩ := slotOf_occupied c o i hi
  cases hx.symm.trans hy
  have withdrawn : c.recheckDrive e o = (c.freeSlot e i).enqueue e o x.target x.cls .head := by
    simp only [Core.recheckDrive, pending, body, barred, if_true, hi, hx]
  rw [withdrawn]
  refine ⟨look_freeSlot_same e c i, ?_, rfl, ?_, _, (mem_insertJob _ _ _).2 (.inl rfl), rfl, rfl, rfl, rfl,
    fun k hk band => markFor_head_lt _ _ k (by rwa [freeSlot_queue]) band⟩
  · rw [freeSlot_eq _ _ _ _ hx, own]
    exact pendingOf_withdraw e { c with slots := put c.slots i none } o RequestBody.ofDrive 1
      (by simp +contextual [RequestBody.ofDrive])
  · rw [live_enqueue_same, live_freeSlot]

/-- A barred re-drive gives way to a stop (R90). -/
theorem recheckDrive_stops {cause : StopCause} (unsent : unsentDrive e c o target false i x)
    (barred : e.bars o (c.live o).position target = some cause) (driving : (c.live o).state = .driving) :
    stopAsked e o i x (c.live o) cause (c.recheckDrive e o) := by
  obtain ⟨⟨r, v, pending, body⟩, hi, hx⟩ := unsent
  have sent : c.startUnsent e o = false := by simp only [Core.startUnsent, pending, body]
  have stopped : c.recheckDrive e o = c.requestStop e o cause := by
    simp only [Core.recheckDrive, pending, body, barred, Bool.false_eq_true, if_false]
  rw [stopped]
  exact requestStop_asked e o cause c i x driving hi hx sent

/-- An unsent DRIVE of a spared opening is still unsent. -/
theorem unsentDrive.spared {start : Bool} (unsent : unsentDrive e c o target start i x) (only : c.OnlySlot o i)
    (h : c.Spares e o d) : unsentDrive e d o target start i x := by
  obtain ⟨⟨r, v, pending, body⟩, hi, hx⟩ := unsent
  obtain ⟨y, hy, own⟩ := slotOf_occupied c o i hi
  cases hx.symm.trans hy
  have hx' := (h.slot i x own).2 hx
  exact ⟨⟨r, v, by rw [h.pending]; exact pending, body⟩, (only.spared h).slotOf hx' own, hx'⟩

/-- What a withdrawn start leaves stands while its opening is spared. -/
theorem startWithdrawn_of_spares {b r u : Core} (h : startWithdrawn e o i x d r) (before : b.Spares e o d)
    (after : r.Spares e o u) : startWithdrawn e o i x b u := by
  obtain ⟨empty, quiet, walk, live, j, hj, opening, aim, cls, rank, least⟩ := h
  rw [before.live] at live
  exact ⟨after.empty i empty, by rwa [after.pending], after.walk walk, after.live.trans live, j, after.queue j hj, opening,
    aim, cls, rank, fun k hk band => least k (before.queue k hk) band⟩

/-- The withdrawal tests of several openings meet each once, and spare it before and after. -/
theorem recheckAll_meets (os : List OpeningId) (nodup : os.Nodup) (h : o ∈ os) :
    ∃ d : Core, c.Spares e o d ∧ (d.recheckDrive e o).Spares e o (c.recheckAll e os) := by
  have spares (ps : List OpeningId) (c : Core) (apart : o ∉ ps) : c.Spares e o (c.recheckAll e ps) := by
    unfold Core.recheckAll
    induction ps generalizing c with
    | nil => exact .refl c
    | cons p rest ih =>
      obtain ⟨first, later⟩ : o ≠ p ∧ o ∉ rest := by simpa using apart
      exact (recheckDrive_spares e first).trans (ih _ later)
  obtain ⟨before, after, rfl⟩ := List.append_of_mem h
  obtain ⟨_, later, apart⟩ := List.nodup_append.1 nodup
  refine ⟨_, spares before c fun h => apart o h o (by simp) rfl, ?_⟩
  unfold Core.recheckAll
  rw [List.foldl_append, List.foldl_cons]
  exact spares after _ (List.nodup_cons.1 later).1

end Unsent

/-! ### Keys and kinds (R38, R39) -/

section Spelled

theorem staticKeyOf_spelled {scope subject : Byte} {k : StaticKey} (h : spellsKey scope subject k) :
    staticKeyOf scope subject = .ok k := by
  cases k with
  | opening o =>
    obtain ⟨rfl, named⟩ := h
    simp [staticKeyOf, finOf?_eq_some 128 _ o named]
  | zone z =>
    obtain ⟨rfl, named⟩ := h
    simp [staticKeyOf, finOf?_eq_some 16 _ z named]

theorem staticKindOf_spelled {kind position : Byte} {x : StaticKind} (h : spellsKind kind position x) :
    staticKindOf kind position = .ok x := by
  cases x with
  | lockout =>
    cases h
    rfl
  | pin p =>
    obtain ⟨rfl, rfl, range⟩ := h
    simp [staticKindOf, positionOf?_of_le range]

variable (s : State)

theorem keyAbsent_opening (o : OpeningId) :
    s.env.keyAbsent (.opening o) = !(look s.work.openings o).present := rfl

theorem keyAbsent_false {k : StaticKey} (h : ∀ o : OpeningId, k = .opening o → (look s.work.openings o).present = true) :
    s.env.keyAbsent k = false := by
  cases k with
  | opening o => rw [keyAbsent_opening, h o rfl]; rfl
  | zone => rfl

/-- The present openings a key covers (R41). -/
theorem mem_coveredByKey (k : StaticKey) (o : OpeningId) : o ∈ s.env.coveredByKey k ↔ s.coveredByKey k o := by
  unfold Env.coveredByKey Env.present State.coveredByKey
  simp only [List.mem_filter, mem_allOpenings, true_and]
  cases k with
  | opening p => exact and_congr .rfl decide_eq_true_iff
  | zone z => exact and_congr .rfl (decide_eq_true_iff.trans eq_comm)

theorem coveredByKey_nodup (e : Env) (k : StaticKey) : (e.coveredByKey k).Nodup :=
  ((List.nodup_finRange 128).filter _).filter _

/-- The slot that holds a key is the one found for it (R38). -/
theorem lowest_hasStaticKey (w : WorkWf s) {k : StaticKey} {i : Fin 32} {y : StaticEntry}
    (hy : look s.work.statics i = some y) (key : y.key = k) : lowest s.work.statics (hasStaticKey k) = some i := by
  obtain ⟨_, _, _, statics⟩ := workWf_iff.1 w
  refine lowest_eq_of_unique _ _ i ((hasStaticKey_iff _ _).2 ⟨y, hy, key⟩) fun j hj => ?_
  obtain ⟨z, hz, keyed⟩ := (hasStaticKey_iff _ _).1 hj
  exact (((staticsValid_iff _).1 statics i y hy).2 j z hz (keyed.trans key.symm)).symm

end Spelled

/-! ### STATIC_SET (R39, R41) -/

/-- A state with a static entry written and handed on, before the end of its event. -/
def State.placed (s : State) (i : Fin 32) (x : StaticEntry) : State :=
  (s.withStatics (put s.work.statics i (some x))).within fun e c =>
    match x.kind with
    | .lockout => (c.joinAll (e.coveredByKey x.key)).recheckAll e (e.coveredByKey x.key)
    | .pin _ => c.joinAll (e.coveredByKey x.key)

section Placed

variable {s : State} {i : Fin 32} {k : StaticKey}

theorem putStatic_eq (s : State) (i : Fin 32) (x : StaticEntry) : s.putStatic i x = (s.placed i x).settled := rfl

theorem recheckAll_resolveSet (e : Env) (os : List OpeningId) (c : Core) :
    (c.recheckAll e os).resolveSet = c.resolveSet :=
  foldl_leaves Core.resolveSet _ (fun d o => (recheckDrive_leaves e o d).resolveSet) os c

theorem mem_placed (x : StaticEntry) (o : OpeningId) : o ∈ (s.placed i x).core.resolveSet ↔
    o ∈ s.core.resolveSet ∨ s.coveredByKey x.key o := by
  have joined := mem_joinAll ((s.withStatics (put s.work.statics i (some x))).env.coveredByKey x.key) s.core o
  rw [mem_coveredByKey] at joined
  unfold State.placed
  cases kind : x.kind with
  | lockout =>
    simp only [State.within_core, recheckAll_resolveSet]
    exact joined
  | pin p =>
    simp only [State.within_core]
    exact joined

/-- A written entry is placed as R41 says. -/
theorem placed_staticPlaced (x : StaticEntry) : staticPlaced s i x (s.placed i x) := by
  refine ⟨rfl, rfl, fun o h => (mem_placed x o).2 h, fun pin => ?_⟩
  obtain ⟨openings, _, slots, _⟩ := joinAll_rest
    ((s.withStatics (put s.work.statics i (some x))).env.coveredByKey x.key) s.core
  refine ⟨?_, ?_, fun o h => (mem_placed x o).1 h⟩
  · unfold State.placed
    cases kind : x.kind with
    | lockout => exact absurd kind pin
    | pin p => exact openings
  · unfold State.placed
    cases kind : x.kind with
    | lockout => exact absurd kind pin
    | pin p => exact slots

/-- A written LOCKOUT bars every opening it covers (R41). -/
theorem lockedOut_placed {o : OpeningId} (covered : s.coveredByKey k o) :
    (s.withStatics (put s.work.statics i (some ⟨k, .lockout⟩))).env.lockedOut o = true := by
  unfold Env.lockedOut
  rw [List.any_eq_true]
  refine ⟨_, (mem_toList_iff _ _).2 ⟨i, look_put_same _ _ _⟩, ?_⟩
  obtain ⟨_, covers⟩ := covered
  cases k with
  | opening p => simpa [StaticEntry.covers] using covers
  | zone z =>
    have zone : z = (look s.work.openings o).zone := Eq.symm covers
    simp only [Option.any_some, StaticEntry.covers, decide_true, Bool.true_and]
    exact decide_eq_true zone

/-- A written LOCKOUT meets the drives of the openings it covers (R41, R90). -/
theorem placed_lockoutHandedOver (w : DrivesWf s) : lockoutHandedOver s k (s.placed i ⟨k, .lockout⟩) := by
  intro o j x covered hj hx
  obtain ⟨y, hy, own⟩ := slotOf_occupied s.core o j hj
  cases hx.symm.trans hy
  have locked := lockedOut_placed (i := i) covered
  generalize written : (s.withStatics (put s.work.statics i (some ⟨k, .lockout⟩))).env = e at locked
  have com : e.com o = s.env.com o := by rw [← written]; rfl
  have handed : (s.placed i ⟨k, .lockout⟩).core =
      (s.core.joinAll (e.coveredByKey k)).recheckAll e (e.coveredByKey k) := by rw [← written]; rfl
  have inside : o ∈ e.coveredByKey k := by rw [← written]; exact (mem_coveredByKey _ k o).2 covered
  obtain ⟨openings, queue, slots, _⟩ := joinAll_rest (e.coveredByKey k) s.core
  have joined : s.core.Spares e o (s.core.joinAll (e.coveredByKey k)) := by
    rw [joinAll_eq]
    exact .of_eq rfl rfl rfl rfl (joinAll_widens _) id
  obtain ⟨d, spared, after⟩ := recheckAll_meets (c := s.core.joinAll (e.coveredByKey k)) (e.coveredByKey k)
    (coveredByKey_nodup e k) inside
  have before := joined.trans spared
  have only : s.core.OnlySlot o j := own ▸ onlySlot_of_drivesWf w hx
  have barred (t : Nat) : e.bars o (d.live o).position t = some .lockout := if_pos locked
  rw [← handed] at after
  have pending (n : Nat) : s.core.pendingOf e o n = s.core.pendingOf s.env o n := pendingOf_com com n
  have unsent {t : Nat} {start : Bool} (h : unsentDrive s.env s.core o t start j x) : unsentDrive e d o t start j x := by
    refine unsentDrive.spared (c := s.core) ?_ only before
    obtain ⟨⟨r, v, held, body⟩, rest⟩ := h
    exact ⟨⟨r, v, (pending 1).trans held, body⟩, rest⟩
  refine ⟨fun quiet => ?_, fun t h => ?_, fun t h driving => ?_⟩
  · rw [recheckDrive_quiet e o d (by rw [before.pending, pending]; exact quiet)] at after
    exact ⟨after.live.trans before.live, (after.slot j x own).2 ((before.slot j x own).2 hx)⟩
  · exact startWithdrawn_com com.symm
      (startWithdrawn_of_spares (recheckDrive_withdraws (unsent h) (barred t)) before after)
  · have asked := after.stopAsked own (recheckDrive_stops (unsent h) (barred t) (by rw [before.live]; exact driving))
    rw [before.live] at asked
    exact stopAsked_com com.symm asked

end Placed

/-! ### The verdicts of STATIC_SET and STATIC_CLEAR (R39, R40) -/

section Verdicts

variable {s : State} {scope subject kind position : Byte} {k : StaticKey} {x : StaticKind}

theorem serveStaticSet_saving (saving : s.store.state = .saving) :
    serveStaticSet scope subject kind position s = (s, .refused .busy) := if_pos saving

theorem serveStaticClear_saving (saving : s.store.state = .saving) :
    serveStaticClear scope subject s = (s, .refused .busy) := if_pos saving

variable (idle : s.store.state = .idle) (key : spellsKey scope subject k)
include idle key

theorem serveStaticSet_spelled (kinded : spellsKind kind position x) :
    serveStaticSet scope subject kind position s = s.setStatic ⟨k, x⟩ := by
  simp [serveStaticSet, idle, staticKeyOf_spelled key, staticKindOf_spelled kinded]

/-- A PIN above 100 is out of range (R39). -/
theorem serveStaticSet_outOfRange (b : Byte) (far : 100 < b.toNat) :
    serveStaticSet scope subject 1 b s = (s, .outOfRange 4) := by
  simp [serveStaticSet, idle, staticKeyOf_spelled key, staticKindOf, positionOf?_of_lt far]

theorem serveStaticClear_absent (absent : s.env.keyAbsent k = true) :
    serveStaticClear scope subject s = (s, .refused .noSuchOpening) := by
  simp [serveStaticClear, idle, staticKeyOf_spelled key, absent]

variable (present : s.env.keyAbsent k = false)
include present

theorem serveStaticClear_missing (missing : ∀ j : Fin 32, hasStaticKey k (look s.work.statics j) = false) :
    serveStaticClear scope subject s = (s, .refused .notFound) := by
  simp [serveStaticClear, idle, staticKeyOf_spelled key, present, (lowest_eq_none _ _).2 missing]

theorem serveStaticClear_held {i : Fin 32} (held : lowest s.work.statics (hasStaticKey k) = some i) :
    serveStaticClear scope subject s = ({ s.withStatics (put s.work.statics i none) with
      core := s.core.joinAll ((s.withStatics (put s.work.statics i none)).env.coveredByKey k) }, .ok []) := by
  simp only [serveStaticClear, idle, staticKeyOf_spelled key, present, held]
  rfl

end Verdicts

section Set

variable {s : State} {k : StaticKey} (x : StaticKind)

theorem setStatic_absent (absent : s.env.keyAbsent k = true) : s.setStatic ⟨k, x⟩ = (s, .refused .noSuchOpening) :=
  if_pos absent

variable (present : s.env.keyAbsent k = false)
include present

theorem setStatic_held {i : Fin 32} (held : lowest s.work.statics (hasStaticKey k) = some i) :
    s.setStatic ⟨k, x⟩ = ((s.placed i ⟨k, x⟩).settled, .ok [byteOf i.val]) := by
  simp only [State.setStatic, present, Bool.false_eq_true, if_false, held]
  rfl

variable (missing : ∀ j : Fin 32, hasStaticKey k (look s.work.statics j) = false)
include missing

theorem setStatic_empty {i : Fin 32} (empty : lowestEmpty s.work.statics i) :
    s.setStatic ⟨k, x⟩ = ((s.placed i ⟨k, x⟩).settled, .ok [byteOf i.val]) := by
  obtain ⟨free, below⟩ := empty
  have first : lowest s.work.statics Option.isNone = some i := by
    refine lowest_eq_some _ _ i (by rw [free]; rfl) fun j hj => ?_
    have occupied := below j hj
    cases h : look s.work.statics j <;> simp [h] at occupied ⊢
  simp only [State.setStatic, present, Bool.false_eq_true, if_false, (lowest_eq_none _ _).2 missing, first]
  rfl

theorem setStatic_full (full : ∀ i : Fin 32, (look s.work.statics i).isSome = true) :
    s.setStatic ⟨k, x⟩ = (s, .refused .tableFull) := by
  have none : lowest s.work.statics Option.isNone = none := (lowest_eq_none _ _).2 fun j => by
    have occupied := full j
    cases h : look s.work.statics j <;> simp [h] at occupied ⊢
  simp only [State.setStatic, present, Bool.false_eq_true, if_false, (lowest_eq_none _ _).2 missing, none]

end Set

end Sys2Proof.Machine

open Sys2Proof Sys2Proof.Machine

/-- Settles O20: STATIC_SET and STATIC_CLEAR by the store's state, the opening, the key's slot and the empty slots (R39 to
R41, R90). -/
theorem staticEntriesAreSetAndCleared : Obligations.StaticEntriesAreSetAndCleared := by
  unfold Obligations.StaticEntriesAreSetAndCleared
  intro scope subject kind position k x s takes key kinded
  have setSent (a b : Byte) (t : State) (v : Verdict) (h : serveStaticSet scope subject a b s = (t, v)) :
      exec (.staticSet .service scope subject a b) s = .next (t.sending .service (v.reply 11)) :=
    exec_served (.staticSet scope subject a b) .service s t v takes rfl h
  have clearSent (t : State) (v : Verdict) (h : serveStaticClear scope subject s = (t, v)) :
      exec (.staticClear .service scope subject) s = .next (t.sending .service (v.reply 12)) :=
    exec_served (.staticClear scope subject) .service s t v takes rfl h
  refine ⟨fun saving => ⟨setSent _ _ _ _ (serveStaticSet_saving saving), clearSent _ _ (serveStaticClear_saving saving)⟩,
    fun idle => ⟨fun b far => setSent _ _ _ _ (serveStaticSet_outOfRange idle key b far), fun o opening absent => ?absent,
      fun present => ?present⟩⟩
  case absent =>
    have gone : s.env.keyAbsent k = true := by
      rw [opening, keyAbsent_opening, absent]
      rfl
    exact ⟨setSent _ _ _ _ ((serveStaticSet_spelled idle key kinded).trans (setStatic_absent x gone)),
      clearSent _ _ (serveStaticClear_absent idle key gone)⟩
  case present =>
    have there := keyAbsent_false s present
    have served := serveStaticSet_spelled idle key kinded
    have written (i : Fin 32) (h : s.setStatic ⟨k, x⟩ = ((s.placed i ⟨k, x⟩).settled, .ok [byteOf i.val])) :
        ∃ u : State, exec (.staticSet .service scope subject kind position) s =
          .next (u.settled.sendingOk .service 11 [byteOf i.val]) ∧ staticPlaced s i ⟨k, x⟩ u ∧
          (x = .lockout → DrivesWf s → lockoutHandedOver s k u) := by
      refine ⟨s.placed i ⟨k, x⟩, setSent _ _ _ _ (served.trans h), placed_staticPlaced _, ?_⟩
      rintro rfl w
      exact placed_lockoutHandedOver w
    refine ⟨fun i y w hy keyed => ⟨written i (setStatic_held x there (lowest_hasStaticKey s w hy keyed)), ?_⟩,
      fun missing => ⟨clearSent _ _ (serveStaticClear_missing idle key there missing), fun i empty =>
        written i (setStatic_empty x there missing empty), fun full =>
        setSent _ _ _ _ (served.trans (setStatic_full x there missing full))⟩⟩
    have held := lowest_hasStaticKey s w hy keyed
    obtain ⟨openings, _, slots, _⟩ := joinAll_rest
      ((s.withStatics (put s.work.statics i none)).env.coveredByKey k) s.core
    refine ⟨_, clearSent _ _ (serveStaticClear_held idle key there held), rfl, fun o => ?_, openings, slots⟩
    exact (mem_joinAll _ _ o).trans (or_congr .rfl (mem_coveredByKey _ k o))

end

section
/-! SUPPORT. A drive that starts, one whose opening is resolved again, and the reply to its DRIVE (R82, R88 to R101); the
statement on them. -/

namespace Sys2Proof.Machine

/-! ### The start of a drive (R88) -/

/-- The slot of a drive as it starts (R82, R88). -/
def Job.startSlot (e : Env) (c : Core) (j : Job) (a : Ability) : Slot :=
  { opening := j.opening, phase := .starting, direction := directionOf (c.live j.opening).position j.target
    target := j.target, cls := j.cls, speed := speedOf (some a) j.cls, reserved := a.rated
    runDeadline := e.now + runLimit a.stroke (speedOf (some a) j.cls), startTime := e.now, startWalk := c.walkCount
    stopNaks := 0, runTimer := true, orphanEnd := none, progressPoll := none }

section Start

variable {e : Env} {c : Core} {j : Job} {i : SlotId} {a : Ability}

/-- The lowest-numbered empty slot is the first one found. -/
theorem lowest_isNone {α : Type} {n : Nat} {v : Vector (Option α) n} {i : Fin n} (empty : lowestEmpty v i) :
    lowest v Option.isNone = some i := by
  obtain ⟨free, below⟩ := empty
  refine lowest_eq_some _ _ i (by rw [free]; rfl) fun k hk => ?_
  have occupied := below k hk
  cases h : look v k <;> simp [h] at occupied ⊢

theorem startDrive_eq (empty : lowestEmpty c.slots i) (enrolled : (c.live j.opening).ability = some a) :
    c.startDrive e j = Core.ask e j.opening (.drive j.target (speedOf (some a) j.cls) true)
      (Core.setLive (Core.removeJob j.opening { c with slots := put c.slots i (some (j.startSlot e c a)) }) j.opening
        fun l => { l with state := .driving, target := some j.target, jobClass := some j.cls }) := by
  simp only [Core.startDrive, lowest_isNone empty, Core.rated, enrolled]
  rfl

theorem startDrive_slots (empty : lowestEmpty c.slots i) (enrolled : (c.live j.opening).ability = some a) :
    (c.startDrive e j).slots = put c.slots i (some (j.startSlot e c a)) := by
  rw [startDrive_eq empty enrolled]
  rfl

theorem startDrive_live (empty : lowestEmpty c.slots i) (enrolled : (c.live j.opening).ability = some a) :
    (c.startDrive e j).live j.opening =
      { c.live j.opening with state := .driving, target := some j.target, jobClass := some j.cls } := by
  rw [startDrive_eq empty enrolled, live_ask, live_setLive_same]
  rfl

theorem startDrive_queue (empty : lowestEmpty c.slots i) (enrolled : (c.live j.opening).ability = some a) :
    (c.startDrive e j).queue = dropJob j.opening c.queue := by
  rw [startDrive_eq empty enrolled]
  rfl

theorem startDrive_asks (empty : lowestEmpty c.slots i) (enrolled : (c.live j.opening).ability = some a) :
    ((c.startDrive e j).pendingOf e j.opening 1).isSome = true := by
  rw [startDrive_eq empty enrolled]
  exact pendingOf_ask e _ j.opening (.drive j.target _ true)

end Start

/-! ### A drive that gives way (R91, R96) -/

section GivesWay

variable {e : Env} {c : Core} {o : OpeningId} {i : SlotId} {x : Slot}

/-- A stop request of an opening whose start DRIVE is unsent is confirmed at once (R88, R96). -/
theorem requestStop_unsent (cause : StopCause) (driving : (c.live o).state = .driving) (hi : c.slotOf o = some i)
    (hx : look c.slots i = some x) (unsent : c.startUnsent e o = true) :
    c.requestStop e o cause = Core.settleStop e o cause ((c.live o).jobClass.getD x.cls) .none
      ((c.setLive o fun l => { l with state := .stopping, stopCause := some cause }).freeSlot e i) := by
  simp only [Core.requestStop, driving, hi, unsent, if_true]
  rw [confirmStop_eq e o none .none _ i x (by exact hi) (by exact hx), live_setLive_same]
  rfl

theorem afterRetarget_slots (c : Core) : (c.afterRetarget e o).slots = c.slots := by
  unfold Core.afterRetarget
  repeat' split
  all_goals rfl

/-- A drive under a lockout or without a target that it may reach gives way to a stop (R91, R96). -/
theorem requestStop_gaveWay {s : State} {l : Live} {cause : StopCause} (barring : cause = .lockout ∨ cause = .retarget)
    (live : c.live o = l) (driving : l.state = .driving) (hi : c.slotOf o = some i) (hx : look c.slots i = some x)
    (pending : c.pendingOf s.env o 1 = s.core.pendingOf s.env o 1) :
    gaveWay s o i x l cause (c.requestStop s.env o cause) := by
  have unsent : c.startUnsent s.env o = s.core.startUnsent s.env o := by
    unfold Core.startUnsent
    rw [pending]
  rw [← live] at driving ⊢
  refine ⟨fun sent => requestStop_asked s.env o cause c i x driving hi hx (unsent.trans sent), fun waits => ?_⟩
  rw [requestStop_unsent cause driving hi hx (unsent.trans waits)]
  generalize freed : (c.setLive o fun l => { l with state := .stopping, stopCause := some cause }).freeSlot s.env i = f
  have empty : look f.slots i = none := by rw [← freed]; exact look_freeSlot_same _ _ _
  have walk : f.walkTriggered = true := by rw [← freed]; exact freeSlot_walkTriggered _ _ _ x (by exact hx)
  have record : f.live o = { c.live o with state := .stopping, stopCause := some cause } := by
    rw [← freed, live_freeSlot, live_setLive_same]
  rcases barring with rfl | rfl
  · refine ⟨empty, walk, fun _ => ?_, nofun⟩
    exact (live_enterLockedOut o f).trans (by rw [record]; rfl)
  · have done := afterRetarget_done s.env o f
    rw [record] at done
    refine ⟨?_, ?_, nofun, fun _ => done⟩
    · exact (congrArg (look · i) (afterRetarget_slots f)).trans empty
    · exact (afterRetarget_walkTriggered s.env o f).trans walk

end GivesWay

/-! ### A drive resolved again (R92, R93) -/

/-- RESOLVE_OPENING takes the first of the pending-resolution set and hands its resolution on (R42, R47). -/
theorem exec_resolveOpening_taken {s : State} {o : OpeningId} {rest : List OpeningId} (running : s.inReset = false)
    (first : s.core.resolveSet = o :: rest) : exec .resolveOpening s =
      .next ({ s with core := Core.handOn s.env o (resolve s.env s.claims (s.core.live o).ability o)
                        { s.core with resolveSet := rest } } : State).settled := by
  rw [exec_resolveOpening, coreEvent_running _ _ running]
  unfold State.within Core.resolveNext
  dsimp only
  rw [first]

theorem setSlot_unchanged {c : Core} {i : SlotId} {f : Slot → Slot} (h : (look c.slots i).map f = look c.slots i) :
    c.setSlot i f = c := by
  unfold Core.setSlot
  rw [h, put_look]

section Retarget

variable {e : Env} {c : Core} {o : OpeningId} {i : SlotId} {x : Slot} {target : Nat} {cls : JobClass}
  (hi : c.slotOf o = some i) (hx : look c.slots i = some x)

/-- The record of a drive with its opening's new target and class. -/
def Core.aimed (c : Core) (o : OpeningId) (target : Nat) (cls : JobClass) : Core :=
  c.setLive o fun l => { l with target := some target, jobClass := some cls }

include hi hx

theorem retarget_reached (there : (c.live o).position.reached target = true) :
    c.retarget e o target cls = (c.aimed o target cls).requestStop e o .retarget := by
  simp only [Core.retarget, hi, hx, there, if_true]
  rfl

variable (away : (c.live o).position.reached target = false)
include away

/-- The same target at the same speed writes the class alone (R92). -/
theorem retarget_same (aim : target = x.target) (speed : speedOf (c.live o).ability cls = x.speed) :
    c.retarget e o target cls = (c.aimed o target cls).setSlot i fun x => { x with cls := cls } := by
  subst aim
  simp only [Core.retarget, hi, hx, away, Bool.false_eq_true, if_false, speed, true_and, and_true, if_true]
  split
  · next same =>
    refine (setSlot_unchanged ?_).symm
    rw [Core.setLive_slots, hx, Option.map_some, same]
  · rfl

/-- A target in the same direction, or the same one from UNKNOWN, at another target or speed is a re-drive (R93). -/
theorem retarget_reDrives (moved : target ≠ x.target ∨ speedOf (c.live o).ability cls ≠ x.speed)
    (onward : ((c.live o).position ≠ .unknown ∧ directionOf (c.live o).position target = x.direction) ∨
      ((c.live o).position = .unknown ∧ target = x.target)) :
    c.retarget e o target cls = c.reDrive e o i target cls (speedOf (c.live o).ability cls) := by
  have changed : ¬ (target = x.target ∧ speedOf (c.live o).ability cls = x.speed) :=
    fun ⟨aim, speed⟩ => moved.elim (absurd aim) (absurd speed)
  simp only [Core.retarget, hi, hx, away, Bool.false_eq_true, if_false]
  rw [if_neg fun ⟨aim, _, speed⟩ => changed ⟨aim, speed⟩, if_neg changed]
  rcases onward with same | ⟨unknown, aim⟩
  · rw [if_pos same]
  · rw [if_neg fun ⟨known, _⟩ => known unknown, if_pos ⟨unknown, aim⟩]

/-- Any other target gives way to a stop with cause RETARGET (R92). -/
theorem retarget_stops (moved : target ≠ x.target ∨ speedOf (c.live o).ability cls ≠ x.speed)
    (back : ((c.live o).position ≠ .unknown ∧ directionOf (c.live o).position target ≠ x.direction) ∨
      ((c.live o).position = .unknown ∧ target ≠ x.target)) :
    c.retarget e o target cls = (c.aimed o target cls).requestStop e o .retarget := by
  have changed : ¬ (target = x.target ∧ speedOf (c.live o).ability cls = x.speed) :=
    fun ⟨aim, speed⟩ => moved.elim (absurd aim) (absurd speed)
  simp only [Core.retarget, hi, hx, away, Bool.false_eq_true, if_false]
  rw [if_neg fun ⟨aim, _, speed⟩ => changed ⟨aim, speed⟩, if_neg changed]
  rcases back with ⟨known, turned⟩ | ⟨unknown, aim⟩
  · rw [if_neg fun ⟨_, same⟩ => turned same, if_neg fun ⟨unknown, _⟩ => known unknown]
    rfl
  · rw [if_neg fun ⟨known, _⟩ => known unknown, if_neg fun ⟨_, same⟩ => aim same]
    rfl

end Retarget

/-- What a re-drive leaves (R93). -/
theorem reDrive_reDriven {e : Env} {c : Core} {o : OpeningId} {i : SlotId} {x : Slot} {a : Ability} (target : Nat)
    (cls : JobClass) (hx : look c.slots i = some x) (enrolled : (c.live o).ability = some a) :
    reDriven e o i x (c.live o) a target cls (c.reDrive e o i target cls (speedOf (some a) cls)) := by
  refine ⟨?_, ?_, pendingOf_ask e _ o (.drive target _ false)⟩
  · rw [reDrive_slot _ _ _ _ _ _ _ _ hx, enrolled]
    rfl
  · unfold Core.reDrive
    rw [live_ask, live_setLive_same]
    rfl

/-! ### The unsent DRIVE and its test (R90) -/

/-- What bars an unsent DRIVE: a lockout, or a latch where its target lies above the stored position (R90). -/
theorem bars_eq {e : Env} {o : OpeningId} {p : Position} {target : Nat} {above : Bool}
    (reads : above = true ↔ (p = .unknown ∧ 0 < target) ∨ ∃ q : Nat, p = .percent q ∧ q < target) :
    (e.lockedOut o = false → look e.latches o = false ∨ above = false → e.bars o p target = none) ∧
    (e.lockedOut o = true ∨ (look e.latches o = true ∧ above = true) →
      e.bars o p target = some (if e.lockedOut o then .lockout else .retarget)) := by
  have stored : aboveStored p target = above := by
    rw [Bool.eq_iff_iff, reads]
    cases p <;> simp [aboveStored]
  unfold Env.bars Env.latched
  rw [stored]
  refine ⟨fun free low => ?_, fun barred => ?_⟩
  · rcases low with low | low <;> simp [free, low]
  · rcases barred with locked | ⟨latched, high⟩
    · simp [locked]
    · cases e.lockedOut o <;> simp [latched, high]

/-! ### The reply to a DRIVE (R89, R94) -/

section Replies

variable {e : Env} {c : Core} {o : OpeningId} {i : SlotId} {x : Slot} {l : Live} {r : NodeReply}

theorem takeReply_start {g : Segment} {t : Transaction} {target : Nat} {v : Speed} (body : t.body = .drive target v true)
    (quiet : c.pendingOf e t.opening 1 = none) : c.takeReply e g t r = (c.told e g t r).startReply e t.opening r := by
  rw [← storeReport_ended e g t r c quiet]
  simp only [Core.takeReply, body]
  rfl

theorem takeReply_reDrive {g : Segment} {t : Transaction} {target : Nat} {v : Speed}
    (body : t.body = .drive target v false) (quiet : c.pendingOf e t.opening 1 = none) :
    c.takeReply e g t r = (c.told e g t r).reDriveReply e t.opening r := by
  rw [← storeReport_ended e g t r c quiet]
  simp only [Core.takeReply, body]
  rfl

variable (live : c.live o = l) (hi : c.slotOf o = some i) (hx : look c.slots i = some x)
include live hi hx

/-- An outcome is taken as R99 and R101 say. -/
theorem takeOutcome_taken (locked : Option Bool) (out : DriveOutcome) :
    outcomeTaken e o i l (judgedOutcome l x locked out) (c.takeOutcome e o locked out) := by
  have freed : look (c.freeSlot e i).slots i = none := look_freeSlot_same e c i
  have walk : (c.freeSlot e i).walkTriggered = true := freeSlot_walkTriggered e i c x hx
  have record : (c.freeSlot e i).live o = l := (live_freeSlot e c i o).trans live
  have fails (f : Failure) : look ((c.freeSlot e i).takeFailure e o f).slots i = none ∧
      ((c.freeSlot e i).takeFailure e o f).walkTriggered = true ∧
      failureTaken e o f l ((c.freeSlot e i).takeFailure e o f) :=
    ⟨by rwa [takeFailure_slots], by rwa [takeFailure_walkTriggered], record ▸ takeFailure_taken e o _ f⟩
  cases judged : judgedOutcome l x locked out with
  | none => exact ⟨nofun, nofun, nofun, fun h => absurd rfl h⟩
  | reached =>
    rw [takeOutcome_reached e o locked out hi hx (live.symm ▸ judged)]
    refine ⟨fun _ => ⟨?_, ?_⟩, nofun, nofun, fun _ => ⟨freed, walk⟩⟩
    · rw [live_enterIdle, live_setLive_same, record]
      rfl
    · simp [enterIdle_eq]
  | stalled =>
    rw [takeOutcome_failed e o locked out c i x .cutOff hi hx (fun _ => live.symm ▸ judged) nofun nofun]
    obtain ⟨empty, walks, failed⟩ := fails .cutOff
    exact ⟨nofun, fun _ => failed, nofun, fun _ => ⟨empty, walks⟩⟩
  | obstructed =>
    rw [takeOutcome_failed e o locked out c i x .obstruction hi hx nofun (fun _ => live.symm ▸ judged) nofun]
    obtain ⟨empty, walks, failed⟩ := fails .obstruction
    exact ⟨nofun, nofun, fun _ => failed, fun _ => ⟨empty, walks⟩⟩

/-- The reply to a start DRIVE of a DRIVING opening begins RUNNING and takes its outcome, or is a failed start (R89). -/
theorem startReply_driving (driving : l.state = .driving) :
    (r.answer = .ack → outcomeTaken e o i l (judgedOutcome l x r.locked r.outcome) (c.startReply e o r) ∧
      (judgedOutcome l x r.locked r.outcome = .none → (c.startReply e o r).live o = l ∧
        look (c.startReply e o r).slots i = some { x with phase := .running, progressPoll := some ⟨e.now, 1000⟩ })) ∧
    (r.answer = .nak → look (c.startReply e o r).slots i = none ∧ (c.startReply e o r).walkTriggered = true ∧
      failureTaken e o .failedStart l (c.startReply e o r)) := by
  have state : (c.live o).state = .driving := live ▸ driving
  refine ⟨fun ack => ?_, fun nak => ?_⟩
  · have reply : c.startReply e o r = (c.setSlot i fun s =>
        { s with phase := .running, progressPoll := some ⟨e.now, 1000⟩ }).takeOutcome e o r.locked r.outcome := by
      simp only [Core.startReply, hi, hx, state, ack]
      rfl
    have running := look_setSlot_same c i (fun s => { s with phase := .running, progressPoll := some ⟨e.now, 1000⟩ }) x hx
    have own := (slotOf_setSlot c i (fun s => { s with phase := .running, progressPoll := some ⟨e.now, 1000⟩ }) o
      fun _ => rfl).trans hi
    rw [reply]
    refine ⟨takeOutcome_taken (c := c.setSlot i _) live own running r.locked r.outcome, fun none => ?_⟩
    rw [takeOutcome_none e o r.locked r.outcome own running (by rw [live_setSlot, live]; exact none)]
    exact ⟨live, running⟩
  · have reply : c.startReply e o r = (c.freeSlot e i).takeFailure e o .failedStart := by
      simp only [Core.startReply, Core.failStart, hi, hx, state, nak]
    have record : (c.freeSlot e i).live o = l := (live_freeSlot e c i o).trans live
    rw [reply]
    refine ⟨?_, ?_, record ▸ takeFailure_taken e o _ .failedStart⟩
    · rw [takeFailure_slots]
      exact look_freeSlot_same e c i
    · rw [takeFailure_walkTriggered]
      exact freeSlot_walkTriggered e i c x hx

/-- The reply to a re-drive of a DRIVING opening lets the drive run on, takes its outcome, or stops it (R94). -/
theorem reDriveReply_driving (driving : l.state = .driving) (quiet : c.pendingOf e o 1 = none) :
    (r.answer = .ack → outcomeTaken e o i l (judgedOutcome l x r.locked r.outcome) (c.reDriveReply e o r) ∧
      (judgedOutcome l x r.locked r.outcome = .none → (c.reDriveReply e o r).live o = l ∧
        (x.phase = .running → look (c.reDriveReply e o r).slots i =
          some { x with progressPoll := some ⟨e.now, 1000⟩ }))) ∧
    (r.answer = .nak → stopAsked e o i x l .retarget (c.reDriveReply e o r)) := by
  have state : (c.live o).state = .driving := live ▸ driving
  refine ⟨fun ack => ?_, fun nak => ?_⟩
  · have reply : c.reDriveReply e o r = (c.takeOutcome e o r.locked r.outcome).restartProgress e o := by
      simp only [Core.reDriveReply, state, ack]
    obtain ⟨reached, stalled, obstructed, freed⟩ := takeOutcome_taken (e := e) live hi hx r.locked r.outcome
    have failed {f : Failure} (h : failureTaken e o f l (c.takeOutcome e o r.locked r.outcome)) :=
      failureTaken_congr e o f l _ _ (live_restartProgress e o _ o) (restartProgress_notices e o _)
        (restartProgress_resolveSet e o _) h
    rw [reply]
    refine ⟨⟨fun out => ?_, fun out => failed (stalled out), fun out => failed (obstructed out), fun out => ?_⟩,
      fun none => ?_⟩
    · rw [live_restartProgress, restartProgress_resolveSet]
      exact reached out
    · obtain ⟨empty, walk⟩ := freed out
      exact ⟨look_restartProgress_none e o _ i empty, by rwa [restartProgress_walkTriggered]⟩
    · rw [takeOutcome_none e o r.locked r.outcome hi hx (by rw [live]; exact none), live_restartProgress]
      exact ⟨live, look_restartProgress_running e o c i x hi hx⟩
  · have reply : c.reDriveReply e o r = c.requestStop e o .retarget := by
      simp only [Core.reDriveReply, state, nak]
    rw [reply, ← live]
    exact requestStop_asked e o .retarget c i x state hi hx (by simp only [Core.startUnsent, quiet])

/-- A stop confirmed frees the slot and settles as its cause and outcome say (R16). -/
theorem confirmStop_confirmed {s : State} {cause : StopCause} (pending : l.stopCause = some cause)
    (queue : c.queue = s.core.queue) (set : c.resolveSet = s.core.resolveSet) (notices : c.notices = s.core.notices)
    (others : ∀ q : OpeningId, q ≠ o → c.live q = s.core.live q) (locked : Option Bool) (out : DriveOutcome) :
    stopConfirmed s o i x l cause (judgedOutcome l x locked out) (c.confirmStop s.env o locked out) := by
  obtain ⟨y, hy, own⟩ := slotOf_occupied c o i hi
  cases hx.symm.trans hy
  refine ⟨c.freeSlot s.env i, ?_, look_freeSlot_same _ _ _, (live_freeSlot _ _ _ _).trans live, ?_,
    freeSlot_walkTriggered _ _ _ x hx, by rw [freeSlot_queue, queue], by rw [freeSlot_resolveSet, set],
    by rw [freeSlot_notices, notices], fun q hq => (live_freeSlot _ _ _ _).trans (others q hq)⟩
  · rw [confirmStop_eq _ _ _ _ _ i x hi hx, live, pending]
    rfl
  · rw [freeSlot_eq _ _ _ _ hx, own]
    exact pendingOf_withdraw s.env { c with slots := put c.slots i none } o RequestBody.ofDrive 0
      (by simp +contextual [RequestBody.ofDrive])

/-- The reply to a start DRIVE of an opening STOPPING by then confirms the stop, but an ACK without an outcome (R97). -/
theorem startReply_stopping (stopping : l.state = .stopping) :
    (r.answer = .ack → c.startReply e o r = if judgedOutcome l x r.locked r.outcome = .none then c
      else c.confirmStop e o r.locked r.outcome) ∧
    (r.answer = .nak → c.startReply e o r = c.confirmStop e o none .none) := by
  have state : (c.live o).state = .stopping := live ▸ stopping
  refine ⟨fun ack => ?_, fun nak => ?_⟩
  · simp only [Core.startReply, hi, hx, state, ack]
    rw [live]
  · simp only [Core.startReply, hi, hx, state, nak]

/-- The reply to a re-drive of an opening STOPPING by then confirms the stop where it reports an outcome; a NAK without one
is a stop request (log entry 17). -/
theorem reDriveReply_stopping (stopping : l.state = .stopping) :
    (judgedOutcome l x r.locked r.outcome ≠ .none → c.reDriveReply e o r = c.confirmStop e o r.locked r.outcome) ∧
    (judgedOutcome l x r.locked r.outcome = .none → r.answer = .ack → c.reDriveReply e o r = c) ∧
    (judgedOutcome l x r.locked r.outcome = .none → r.answer = .nak →
      c.reDriveReply e o r = c.requestStop e o .retarget) := by
  have state : (c.live o).state = .stopping := live ▸ stopping
  have confirms (otherwise : Core → Core) : c.confirmIfOutcome e o r otherwise =
      if judgedOutcome l x r.locked r.outcome = .none then otherwise c else c.confirmStop e o r.locked r.outcome := by
    simp only [Core.confirmIfOutcome, hi, Option.bind_some, hx, live]
  refine ⟨fun out => ?_, fun none ack => ?_, fun none nak => ?_⟩
  · cases answer : r.answer <;> simp only [Core.reDriveReply, state, answer, confirms, if_neg out]
  · simp only [Core.reDriveReply, state, ack, confirms, if_pos none, id]
  · simp only [Core.reDriveReply, state, nak, confirms, if_pos none]

end Replies

/-! ### The line after the reply -/

section Line

variable (e : Env) (o : OpeningId) (c : Core) (r : NodeReply)

theorem line_takeOutcome (locked : Option Bool) (out : DriveOutcome) : LineKept c (c.takeOutcome e o locked out) := by
  unfold Core.takeOutcome
  split
  · exact .refl c
  · next i _ =>
    split
    · exact .refl c
    · split
      · exact .refl c
      · exact (line_freeSlot e c i).trans (.of_segments rfl)
      · exact (line_freeSlot e c i).trans (line_takeFailure e o _ _)
      · exact (line_freeSlot e c i).trans (line_takeFailure e o _ _)

theorem line_startReply : LineKept c (c.startReply e o r) := by
  unfold Core.startReply
  split
  · exact .refl c
  · split
    · exact .refl c
    · split
      · exact LineKept.from_segments (line_takeOutcome e o _ _ _) rfl
      · exact line_failStart e o c
      · split
        · exact .refl c
        · exact line_confirmStop e o c _ _
      · exact line_confirmStop e o c _ _
      · exact .refl c

theorem line_confirmIfOutcome (otherwise : Core → Core) (h : LineKept c (otherwise c)) :
    LineKept c (c.confirmIfOutcome e o r otherwise) := by
  unfold Core.confirmIfOutcome
  split
  · exact .refl c
  · split
    · exact h
    · exact line_confirmStop e o c _ _

theorem line_reDriveReply : LineKept c (c.reDriveReply e o r) := by
  unfold Core.reDriveReply
  split
  · exact (line_takeOutcome e o c _ _).trans (line_restartProgress e o _)
  · exact line_requestStop e o c .retarget
  · exact line_confirmIfOutcome e o c r id (.refl c)
  · exact line_confirmIfOutcome e o c r _ (line_requestStop e o c .retarget)
  · exact .refl c

end Line

end Sys2Proof.Machine

end

section
/-! SUPPORT. What RESOLVE_OPENING makes of a DRIVING opening, and the reply to a DRIVE in flight; the statement on drives. -/

namespace Sys2Proof.Machine

section Resolved

variable {s : State} {o : OpeningId} {rest : List OpeningId} {i : SlotId} {x : Slot} {l : Live} {a : Ability}
  (running : s.inReset = false) (first : s.core.resolveSet = o :: rest) (live : l = s.core.live o)
  (driving : l.state = .driving)
include running first live driving

/-- A drive resolved to a target is judged by R92. -/
theorem exec_resolveOpening_retarget {t : Nat} {cls : JobClass}
    (result : resolve s.env s.claims l.ability o = .target t cls) : exec .resolveOpening s =
      .next ({ s with core := Core.retarget s.env o t cls { s.core with resolveSet := rest } } : State).settled := by
  subst live
  rw [exec_resolveOpening_taken running first, result]
  have state : (Core.live { s.core with resolveSet := rest } o).state = .driving := driving
  unfold Core.handOn
  simp only [state]

variable (hi : s.core.slotOf o = some i) (hx : look s.core.slots i = some x)
include hi hx

/-- A drive resolved as locked out, or without a target, gives way to a stop (R47, R91). -/
theorem resolve_givesWay {res : Resolution} {cause : StopCause} (result : resolve s.env s.claims l.ability o = res)
    (given : (res = .lockout ∧ cause = .lockout) ∨ (res = .noTarget ∧ cause = .retarget)) :
    ∃ u : State, exec .resolveOpening s = .next u.settled ∧ gaveWay s o i x { l with target := none } cause u.core := by
  refine ⟨_, exec_resolveOpening_taken running first, ?_⟩
  subst live
  have barring : cause = .lockout ∨ cause = .retarget := given.imp And.right And.right
  have handed : Core.handOn s.env o (resolve s.env s.claims (s.core.live o).ability o)
      { s.core with resolveSet := rest } =
      Core.requestStop s.env o cause (Core.writeTarget o none { s.core with resolveSet := rest }) := by
    rw [result]
    have state : (Core.live { s.core with resolveSet := rest } o).state = .driving := driving
    unfold Core.handOn
    rcases given with ⟨rfl, rfl⟩ | ⟨rfl, rfl⟩
    · simp only [state]
    · simp only [state]
  dsimp only
  rw [handed]
  exact requestStop_gaveWay barring (live_setLive_same _ _ _) driving (by exact hi) (by exact hx) rfl

/-- A target that ends the drive gives way to a stop with cause RETARGET (R92). -/
theorem resolve_stops {t : Nat} {cls : JobClass} (result : resolve s.env s.claims l.ability o = .target t cls)
    (stops : Core.retarget s.env o t cls { s.core with resolveSet := rest } =
      (Core.aimed { s.core with resolveSet := rest } o t cls).requestStop s.env o .retarget) :
    ∃ u : State, exec .resolveOpening s = .next u.settled ∧
      gaveWay s o i x { l with target := some t, jobClass := some cls } .retarget u.core := by
  refine ⟨_, exec_resolveOpening_retarget running first live driving result, ?_⟩
  subst live
  dsimp only
  rw [stops]
  exact requestStop_gaveWay (.inr rfl) (live_setLive_same _ _ _) driving (by exact hi) (by exact hx) rfl

variable (enrolled : l.ability = some a)
include enrolled

/-- A DRIVING opening resolved to a target (R92, R93). -/
theorem resolve_retargets {t : Nat} {cls : JobClass} (result : resolve s.env s.claims l.ability o = .target t cls) :
    (l.position.reached t = true → ∃ u : State, exec .resolveOpening s = .next u.settled ∧
      gaveWay s o i x { l with target := some t, jobClass := some cls } .retarget u.core) ∧
    (l.position.reached t = false →
      (t = x.target → speedOf l.ability cls = x.speed → exec .resolveOpening s = .next
        ((State.withLive { s with core := { s.core with resolveSet := rest } } o
          { l with target := some t, jobClass := some cls }).withSlot i { x with cls := cls }).settled) ∧
      (t ≠ x.target ∨ speedOf l.ability cls ≠ x.speed →
        ((l.position ≠ .unknown ∧ directionOf l.position t = x.direction) ∨ (l.position = .unknown ∧ t = x.target) →
          ∃ u : State, exec .resolveOpening s = .next u.settled ∧ reDriven s.env o i x l a t cls u.core) ∧
        ((l.position ≠ .unknown ∧ directionOf l.position t ≠ x.direction) ∨ (l.position = .unknown ∧ t ≠ x.target) →
          ∃ u : State, exec .resolveOpening s = .next u.settled ∧
            gaveWay s o i x { l with target := some t, jobClass := some cls } .retarget u.core))) := by
  have stops := resolve_stops running first live driving hi hx result
  have taken := exec_resolveOpening_retarget running first live driving result
  subst live
  refine ⟨fun there => stops (retarget_reached (by exact hi) (by exact hx) there), fun away =>
    ⟨fun aim speed => ?_, fun moved => ⟨fun onward => ?_, fun back =>
      stops (retarget_stops (by exact hi) (by exact hx) away moved back)⟩⟩⟩
  · rw [taken, retarget_same (c := { s.core with resolveSet := rest }) (by exact hi) (by exact hx) away aim speed]
    unfold Core.setSlot
    rw [show look (Core.aimed { s.core with resolveSet := rest } o t cls).slots i = some x from hx]
    rfl
  · refine ⟨_, taken, ?_⟩
    have reDrives := retarget_reDrives (e := s.env) (c := { s.core with resolveSet := rest }) (by exact hi) (by exact hx)
      away moved onward
    have speed : speedOf (Core.live { s.core with resolveSet := rest } o).ability cls = speedOf (some a) cls :=
      congrArg (speedOf · cls) enrolled
    dsimp only
    rw [reDrives, speed]
    exact reDrive_reDriven (c := { s.core with resolveSet := rest }) t cls hx enrolled

end Resolved

end Sys2Proof.Machine

open Sys2Proof Sys2Proof.Machine

/-- Settles O37: a drive's slot as it starts, R92's rows, the test of R90, and the replies to a DRIVE (R82, R88 to R101). -/
theorem startsTakeTheLowestSlot : Obligations.StartsTakeTheLowestSlot := by
  unfold Obligations.StartsTakeTheLowestSlot
  refine ⟨fun e c j i a empty enrolled => ?start, fun s s' o rest i x l a running first core live driving enrolled hi hx =>
    ?resolved, fun e c o i x target start above unsent reads => ?test,
    fun g s t r o i x l target v start out running flight body fresh address plain opening segment quiet hi hx live judged =>
    ?reply⟩
  case start =>
    refine ⟨⟨j.startSlot e c a, ?_, rfl, rfl, rfl, rfl, rfl, rfl, rfl, rfl, rfl, rfl⟩, fun k hk => ?_,
      startDrive_live empty enrolled, fun k hk => ?_, startDrive_asks empty enrolled, startDrive_holds e j c,
      startDrive_notices e c j⟩
    · rw [startDrive_slots empty enrolled, look_put_same]
    · rw [startDrive_slots empty enrolled, look_put_ne _ _ _ _ hk]
    · rw [startDrive_queue empty enrolled, mem_dropJob] at hk
      exact hk.2
  case resolved =>
    subst core
    exact ⟨fun result => resolve_givesWay running first live driving hi hx result (.inl ⟨rfl, rfl⟩),
      fun result => resolve_givesWay running first live driving hi hx result (.inr ⟨rfl, rfl⟩),
      fun t cls result => resolve_retargets running first live driving hi hx enrolled result⟩
  case test =>
    obtain ⟨free, barred⟩ := bars_eq (e := e) (o := o) reads
    refine ⟨fun locked low => recheckDrive_unbarred unsent (free locked low), fun bars => ⟨fun begins => ?_,
      fun begun driving => ?_⟩⟩
    · subst begins
      exact recheckDrive_withdraws unsent (barred bars)
    · subst begun
      exact recheckDrive_stops unsent (barred bars) driving
  case reply =>
    subst opening
    have taken := exec_nodeReply_taken g s t r running flight fresh address
      (replyFits_plain r t.body plain (by simp [body, RequestBody.kind]))
    have told : (s.core.told s.env g t r).live t.opening = l := by rw [live_told_same, live]; rfl
    have free : ((s.core.told s.env g t r).segments.get g).inFlight = none := by
      rw [told_segments, ended_segment]
    have still : (s.core.told s.env g t r).pendingOf s.env t.opening 1 = none :=
      (pendingOf_ended s.env g t.address 0 s.core t.opening 1).trans quiet
    have held : (s.core.told s.env g t r).pendingOf s.env t.opening 0 = s.core.pendingOf s.env t.opening 0 :=
      pendingOf_ended s.env g t.address 0 s.core t.opening 0
    have confirms {cause : StopCause} (pending : l.stopCause = some cause) :=
      confirmStop_confirmed (s := s) told hi hx pending rfl rfl rfl (live_told_ne s.env g t r s.core)
    subst judged
    refine ⟨_, taken, ?_⟩
    rw [State.within_core]
    cases start with
    | true =>
      rw [takeReply_start body quiet]
      refine ⟨((line_startReply _ _ _ r).inFlight g).trans free, fun driving ack => ?_, fun driving nak =>
        ⟨fun _ => (startReply_driving told hi hx driving).2 nak, nofun⟩, fun cause stopping pending => ?_⟩
      · obtain ⟨outcome, runs⟩ := (startReply_driving told hi hx driving).1 ack
        exact ⟨outcome, fun none => ⟨(runs none).1, fun _ => (runs none).2, nofun⟩⟩
      · obtain ⟨acked, refused⟩ := startReply_stopping (e := s.env) (r := r) told hi hx stopping
        refine ⟨fun none ack => ?_, fun reports answer => ?_, fun nak _ => ?_, nofun⟩
        · rw [acked ack, if_pos none]
          exact ⟨told, hx, held⟩
        · rw [acked (answer.resolve_right nofun), if_neg reports]
          exact confirms pending r.locked r.outcome
        · rw [refused nak]
          exact confirms pending none .none
    | false =>
      rw [takeReply_reDrive body quiet]
      refine ⟨((line_reDriveReply _ _ _ r).inFlight g).trans free, fun driving ack => ?_, fun driving nak =>
        ⟨nofun, fun _ => (reDriveReply_driving told hi hx driving still).2 nak⟩, fun cause stopping pending => ?_⟩
      · obtain ⟨outcome, runs⟩ := (reDriveReply_driving told hi hx driving still).1 ack
        exact ⟨outcome, fun none => ⟨(runs none).1, nofun, fun _ => (runs none).2⟩⟩
      · obtain ⟨reported, acked, refused⟩ := reDriveReply_stopping (e := s.env) (r := r) told hi hx stopping
        refine ⟨fun none ack => ?_, fun reports _ => ?_, nofun, fun none nak _ => ?_⟩
        · rw [acked none ack]
          exact ⟨told, hx, held⟩
        · rw [reported reports]
          exact confirms pending r.locked r.outcome
        · rw [refused none nak, requestStop_stopping _ _ _ _ (told.symm ▸ stopping), live_setLive_same, told, pending]
          exact ⟨hx, rfl⟩

end

section
/-! SUPPORT. What full resolution finds for an opening: its lockout, its pin, the claim that wins, and the caps (R43 to
R45). -/

namespace Sys2Proof.Machine

/-! ### Static entries (R41, R43) -/

section Statics

variable {s : State} {o : OpeningId}

/-- An opening under a LOCKOUT of its own or of its zone (R41). -/
theorem lockedOut_iff : s.env.lockedOut o = true ↔ ∃ (i : Fin 32) (x : StaticEntry), look s.work.statics i = some x ∧
    x.kind = .lockout ∧ (x.key = .opening o ∨ x.key = .zone (look s.work.openings o).zone) := by
  have covers (x : StaticEntry) : x.covers s.env o = true ↔
      x.key = .opening o ∨ x.key = .zone (look s.work.openings o).zone := by
    unfold StaticEntry.covers
    cases x.key with
    | opening p => simp
    | zone z => simp only [decide_eq_true_eq, reduceCtorEq, StaticKey.zone.injEq, false_or]; exact .rfl
  unfold Env.lockedOut
  rw [List.any_eq_true]
  constructor
  · rintro ⟨slot, member, locks⟩
    obtain ⟨i, rfl⟩ := (mem_toList_iff _ _).1 member
    obtain ⟨x, hx, kind⟩ := (Option.any_eq_true _ _).1 locks
    obtain ⟨lockout, covered⟩ := Bool.and_eq_true_iff.1 kind
    exact ⟨i, x, hx, of_decide_eq_true lockout, (covers x).1 covered⟩
  · rintro ⟨i, x, hx, lockout, covered⟩
    refine ⟨_, (mem_toList_iff _ _).2 ⟨i, rfl⟩, (Option.any_eq_true _ _).2 ⟨x, hx, ?_⟩⟩
    exact Bool.and_eq_true_iff.2 ⟨decide_eq_true lockout, (covers x).2 covered⟩

/-- The position of a slot that pins a key. -/
def pinIn (key : StaticKey) (slot : Option StaticEntry) : Option Nat :=
  match slot with
  | some x =>
    if x.key = key then
      match x.kind with
      | .pin p => some p
      | .lockout => none
    else none
  | none => none

/-- The PIN of a key (R43). -/
def pinAt (v : Vector (Option StaticEntry) 32) (key : StaticKey) : Option Nat := v.toList.findSome? (pinIn key)

theorem pinOf_eq (e : Env) (o : OpeningId) : pinOf e o =
    (pinAt e.work.statics (.opening o)).or (pinAt e.work.statics (.zone (e.com o).zone)) := rfl

theorem pinIn_eq_some (key : StaticKey) (slot : Option StaticEntry) (p : Nat) :
    pinIn key slot = some p ↔ slot = some ⟨key, .pin p⟩ := by
  rcases slot with _ | ⟨k, kind⟩
  · exact iff_of_false nofun nofun
  · unfold pinIn
    dsimp only
    by_cases same : k = key
    · subst same
      rw [if_pos rfl]
      cases kind with
      | lockout => exact iff_of_false nofun nofun
      | pin q => simp
    · rw [if_neg same]
      refine iff_of_false nofun fun h => same ?_
      cases h
      rfl

/-- Static keys are unique, so the pin that is found is the entry's (R38). -/
theorem pinAt_of_look (w : WorkWf s) {i : Fin 32} {key : StaticKey} {p : Nat}
    (hx : look s.work.statics i = some ⟨key, .pin p⟩) : pinAt s.work.statics key = some p := by
  obtain ⟨_, _, _, statics⟩ := workWf_iff.1 w
  cases found : pinAt s.work.statics key with
  | none =>
    have missing := List.findSome?_eq_none_iff.1 found _ ((mem_toList_iff _ _).2 ⟨i, hx⟩)
    rw [(pinIn_eq_some key _ p).2 rfl] at missing
    cases missing
  | some q =>
    obtain ⟨slot, member, pins⟩ := List.exists_of_findSome?_eq_some found
    obtain ⟨j, rfl⟩ := (mem_toList_iff _ _).1 member
    have hy := (pinIn_eq_some key _ q).1 pins
    obtain ⟨_, unique⟩ := (staticsValid_iff _).1 statics i _ hx
    rw [← unique j _ hy rfl, hx] at hy
    cases hy
    rfl

theorem pinAt_none {key : StaticKey} (h : ∀ (j : Fin 32) (q : Nat), look s.work.statics j ≠ some ⟨key, .pin q⟩) :
    pinAt s.work.statics key = none := by
  refine List.findSome?_eq_none_iff.2 fun slot member => ?_
  obtain ⟨j, rfl⟩ := (mem_toList_iff _ _).1 member
  cases pins : pinIn key (look s.work.statics j) with
  | none => rfl
  | some q => exact absurd ((pinIn_eq_some key _ q).1 pins) (h j q)

end Statics

/-! ### The winning dynamic claim (R44) -/

section Winner

variable {s : State} {o : OpeningId}

/-- A claim whose scope covers an opening (R44). -/
def Claim.reaches (e : Env) (o : OpeningId) (x : Claim) : Prop :=
  match x.scope with
  | .opening p => p = o
  | .zone z => z = (e.com o).zone
  | .all => True

/-- The rank of a scope: OPENING before ZONE before ALL (R44). -/
def Claim.scopeRank (x : Claim) : Nat :=
  match x.scope with
  | .opening _ => 0
  | .zone _ => 1
  | .all => 2

theorem applies_iff (e : Env) (o : OpeningId) (x : Claim) :
    x.applies e o ↔ (look e.work.zones (e.com o).zone).admits x.claimant = true ∧ x.reaches e o := .rfl

theorem find_eq_some {t : Claims} {who : Claimant} {k : ClaimScope} {x : Claim} (h : t.find who k = some x) :
    ∃ i : Fin 192, look t.slots i = some x ∧ x.claimant = who ∧ x.scope = k := by
  unfold Claims.find at h
  split at h
  · next i found =>
    obtain ⟨y, hy, key⟩ := (Option.any_eq_true _ _).1 (lowest_passes _ _ i found)
    cases hy.symm.trans h
    exact ⟨i, h, by simpa using key⟩
  · cases h

theorem find_eq_none {t : Claims} {who : Claimant} {k : ClaimScope} (h : t.find who k = none) (i : Fin 192) (x : Claim)
    (hx : look t.slots i = some x) : ¬ (x.claimant = who ∧ x.scope = k) := by
  unfold Claims.find at h
  split at h
  · next j found =>
    obtain ⟨y, hy, _⟩ := (Option.any_eq_true _ _).1 (lowest_passes _ _ j found)
    cases hy.symm.trans h
  · next missing =>
    have other := (lowest_eq_none _ _).1 missing i
    rintro ⟨who_eq, scope_eq⟩
    simp [hx, who_eq, scope_eq] at other

/-- A claimant's best entry for an opening is one of its own that covers it, of the first scope that has one. -/
theorem best_some {t : Claims} {e : Env} {who : Claimant} {x : Claim} (h : t.best who o (e.com o).zone = some x) :
    (∃ i : Fin 192, look t.slots i = some x) ∧ x.claimant = who ∧ x.reaches e o ∧
      ∀ (j : Fin 192) (y : Claim), look t.slots j = some y → y.claimant = who → y.reaches e o →
        x.scopeRank ≤ y.scopeRank := by
  unfold Claims.best at h
  cases opening : t.find who (.opening o) with
  | some y =>
    rw [opening, Option.some_or] at h
    cases h
    obtain ⟨i, hx, own, scope⟩ := find_eq_some opening
    exact ⟨⟨i, hx⟩, own, by simp [Claim.reaches, scope], fun _ _ _ _ _ => by simp [Claim.scopeRank, scope]⟩
  | none =>
    rw [opening, Option.none_or] at h
    have unopened (j : Fin 192) (y : Claim) (hy : look t.slots j = some y) (own : y.claimant = who)
        (reaches : y.reaches e o) : 1 ≤ y.scopeRank := by
      have other := find_eq_none opening j y hy
      unfold Claim.reaches at reaches
      unfold Claim.scopeRank
      cases scope : y.scope with
      | opening p =>
        rw [scope] at reaches
        exact absurd ⟨own, scope.trans (congrArg _ reaches)⟩ other
      | zone | all => simp
    cases zone : t.find who (.zone (e.com o).zone) with
    | some y =>
      rw [zone, Option.some_or] at h
      cases h
      obtain ⟨i, hx, own, scope⟩ := find_eq_some zone
      refine ⟨⟨i, hx⟩, own, by simp [Claim.reaches, scope], fun j y hy who_eq reaches => ?_⟩
      simpa [Claim.scopeRank, scope] using unopened j y hy who_eq reaches
    | none =>
      rw [zone, Option.none_or] at h
      obtain ⟨i, hx, own, scope⟩ := find_eq_some h
      refine ⟨⟨i, hx⟩, own, by simp [Claim.reaches, scope], fun j y hy who_eq reaches => ?_⟩
      have first := unopened j y hy who_eq reaches
      have other := find_eq_none zone j y hy
      unfold Claim.reaches at reaches
      unfold Claim.scopeRank at first ⊢
      rw [scope]
      cases place : y.scope with
      | opening p => simp [place] at first
      | zone z =>
        rw [place] at reaches
        exact absurd ⟨who_eq, place.trans (congrArg _ reaches)⟩ other
      | all => simp

theorem best_none {t : Claims} {e : Env} {who : Claimant} (h : t.best who o (e.com o).zone = none) (j : Fin 192)
    (y : Claim) (hy : look t.slots j = some y) (own : y.claimant = who) : ¬ y.reaches e o := by
  obtain ⟨opening, zone, all⟩ : t.find who (.opening o) = none ∧ t.find who (.zone (e.com o).zone) = none ∧
      t.find who .all = none := by simpa [Claims.best] using h
  unfold Claim.reaches
  intro reaches
  cases scope : y.scope with
  | opening p =>
    rw [scope] at reaches
    exact find_eq_none opening j y hy ⟨own, scope.trans (congrArg _ reaches)⟩
  | zone z =>
    rw [scope] at reaches
    exact find_eq_none zone j y hy ⟨own, scope.trans (congrArg _ reaches)⟩
  | all => exact find_eq_none all j y hy ⟨own, scope⟩

/-- A claimant's claim for an opening whose zone admits it (R44). -/
def admittedClaim (e : Env) (t : Claims) (o : OpeningId) (who : Claimant) : Option Claim :=
  if (look e.work.zones (e.com o).zone).admits who then t.best who o (e.com o).zone else none

theorem winningClaim_eq (e : Env) (t : Claims) (o : OpeningId) :
    winningClaim e t o = (admittedClaim e t o .security).or (admittedClaim e t o .ventilation) := rfl

theorem admittedClaim_some {e : Env} {t : Claims} {who : Claimant} {x : Claim} (h : admittedClaim e t o who = some x) :
    (∃ i : Fin 192, look t.slots i = some x) ∧ x.claimant = who ∧ x.applies e o ∧
      ∀ (j : Fin 192) (y : Claim), look t.slots j = some y → y.claimant = who → y.applies e o →
        x.scopeRank ≤ y.scopeRank := by
  unfold admittedClaim at h
  split at h
  · next admits =>
    obtain ⟨member, own, reaches, least⟩ := best_some h
    exact ⟨member, own, (applies_iff e o x).2 ⟨own.symm ▸ admits, reaches⟩,
      fun j y hy who_eq applies => least j y hy who_eq ((applies_iff e o y).1 applies).2⟩
  · cases h

theorem admittedClaim_none {e : Env} {t : Claims} {who : Claimant} (h : admittedClaim e t o who = none) (j : Fin 192)
    (y : Claim) (hy : look t.slots j = some y) (own : y.claimant = who) : ¬ y.applies e o := by
  rw [applies_iff]
  rintro ⟨admits, reaches⟩
  rw [own] at admits
  rw [admittedClaim, if_pos admits] at h
  exact best_none h j y hy own reaches

/-- The offset of a claimant's places: SECURITY before VENTILATION (R44). -/
def Claimant.offset : Claimant → Nat
  | .security => 0
  | .ventilation => 3

theorem place_eq (x : Claim) : x.place = x.claimant.offset + x.scopeRank := rfl

theorem scopeRank_le (x : Claim) : x.scopeRank ≤ 2 := by
  unfold Claim.scopeRank
  cases x.scope <;> simp

/-- The claim that wins applies, and no claim that applies has a lower place (R44). -/
theorem winningClaim_some {e : Env} {t : Claims} {x : Claim} (h : winningClaim e t o = some x) :
    (∃ i : Fin 192, look t.slots i = some x) ∧ x.applies e o ∧
      ∀ (j : Fin 192) (y : Claim), look t.slots j = some y → y.applies e o → x.place ≤ y.place := by
  rw [winningClaim_eq] at h
  have low := scopeRank_le x
  cases secure : admittedClaim e t o .security with
  | some z =>
    rw [secure, Option.some_or] at h
    cases h
    obtain ⟨member, own, applies, least⟩ := admittedClaim_some secure
    refine ⟨member, applies, fun j y hy reaches => ?_⟩
    rw [place_eq, place_eq, own]
    cases claimant : y.claimant with
    | security => exact Nat.add_le_add_left (least j y hy claimant reaches) _
    | ventilation =>
      simp only [Claimant.offset]
      omega
  | none =>
    rw [secure, Option.none_or] at h
    obtain ⟨member, own, applies, least⟩ := admittedClaim_some h
    refine ⟨member, applies, fun j y hy reaches => ?_⟩
    rw [place_eq, place_eq, own]
    cases claimant : y.claimant with
    | security => exact absurd reaches (admittedClaim_none secure j y hy claimant)
    | ventilation => exact Nat.add_le_add_left (least j y hy claimant reaches) _

theorem winningClaim_none {e : Env} {t : Claims} (h : winningClaim e t o = none) (j : Fin 192) (y : Claim)
    (hy : look t.slots j = some y) : ¬ y.applies e o := by
  obtain ⟨secure, ventilated⟩ : admittedClaim e t o .security = none ∧ admittedClaim e t o .ventilation = none := by
    simpa [winningClaim_eq] using h
  cases claimant : y.claimant with
  | security => exact admittedClaim_none secure j y hy claimant
  | ventilation => exact admittedClaim_none ventilated j y hy claimant

/-- The claimant that a place names. -/
theorem claimant_of_place (x : Claim) : x.claimant = if x.place < 3 then .security else .ventilation := by
  have low := scopeRank_le x
  rw [place_eq]
  cases claimant : x.claimant with
  | security => rw [if_pos (by simp only [Claimant.offset]; omega)]
  | ventilation => rw [if_neg (by simp only [Claimant.offset]; omega)]

/-- The scope of a rank that covers an opening. -/
def scopeAt (e : Env) (o : OpeningId) (rank : Nat) : ClaimScope :=
  if rank = 0 then .opening o else if rank = 1 then .zone (e.com o).zone else .all

theorem scope_of_reaches {e : Env} {x : Claim} (h : x.reaches e o) : x.scope = scopeAt e o x.scopeRank := by
  unfold Claim.reaches at h
  unfold Claim.scopeRank
  cases scope : x.scope with
  | opening p =>
    rw [scope] at h
    exact congrArg _ h
  | zone z =>
    rw [scope] at h
    exact congrArg _ h
  | all => rfl

/-- Two claims that apply to an opening from one place have one key. -/
theorem key_of_place {e : Env} {x y : Claim} (hx : x.applies e o) (hy : y.applies e o) (h : x.place = y.place) :
    x.claimant = y.claimant ∧ x.scope = y.scope := by
  obtain ⟨_, reachesX⟩ := (applies_iff e o x).1 hx
  obtain ⟨_, reachesY⟩ := (applies_iff e o y).1 hy
  have claimants : x.claimant = y.claimant := by rw [claimant_of_place x, claimant_of_place y, h]
  have ranks : x.scopeRank = y.scopeRank := by
    rw [place_eq, place_eq, claimants] at h
    exact Nat.add_left_cancel h
  exact ⟨claimants, by rw [scope_of_reaches reachesX, scope_of_reaches reachesY, ranks]⟩

/-- The claim with the lowest place of those that apply wins (R44). -/
theorem winningClaim_of_least (w : ClaimsWf s) {i : Fin 192} {x : Claim} (hx : look s.claims.slots i = some x)
    (applies : x.applies s.env o) (least : ∀ (j : Fin 192) (y : Claim), look s.claims.slots j = some y →
      y.applies s.env o → x.place ≤ y.place) : winningClaim s.env s.claims o = some x := by
  cases winner : winningClaim s.env s.claims o with
  | none => exact absurd applies (winningClaim_none winner i x hx)
  | some y =>
    obtain ⟨⟨j, hy⟩, wins, lowest⟩ := winningClaim_some winner
    have place := Nat.le_antisymm (least j y hy wins) (lowest i x hx applies)
    obtain ⟨claimant, scope⟩ := key_of_place applies wins place
    obtain ⟨_, _, unique⟩ := w i x hx
    cases unique j y hy claimant.symm scope.symm
    exact hy.symm.trans hx

end Winner

/-! ### Full resolution (R43 to R45) -/

section Resolve

variable {s : State} {ability : Option Ability} {o : OpeningId}

theorem resolve_lockout (locked : s.env.lockedOut o = true) : resolve s.env s.claims ability o = .lockout :=
  if_pos locked

variable (free : s.env.lockedOut o = false)
include free

theorem resolve_latched (latched : look s.weather.latches o = true) :
    resolve s.env s.claims ability o = .target 0 .weather := by
  unfold resolve
  rw [if_neg (by simp [free]), if_pos (show s.env.latched o = true from latched)]

variable (clear : look s.weather.latches o = false)
include clear

theorem resolve_pinned {p : Nat} (pin : pinOf s.env o = some p) : resolve s.env s.claims ability o =
    .target (roundFor ability (watchCap s.env o p)) .service := by
  unfold resolve
  rw [if_neg (by simp [free]), if_neg (show ¬ s.env.latched o = true by simp [Env.latched, State.env, clear])]
  simp only [pin]

variable (unpinned : pinOf s.env o = none)
include unpinned

theorem resolve_claimed {x : Claim} (winner : winningClaim s.env s.claims o = some x) :
    resolve s.env s.claims ability o = .target (roundFor ability (watchCap s.env o
      (min x.position (look s.work.zones (look s.work.openings o).zone).ceiling))) x.claimant.jobClass := by
  unfold resolve
  rw [if_neg (by simp [free]), if_neg (show ¬ s.env.latched o = true by simp [Env.latched, State.env, clear])]
  simp only [unpinned, winner]
  rfl

theorem resolve_unclaimed (missing : winningClaim s.env s.claims o = none) :
    resolve s.env s.claims ability o =
      if (look s.work.zones (look s.work.openings o).zone).valid ∧
          (look s.work.zones (look s.work.openings o).zone).fallback = .close then
        .target (roundFor ability (watchCap s.env o 0)) .fallback
      else .noTarget := by
  unfold resolve
  rw [if_neg (by simp [free]), if_neg (show ¬ s.env.latched o = true by simp [Env.latched, State.env, clear])]
  simp only [unpinned, missing]
  rfl

end Resolve

end Sys2Proof.Machine

end

section
/-! SUPPORT. What RESOLVE_OPENING hands on by the opening's state (R42, R46, R47, R76); the statement on resolution. -/

namespace Sys2Proof.Machine

/-! ### A submission for a QUEUED opening (R76) -/

section Resubmit

variable {e : Env} {c : Core} {o : OpeningId} {target : Nat} {cls : JobClass} {j : Job}

/-- An opening's job, of which the queue has one. -/
theorem jobOf_of_mem (nodup : (c.queue.map Job.opening).Nodup) (hj : j ∈ c.queue) (own : j.opening = o) :
    c.jobOf o = some j := by
  cases found : c.jobOf o with
  | none => exact absurd own (by simpa using List.find?_eq_none.1 found j hj)
  | some k =>
    have key : k.opening = o := of_decide_eq_true (List.find?_some (p := fun j : Job => decide (j.opening = o)) found)
    exact congrArg some (List.inj_on_of_nodup_map nodup (List.mem_of_find?_eq_some found) hj (key.trans own.symm))

variable (job : c.jobOf o = some j)
include job

theorem resubmit_same (same : j.cls = cls) : c.resubmit e o target cls =
    Core.setLive { c with queue := c.queue.map (Job.aim o target) } o
      fun l => { l with target := some target, jobClass := some cls } := by
  simp only [Core.resubmit, job, if_pos same]

theorem resubmit_moved (other : j.cls ≠ cls) : c.resubmit e o target cls =
    { (c.removeJob o).enqueue e o target cls .tail with
      queue := ((c.removeJob o).enqueue e o target cls .tail).queue.map (Job.keepWait o j.wait) } := by
  simp only [Core.resubmit, job, if_neg other]

end Resubmit

/-- The job that enters the queue stands last in its band (R73, R74). -/
theorem enqueue_tail (e : Env) (c : Core) (o : OpeningId) (t : Nat) (cls : JobClass) :
    ∃ j ∈ (c.enqueue e o t cls .tail).queue, j.opening = o ∧ j.target = t ∧ j.cls = cls ∧ j.rank = (e.com o).rank ∧
      j.segment = e.segment o ∧ j.wait = none ∧ ∀ k ∈ c.queue, k.band = j.band → k.mark < j.mark :=
  ⟨_, (mem_insertJob _ _ _).2 (.inl rfl), rfl, rfl, rfl, rfl, rfl, rfl, fun k hk hb => lt_markFor_tail c.queue _ k hk hb⟩

/-! ### The handing on of a result by the opening's state (R47) -/

section HandOn

variable {e : Env} {o : OpeningId} {c : Core} {r : Resolution}

theorem handOn_inert (h : (c.live o).state = .absent ∨ (c.live o).state = .unenrolled ∨ (c.live o).state = .lost ∨
    (c.live o).state = .faulted) : c.handOn e o r = c := by
  unfold Core.handOn
  rcases h with h | h | h | h <;> simp only [h]

theorem handOn_barred (h : (c.live o).state = .idle ∨ (c.live o).state = .resting ∨ (c.live o).state = .dwell) :
    c.handOn e o .lockout = c.enterLockedOut o := by
  unfold Core.handOn
  rcases h with h | h | h <;> simp only [h]

/-- A lockout overtakes every stop cause (R15). -/
theorem overtake_lockout (held : StopCause) : held.overtake .lockout = .lockout := by cases held <;> rfl

theorem handOn_stopping_lockout (h : (c.live o).state = .stopping) : c.handOn e o .lockout =
    c.setLive o fun l => { l with target := none, stopCause := l.stopCause.map fun _ => .lockout } := by
  unfold Core.handOn
  simp only [h]
  rw [requestStop_stopping _ _ _ _ (by unfold Core.writeTarget; rw [live_setLive_same]; exact h), Core.writeTarget,
    setLive_setLive]
  simp only [overtake_lockout]

/-- A lockout that ends leaves an opening IDLE. -/
theorem handOn_unbarred (h : (c.live o).state = .lockedOut) (free : r ≠ .lockout) : c.handOn e o r = c.enterIdle o := by
  unfold Core.handOn
  cases r with
  | lockout => exact absurd rfl free
  | target | noTarget => simp only [h]

theorem handOn_waits (h : (c.live o).state = .resting ∨ (c.live o).state = .dwell) (free : r ≠ .lockout) :
    c.handOn e o r = c := by
  unfold Core.handOn
  cases r with
  | lockout => exact absurd rfl free
  | target | noTarget => rcases h with h | h <;> simp only [h]

/-- A job withdrawn for a target that is reached, or for none, leaves its opening IDLE. -/
theorem handOn_idles (t : Option Nat) : ((c.removeJob o).writeTarget o t).enterIdle o =
    ((c.removeJob o).setLive o fun l => { l.idled with target := t }).join o := by
  rw [enterIdle_eq, Core.writeTarget, setLive_setLive]
  rfl

theorem handOn_queued_lockout (h : (c.live o).state = .queued) :
    c.handOn e o .lockout = (c.removeJob o).enterLockedOut o := by
  simp only [Core.handOn, h]

theorem handOn_lockedOut_lockout (h : (c.live o).state = .lockedOut) : c.handOn e o .lockout = c := by
  simp only [Core.handOn, h]

theorem handOn_noTarget (h : (c.live o).state = .idle ∨ (c.live o).state = .stopping) :
    c.handOn e o .noTarget = c.writeTarget o none := by
  unfold Core.handOn
  rcases h with h | h <;> simp only [h]

theorem handOn_queued_noTarget (h : (c.live o).state = .queued) : c.handOn e o .noTarget =
    ((c.removeJob o).setLive o fun l => { l.idled with target := none }).join o := by
  simp only [Core.handOn, h, handOn_idles]

section Target

variable {t : Nat} {cls : JobClass}

theorem handOn_stopping_target (h : (c.live o).state = .stopping) : c.handOn e o (.target t cls) =
    c.setLive o fun l => { l with target := some t, jobClass := some cls } := by
  simp only [Core.handOn, h]

theorem handOn_idle_reached (h : (c.live o).state = .idle) (there : (c.live o).position.reached t = true) :
    c.handOn e o (.target t cls) = c.writeTarget o (some t) := by
  simp only [Core.handOn, h, if_pos there]

theorem handOn_queued_reached (h : (c.live o).state = .queued) (there : (c.live o).position.reached t = true) :
    c.handOn e o (.target t cls) =
      ((c.removeJob o).setLive o fun l => { l.idled with target := some t }).join o := by
  simp only [Core.handOn, h, if_pos there, handOn_idles]

theorem handOn_idle_away (h : (c.live o).state = .idle) (away : (c.live o).position.reached t = false) :
    c.handOn e o (.target t cls) = c.enqueue e o t cls .tail := by
  simp only [Core.handOn, h, if_neg (ne_true_of_eq_false away)]

theorem handOn_queued_away (h : (c.live o).state = .queued) (away : (c.live o).position.reached t = false) :
    c.handOn e o (.target t cls) = c.resubmit e o t cls := by
  simp only [Core.handOn, h, if_neg (ne_true_of_eq_false away)]

end Target

end HandOn

end Sys2Proof.Machine

open Sys2Proof Sys2Proof.Machine

/-- Settles O35: the lowest of the set is taken, resolved by R43 to R45, and its result handed on by R47's table. -/
theorem resolutionTakesTheLowest : Obligations.ResolutionTakesTheLowest := by
  unfold Obligations.ResolutionTakesTheLowest
  refine ⟨fun s running => ⟨fun empty => ?empty, fun o rest s' l first core live => ?hands⟩, fun s ability o => ?resolves⟩
  case empty =>
    rw [exec_resolveOpening, coreEvent_running _ _ running]
    unfold State.within Core.resolveNext
    dsimp only
    rw [empty]
  case hands =>
    subst core live
    have hands {r : Resolution} {d : Core} (result : resolve s.env s.claims (s.core.live o).ability o = r)
        (h : Core.handOn s.env o r { s.core with resolveSet := rest } = d) :
        exec .resolveOpening s = .next ({ s with core := d } : State).settled := by
      rw [exec_resolveOpening_taken running first, result, h]
    refine ⟨fun w => ?_, fun inert => hands rfl (handOn_inert (by exact inert)), fun result => ⟨fun waits => ?_,
      fun queued => ?_, fun stopping => ?_, fun barred => ?_⟩, fun result => ⟨fun still => ?_, fun queued => ?_⟩,
      fun t cls result => ⟨fun stopping => ?_, fun there => ⟨fun idle => ?_, fun queued => ?_⟩, fun away => ⟨fun idle => ?_,
        fun j hj w own queued => ⟨fun same => ?_, fun other => ?_⟩⟩⟩, fun free => ⟨fun barred => ?_, fun waits => ?_⟩⟩
    · have ascends := ((orderWf_iff s).1 w).1
      rw [first] at ascends
      exact (List.pairwise_cons.1 ascends).1
    · exact hands result (handOn_barred (by exact waits))
    · exact hands result (handOn_queued_lockout (by exact queued))
    · exact hands result (handOn_stopping_lockout (by exact stopping))
    · exact hands result (handOn_lockedOut_lockout (by exact barred))
    · exact hands result (handOn_noTarget (by exact still))
    · exact hands result (handOn_queued_noTarget (by exact queued))
    · exact hands result (handOn_stopping_target (by exact stopping))
    · exact hands result (handOn_idle_reached (by exact idle) (by exact there))
    · exact hands result (handOn_queued_reached (by exact queued) (by exact there))
    · refine ⟨{ s with core := ({ s.core with resolveSet := rest } : Core).enqueue s.env o t cls .tail },
        hands result (handOn_idle_away (by exact idle) (by exact away)), ?_⟩
      have own := live_enqueue_same (e := s.env) (c := { s.core with resolveSet := rest }) (o := o) (target := t) cls .tail
      exact ⟨by rw [own], by rw [own], by rw [own], rfl, enqueue_tail s.env _ o t cls,
        fun q other => live_enqueue_ne s.env q t cls .tail other, rfl⟩
    · have job := jobOf_of_mem (c := { s.core with resolveSet := rest }) ((drivesWf_iff s).1 w).nodup hj own
      exact hands result ((handOn_queued_away (by exact queued) (by exact away)).trans (resubmit_same job same))
    · have job := jobOf_of_mem (c := { s.core with resolveSet := rest }) ((drivesWf_iff s).1 w).nodup hj own
      have moved := resubmit_moved (e := s.env) (target := t) job other
      have kept := live_enqueue_same (e := s.env) (c := ({ s.core with resolveSet := rest } : Core).removeJob o) (o := o)
        (target := t) cls .tail
      obtain ⟨n, hn, mine, aimed, classed, ranked, _, _, last⟩ :=
        enqueue_tail s.env (({ s.core with resolveSet := rest } : Core).removeJob o) o t cls
      have waits : Job.keepWait o j.wait n = { n with wait := j.wait } := if_pos mine
      refine ⟨{ s with core := _ }, hands result ((handOn_queued_away (by exact queued) (by exact away)).trans moved),
        congrArg Live.state kept, congrArg Live.target kept, congrArg Live.jobClass kept, rfl,
        ⟨{ n with wait := j.wait }, List.mem_map.2 ⟨n, hn, waits⟩, mine, aimed, classed, ranked, rfl, fun k hk foreign =>
          last k ((mem_dropJob _ _ _).2 ⟨hk, foreign⟩)⟩, rfl⟩
    · exact hands rfl (handOn_unbarred (by exact barred) free)
    · exact hands rfl (handOn_waits (by exact waits) free)
  case resolves =>
    refine ⟨lockedOut_iff, resolve_lockout, resolve_latched, fun free clear => ⟨fun p pin => resolve_pinned free clear pin,
      fun unpinned => ⟨fun i x w hx applies least =>
        resolve_claimed free clear unpinned (winningClaim_of_least w hx applies least), fun unclaimed => ?_⟩⟩,
      fun w i p => ⟨fun own => ?_, fun zone other => ?_⟩, fun t => ⟨fun level => if_neg level, fun level =>
        ⟨fun skylight => ?_, fun window => ?_⟩, rfl, fun a => ⟨fun fine => ?_, fun coarse => ?_⟩⟩⟩
    · have missing : winningClaim s.env s.claims o = none := by
        cases winner : winningClaim s.env s.claims o with
        | none => rfl
        | some y =>
          obtain ⟨⟨j, hy⟩, wins, _⟩ := winningClaim_some winner
          exact absurd wins (unclaimed j y hy)
      have resolved := resolve_unclaimed (ability := ability) free clear unpinned missing
      rintro z rfl
      refine ⟨fun valid close => resolved.trans (if_pos ⟨valid, close⟩), fun none => resolved.trans (if_neg ?_)⟩
      rintro ⟨valid, close⟩
      rcases none with invalid | stays
      · exact absurd (valid.symm.trans invalid) nofun
      · exact absurd (close.symm.trans stays) nofun
    · rw [pinOf_eq, show pinAt s.env.work.statics (.opening o) = some p from pinAt_of_look w own, Option.some_or]
    · rw [pinOf_eq, show pinAt s.env.work.statics (.opening o) = none from pinAt_none other, Option.none_or]
      exact pinAt_of_look w zone
    · unfold watchCap
      rw [if_pos (show s.env.level = .watch from level), show (s.env.com o).kind = .skylight from skylight]
    · unfold watchCap
      rw [if_pos (show s.env.level = .watch from level), show (s.env.com o).kind = .window from window]
      rfl
    · simp only [roundFor, fine]
    · simp only [roundFor, coarse]

end

section
/-! SUPPORT. The start walk: its tests, what it records and starts, and what it leaves (R83 to R88); the statement on it. -/

namespace Sys2Proof.Machine

/-! ### The tests of a walk (R84, R85) -/

section Tests

variable {e : Env} {c : Core} {j : Job}

/-- Every slot is occupied when the list of the slots says so. -/
theorem slots_full_iff : c.slots.toList.all Option.isSome = true ↔ ∀ i : SlotId, (look c.slots i).isSome = true := by
  rw [List.all_eq_true]
  refine ⟨fun h i => h _ ((mem_toList_iff _ _).2 ⟨i, rfl⟩), fun h x hx => ?_⟩
  obtain ⟨i, rfl⟩ := (mem_toList_iff _ _).1 hx
  exact h i

theorem halted_noSlot (full : ∀ i : SlotId, (look c.slots i).isSome = true) : c.halted e = some .noSlot :=
  if_pos (slots_full_iff.2 full)

/-- With an empty slot the supply and the pause alone halt a walk. -/
theorem halted_room {i : SlotId} (room : look c.slots i = none) : c.halted e =
    if e.supply ≠ .normal then some .supply else if e.paused = true then some .pause else none := by
  refine if_neg fun full => ?_
  have occupied := slots_full_iff.1 full i
  rw [room] at occupied
  exact absurd occupied nofun

theorem halted_supply (short : e.supply ≠ .normal) : c.halted e ≠ none := by
  unfold Core.halted
  rw [if_pos short]
  split <;> exact nofun

theorem skipped_segment (h : (c.holds.get j.segment).state ≠ .owned ∨ (c.segments.get j.segment).pass = .running) :
    c.skipped e j = some .segment := by
  unfold Core.skipped
  by_cases owned : (c.holds.get j.segment).state = .owned
  · exact (if_neg (not_not_intro owned)).trans (if_pos (h.resolve_left (not_not_intro owned)))
  · exact if_pos owned

/-- On a segment that carries drives, battery, lockout and latch decide. -/
theorem skipped_carried (owned : (c.holds.get j.segment).state = .owned)
    (still : (c.segments.get j.segment).pass ≠ .running) : c.skipped e j =
      if e.mains = .battery ∧ directionOf (c.live j.opening).position j.target = .toOpen then some .battery
      else if e.lockedOut j.opening = true then some .withheld
      else if look e.latches j.opening = true ∧ directionOf (c.live j.opening).position j.target = .toOpen
        then some .withheld
      else none :=
  (if_neg (not_not_intro owned)).trans (if_neg still)

/-- A job that nothing skips. -/
theorem skipped_none (owned : (c.holds.get j.segment).state = .owned)
    (still : (c.segments.get j.segment).pass ≠ .running) (barred : e.lockedOut j.opening = false)
    (powered : ¬ (e.mains = .battery ∧ directionOf (c.live j.opening).position j.target = .toOpen))
    (clear : ¬ (look e.latches j.opening = true ∧ directionOf (c.live j.opening).position j.target = .toOpen)) :
    c.skipped e j = none := by
  rw [skipped_carried owned still, if_neg powered, if_neg (ne_true_of_eq_false barred), if_neg clear]

/-- A job behind the fence stands in a class below the fence's. -/
theorem behindFence_iff {fence : Option JobClass} :
    behindFence fence j = true ↔ ∃ f : JobClass, fence = some f ∧ f.urgency < j.cls.urgency := by
  cases fence <;> simp [behindFence]

end Tests

/-! ### One job of a walk (R86, R87) -/

section Steps

variable {e : Env} {c : Core} {j : Job} {fence : Option JobClass} {w : WaitReason} (rest : List Job)

/-- A reason recorded in every job of a list (R87). -/
theorem recordAll_eq (w : WaitReason) (jobs : List Job) (c : Core) : c.recordAll w jobs =
    { c with queue := c.queue.map fun k => if k.opening ∈ jobs.map Job.opening then { k with wait := some w } else k } := by
  induction jobs generalizing c with
  | nil => simp [Core.recordAll]
  | cons j rest ih =>
    refine (ih (c.recordWait j.opening w)).trans (congrArg (fun q => { c with queue := q }) ?_)
    refine (List.map_map ..).trans (List.map_congr_left fun k _ => ?_)
    by_cases own : k.opening = j.opening
    · simp [Job.await, own]
    · simp [Job.await, own]

theorem walk_halted (halted : c.halted e = some w) : c.walk e fence (j :: rest) = c.recordAll w (j :: rest) := by
  simp only [Core.walk, halted]

variable (going : c.halted e = none)
include going

theorem walk_behind (behind : behindFence fence j = true) :
    c.walk e fence (j :: rest) = c.recordAll .behindBudget (j :: rest) := by
  simp only [Core.walk, going, behind, if_true]

variable (before : behindFence fence j = false)
include before

theorem walk_skipped (skipped : c.skipped e j = some w) :
    c.walk e fence (j :: rest) = (c.recordAll w [j]).walk e fence rest := by
  simp only [Core.walk, going, before, Core.walkOne, skipped]
  rfl

theorem walk_starts (taken : c.skipped e j = none)
    (fits : c.reservationSum + c.rated j.opening ≤ budgetOf e.work e.mains) :
    c.walk e fence (j :: rest) = (c.startDrive e j).walk e fence rest := by
  simp only [Core.walk, going, before, Core.walkOne, taken, if_pos fits]
  rfl

theorem walk_over (taken : c.skipped e j = none)
    (exceeds : budgetOf e.work e.mains < c.reservationSum + c.rated j.opening) :
    c.walk e fence (j :: rest) = (c.recordAll .budget [j]).walk e (some (fence.getD j.cls)) rest := by
  simp only [Core.walk, going, before, Core.walkOne, taken, if_neg (Nat.not_le.2 exceeds)]
  rfl

end Steps

/-! ### What a walk keeps -/

section Keeps

variable {e : Env} {c : Core}

/-- What every reason recorded and every start within the budget keeps, a walk keeps. -/
theorem walk_keeps (P : Core → Prop)
    (records : ∀ (d : Core) (o : OpeningId) (w : WaitReason), P d → P (d.recordWait o w)) (fence : Option JobClass) (jobs : List Job)
    (starts : ∀ (d : Core), ∀ j ∈ jobs, d.halted e = none →
      d.reservationSum + d.rated j.opening ≤ budgetOf e.work e.mains → P d → P (d.startDrive e j))
    (held : P c) : P (c.walk e fence jobs) := by
  induction jobs generalizing c fence with
  | nil => exact held
  | cons j rest ih =>
    have later := fun d k hk => starts d k (List.mem_cons_of_mem j hk)
    have recorded (w : WaitReason) : P (c.recordAll w (j :: rest)) :=
      foldl_keeps P (fun (d : Core) (k : Job) => d.recordWait k.opening w) (fun d k => records d k.opening w) _ c held
    unfold Core.walk
    split
    · exact recorded _
    · next going =>
      split
      · exact recorded _
      · unfold Core.walkOne
        split
        · exact ih _ later (records c _ _ held)
        · split
          · next fits => exact ih _ later (starts c j List.mem_cons_self going fits held)
          · exact ih _ later (records c _ _ held)

/-- A part of the drive core that no start changes. -/
theorem walk_leaves {β : Type} (part : Core → β) (records : ∀ d o w, part (Core.recordWait o w d) = part d)
    (starts : ∀ d j, part (Core.startDrive e j d) = part d) (fence : Option JobClass) (jobs : List Job) :
    part (c.walk e fence jobs) = part c :=
  walk_keeps (fun d => part d = part c) (fun d o w h => (records d o w).trans h) fence jobs
    (fun d j _ _ _ h => (starts d j).trans h) rfl

@[simp] theorem startDrive_resolveSet (j : Job) : (c.startDrive e j).resolveSet = c.resolveSet := by
  unfold Core.startDrive
  split <;> rfl

@[simp] theorem startDrive_walkTriggered (j : Job) : (c.startDrive e j).walkTriggered = c.walkTriggered := by
  unfold Core.startDrive
  split <;> rfl

/-- A slot taken adds its reservation to the sum (R80). -/
theorem reservationSum_put {i : SlotId} (empty : look c.slots i = none) (x : Slot) :
    Core.reservationSum { c with slots := put c.slots i (some x) } = c.reservationSum + x.reserved := by
  have place : (put c.slots i (some x)).toList = c.slots.toList.set i.val (some x) := Vector.toList_set ..
  have own : c.slots.toList[i.val]'(by simp) = none := empty
  have held : c.slots.toList = c.slots.toList.set i.val none := by
    conv_rhs => rw [← own, List.set_getElem_self]
  unfold Core.reservationSum
  rw [show ({ c with slots := put c.slots i (some x) } : Core).slots = put c.slots i (some x) from rfl, place]
  conv_rhs => rw [held]
  rw [List.map_set, List.map_set, List.sum_set, List.sum_set]
  simp
  omega

/-- A start reserves its opening's rated current (R86, R88). -/
theorem startDrive_reservationSum (j : Job) :
    (c.startDrive e j).reservationSum ≤ c.reservationSum + c.rated j.opening := by
  unfold Core.startDrive
  split
  · exact Nat.le_add_right _ _
  · next i free =>
    exact (reservationSum_put (Option.isNone_iff_eq_none.1 (lowest_passes _ _ i free)) _).le

theorem walk_budget (fence : Option JobClass) (jobs : List Job) :
    (c.walk e fence jobs).reservationSum ≤ max c.reservationSum (budgetOf e.work e.mains) :=
  walk_keeps (fun d => d.reservationSum ≤ max c.reservationSum (budgetOf e.work e.mains)) (fun _ _ _ => id) fence jobs
    (fun _ j _ _ fits _ => ((startDrive_reservationSum j).trans fits).trans (le_max_right _ _)) (le_max_left _ _)

/-- Short of a NORMAL supply a walk starts nothing. -/
theorem walk_short (short : e.supply ≠ .normal) (fence : Option JobClass) (jobs : List Job) :
    (c.walk e fence jobs).slots = c.slots ∧ (c.walk e fence jobs).openings = c.openings :=
  walk_keeps (fun d => d.slots = c.slots ∧ d.openings = c.openings) (fun _ _ _ => id) fence jobs
    (fun _ _ _ going _ _ => absurd going (halted_supply short)) ⟨rfl, rfl⟩

/-! ### An opening that a walk has passed -/

/-- What the rest of a walk leaves of an opening that it has passed: its record, every occupied slot and its pending
DRIVE; and no job comes to it. -/
structure Core.Passed (e : Env) (o : OpeningId) (c d : Core) : Prop where
  live : d.live o = c.live o
  slot : ∀ (i : SlotId) (x : Slot), look c.slots i = some x → look d.slots i = some x
  pending : d.pendingOf e o 1 = c.pendingOf e o 1
  queue : (∀ k ∈ c.queue, k.opening ≠ o) → ∀ k ∈ d.queue, k.opening ≠ o

theorem Core.Passed.trans {o : OpeningId} {d b : Core} (h : c.Passed e o d) (g : d.Passed e o b) : c.Passed e o b :=
  ⟨g.live.trans h.live, fun i x hx => g.slot i x (h.slot i x hx), g.pending.trans h.pending,
    fun none => g.queue (h.queue none)⟩

theorem recordWait_passed (o q : OpeningId) (w : WaitReason) : c.Passed e o (c.recordWait q w) := by
  refine ⟨rfl, fun _ _ => id, rfl, fun none k hk => ?_⟩
  obtain ⟨n, hn, rfl⟩ := List.mem_map.1 hk
  have same : (Job.await q w n).opening = n.opening := by
    unfold Job.await
    split <;> rfl
  rw [same]
  exact none n hn

theorem startDrive_passed {o : OpeningId} {j : Job} (other : o ≠ j.opening) : c.Passed e o (c.startDrive e j) := by
  have live := startDrive_live_ne (c := c) e j o other
  unfold Core.startDrive at live ⊢
  split
  · exact ⟨rfl, fun _ _ => id, rfl, id⟩
  · next i free =>
    have empty : look c.slots i = none := Option.isNone_iff_eq_none.1 (lowest_passes _ _ i free)
    rw [free] at live
    refine ⟨live, fun k x hx => (look_put_ne _ _ _ _ ?_).trans hx, pendingOf_ask_other _ _ _ _ _ _ other,
      fun none k hk => none k ((mem_dropJob _ _ _).1 hk).1⟩
    rintro rfl
    exact absurd (hx.symm.trans empty) nofun

theorem walk_passed {o : OpeningId} (fence : Option JobClass) (jobs : List Job) (others : ∀ j ∈ jobs, o ≠ j.opening) :
    c.Passed e o (c.walk e fence jobs) :=
  walk_keeps (c.Passed e o) (fun _ q w h => h.trans (recordWait_passed o q w)) fence jobs
    (fun _ j hj _ _ h => h.trans (startDrive_passed (others j hj))) ⟨rfl, fun _ _ => id, rfl, id⟩

end Keeps

/-! ### START_WALK (R83, log entry 10) -/

section StartWalk

variable {e : Env} {c : Core}

theorem startWalk_idle (idle : c.walkTriggered = false) : c.startWalk e = c := if_neg (ne_true_of_eq_false idle)

theorem startWalk_triggered (triggered : c.walkTriggered = true) : c.startWalk e =
    Core.walk e none c.queue { c with walkTriggered := false, walkCount := c.walkCount + 1 } := if_pos triggered

/-- The job at the head of the queue that nothing halts or skips and that fits is started in the lowest empty slot, and
the rest of the walk passes it by. -/
theorem walk_first {j : Job} {rest : List Job} {i : SlotId} {a : Ability} (queue : c.queue = j :: rest)
    (own : (c.queue.map Job.opening).Nodup) (room : lowestEmpty c.slots i) (enrolled : (c.live j.opening).ability = some a)
    (going : c.halted e = none) (taken : c.skipped e j = none)
    (fits : c.reservationSum + a.rated ≤ budgetOf e.work e.mains) :
    look (c.walk e none c.queue).slots i = some (j.startSlot e c a) ∧
      (c.walk e none c.queue).live j.opening = { c.live j.opening with
        state := .driving, target := some j.target, jobClass := some j.cls } ∧
      (∀ k ∈ (c.walk e none c.queue).queue, k.opening ≠ j.opening) ∧
      ((c.walk e none c.queue).pendingOf e j.opening 1).isSome = true := by
  have rated : c.rated j.opening = a.rated := by simp [Core.rated, enrolled]
  rw [queue] at own ⊢
  rw [walk_starts rest going rfl taken (by rwa [rated])]
  have passed := walk_passed (e := e) (c := c.startDrive e j) (o := j.opening) none rest fun k hk same =>
    (List.nodup_cons.1 own).1 (List.mem_map.2 ⟨k, hk, same.symm⟩)
  refine ⟨passed.slot i _ ?_, passed.live.trans (startDrive_live room enrolled), passed.queue fun k hk => ?_, ?_⟩
  · rw [startDrive_slots room enrolled, look_put_same]
  · rw [startDrive_queue room enrolled] at hk
    exact ((mem_dropJob _ _ _).1 hk).2
  · rw [passed.pending]
    exact startDrive_asks room enrolled

end StartWalk

end Sys2Proof.Machine

open Sys2Proof Sys2Proof.Machine

/-- Settles O36: a walk halts, fences, skips and starts by R84 to R88, and what it starts stays within the budget. -/
theorem startWalkKeepsTheBudget : Obligations.StartWalkKeepsTheBudget := by
  unfold Obligations.StartWalkKeepsTheBudget
  refine ⟨fun s running => ?walks, fun e fence c => ⟨rfl, fun w jobs => recordAll_eq w jobs c, halted_noSlot,
    fun i room => ?_, fun j rest d dir => ?tests⟩⟩
  case walks =>
    refine ⟨{ s with core := s.core.startWalk s.env }, by rw [exec_startWalk, coreEvent_running _ _ running]; rfl, ?_⟩
    cases triggered : s.core.walkTriggered with
    | false =>
      rw [startWalk_idle triggered]
      exact ⟨le_max_left _ _, fun _ => ⟨rfl, rfl⟩, triggered, rfl, rfl, rfl, fun _ => rfl, nofun, nofun⟩
    | true =>
      rw [startWalk_triggered triggered]
      refine ⟨walk_budget none _, fun short => walk_short short none _,
        walk_leaves Core.walkTriggered (fun _ _ _ => rfl) (fun _ j => startDrive_walkTriggered j) none _, walk_holds ..,
        walk_notices ..,
        walk_leaves Core.resolveSet (fun _ _ _ => rfl) (fun _ j => startDrive_resolveSet j) none _, nofun, fun _ => rfl,
        fun j rest i a _ queue own room normal free owned still opening barred enrolled fits => ?_⟩
      have going : s.core.halted s.env = none := by
        rw [halted_room room.1, if_neg (not_not_intro (by exact normal)), if_neg (by simpa [State.env] using free)]
      have taken : s.core.skipped s.env j = none :=
        skipped_none owned still barred (fun ⟨battery, opens⟩ => (opening opens).1 battery)
          fun ⟨latched, opens⟩ => absurd (latched.symm.trans (opening opens).2) nofun
      obtain ⟨slot, live, gone, asked⟩ := walk_first
        (c := { s.core with walkTriggered := false, walkCount := s.core.walkCount + 1 })
        queue own room enrolled going taken fits
      exact ⟨⟨_, slot, rfl, rfl, rfl, rfl, rfl, rfl, rfl, rfl⟩, live, gone, asked⟩
  · rw [halted_room room]
    exact ⟨fun short => if_pos short, fun normal paused => by rw [if_neg (not_not_intro normal), if_pos paused],
      fun normal free => by rw [if_neg (not_not_intro normal), if_neg (ne_true_of_eq_false free)]⟩
  case tests =>
    subst dir
    have shut {d : Direction} (powered : e.mains = .mains ∨ d = .toClose) : ¬ (e.mains = .battery ∧ d = .toOpen) := by
      rintro ⟨battery, rfl⟩
      exact absurd (battery.symm.trans (powered.resolve_right nofun)) nofun
    refine ⟨skipped_segment, fun owned still => ⟨fun battery opens => ?_, fun powered => ⟨fun withheld => ?_,
      fun barred clear => ?_⟩⟩, fun w halted => walk_halted rest halted, fun going =>
      ⟨fun f fence behind => walk_behind rest going (behindFence_iff.2 ⟨f, fence, behind⟩), fun before => ?_⟩⟩
    · rw [skipped_carried owned still, if_pos ⟨battery, opens⟩]
    · rw [skipped_carried owned still, if_neg (shut powered)]
      by_cases barred : e.lockedOut j.opening = true
      · exact if_pos barred
      · exact (if_neg barred).trans (if_pos (withheld.resolve_left barred))
    · refine skipped_none owned still barred (shut powered) fun ⟨latched, opens⟩ => ?_
      rcases clear with clear | closes
      · exact absurd (latched.symm.trans clear) nofun
      · exact absurd (opens.symm.trans closes) nofun
    · have front : behindFence fence j = false := by
        refine Bool.eq_false_iff.2 fun behind => ?_
        obtain ⟨f, held, below⟩ := behindFence_iff.1 behind
        exact Nat.not_lt.2 (before f held) below
      exact ⟨fun w skipped => walk_skipped rest going front skipped, fun taken =>
        ⟨fun fits => walk_starts rest going front taken fits, fun exceeds => walk_over rest going front taken exceeds⟩⟩

end

section
/-! SUPPORT. What the reads return, byte by byte: the pages of openings, the weather marks and their counts, the timer of
an opening (R7, R72, R103, R202); the statement on the reads. -/

namespace Sys2Proof.Machine

/-! ### A page of 16 openings -/

/-- The opening at a place of a page. -/
def pageOpening (page : Fin 8) (n : Fin 16) : OpeningId := ⟨page.val * 16 + n.val, by omega⟩

theorem page_openings (page : Fin 8) :
    (allOpenings.filter fun o => o.val / 16 == page.val) = (List.finRange 16).map (pageOpening page) := by
  revert page
  decide

theorem pageOpening_eq {page : Fin 8} {n : Fin 16} {o : OpeningId} (place : o.val = page.val * 16 + n.val) :
    pageOpening page n = o := Fin.ext place.symm

/-- A list of pairs laid out in a row holds each pair at twice its place. -/
theorem getElem?_pairs {α : Type} (f g : α → Byte) (l : List α) (n : Nat) :
    (l.map fun x => [f x, g x]).flatten[2 * n]? = l[n]?.map f ∧
      (l.map fun x => [f x, g x]).flatten[2 * n + 1]? = l[n]?.map g := by
  induction l generalizing n with
  | nil => exact ⟨rfl, rfl⟩
  | cons x rest ih =>
    cases n with
    | zero => exact ⟨rfl, rfl⟩
    | succ n => exact ih n

/-- The fields of READ_BLOCK (R7, R201). -/
theorem blockBytes_spelled (s : State) {o : OpeningId} (start : o.val % 16 = 0) : s.blockSpelled o (s.blockBytes o) := by
  have page := page_openings ⟨o.val / 16, by omega⟩
  unfold State.blockSpelled State.blockBytes
  dsimp only at page
  rw [page]
  refine ⟨rfl, rfl, fun n q place => ?_⟩
  have own : ((List.finRange 16).map (pageOpening ⟨o.val / 16, by omega⟩))[n.val]? = some q := by
    rw [← pageOpening_eq (page := ⟨o.val / 16, by omega⟩) (n := n) (o := q) (by dsimp only; omega)]
    simp
  obtain ⟨state, position⟩ := getElem?_pairs (fun q : OpeningId => stateCode (s.core.live q).state)
    (fun q : OpeningId => positionCode (s.core.live q).position)
    ((List.finRange 16).map (pageOpening ⟨o.val / 16, by omega⟩)) n.val
  rw [own] at state position
  rw [show 1 + 2 * n.val = 2 * n.val + 1 by omega, show 2 + 2 * n.val = 2 * n.val + 1 + 1 by omega]
  exact ⟨state, position⟩

/-! ### Weather marks (R72) -/

section Marks

variable {s : State} {o : OpeningId}

/-- The records that a delay's reason stands for (R72). -/
def Delay.standsFor : Delay → Live → Prop
  | .rest, l => l.state = .resting
  | .dwellReversal, l => l.state = .dwell ∧ l.dwellReason ≠ some .obstruction
  | .dwellObstruction, l => l.state = .dwell ∧ l.dwellReason = some .obstruction
  | .lost, l => l.state = .lost
  | .faulted, l => l.state = .faulted
  | .unenrolled, l => l.state = .unenrolled

theorem nearShut_iff {p : Position} : p.nearShut = true ↔ ∃ x : Nat, p = .percent x ∧ x ≤ 2 := by
  cases p <;> simp [Position.nearShut]

theorem mark_unlatched (h : look s.weather.latches o = false) : s.mark o = .clear := by
  simp [State.mark, markOf, h]

theorem mark_withheld (latched : look s.weather.latches o = true) (barred : (s.core.live o).state = .lockedOut) :
    s.mark o = .withheld := by
  simp [State.mark, markOf, latched, barred]

theorem mark_closed (latched : look s.weather.latches o = true) (free : (s.core.live o).state ≠ .lockedOut)
    (shut : ∃ x : Nat, (s.core.live o).position = .percent x ∧ x ≤ 2) : s.mark o = .closed := by
  simp [State.mark, markOf, latched, free, nearShut_iff.2 shut]

/-- A latched opening, neither LOCKED_OUT nor shut, is unclosed. -/
theorem unclosed_of_not_shut (latched : look s.weather.latches o = true) (free : (s.core.live o).state ≠ .lockedOut)
    (ajar : ¬ ∃ x : Nat, (s.core.live o).position = .percent x ∧ x ≤ 2) : s.unclosed o :=
  ⟨latched, free, fun p place => Nat.lt_of_not_le fun low => ajar ⟨p, place, low⟩⟩

/-- The mark of an unclosed opening is its state's. -/
theorem mark_unclosed (waits : s.unclosed o) : s.mark o = markOf true { s.core.live o with position := .unknown } := by
  obtain ⟨latched, free, ajar⟩ := waits
  have far : (s.core.live o).position.nearShut = false := Bool.eq_false_iff.2 fun shut => by
    obtain ⟨p, place, low⟩ := nearShut_iff.1 shut
    exact Nat.not_lt.2 low (ajar p place)
  simp [State.mark, markOf, latched, free, far, show Position.nearShut .unknown = false from rfl]

theorem mark_delayed {d : Delay} (waits : s.unclosed o) (h : d.standsFor (s.core.live o)) : s.mark o = .delayed d := by
  rw [mark_unclosed waits]
  cases d with
  | rest | lost | faulted | unenrolled =>
    have state : (s.core.live o).state = _ := h
    simp [markOf, state, Position.nearShut]
  | dwellReversal =>
    obtain ⟨state, other⟩ := h
    cases reason : (s.core.live o).dwellReason with
    | none => simp [markOf, state, reason, Position.nearShut]
    | some r =>
      cases r with
      | reversal => simp [markOf, state, reason, Position.nearShut]
      | obstruction => exact absurd reason other
  | dwellObstruction =>
    obtain ⟨state, reason⟩ := h
    simp [markOf, state, reason, Position.nearShut]

theorem mark_closing (waits : s.unclosed o) (h : ∀ d : Delay, ¬ d.standsFor (s.core.live o)) : s.mark o = .closing := by
  rw [mark_unclosed waits]
  cases state : (s.core.live o).state with
  | absent | idle | queued | driving | stopping => simp [markOf, state, Position.nearShut]
  | dwell =>
    by_cases reason : (s.core.live o).dwellReason = some .obstruction
    · exact absurd ⟨state, reason⟩ (h .dwellObstruction)
    · exact absurd ⟨state, reason⟩ (h .dwellReversal)
  | resting => exact absurd state (h .rest)
  | lost => exact absurd state (h .lost)
  | faulted => exact absurd state (h .faulted)
  | unenrolled => exact absurd state (h .unenrolled)
  | lockedOut => exact absurd state waits.2.1

/-- Every opening has one of the marks, each with what it stands for (R72). -/
theorem mark_cases (s : State) (o : OpeningId) : (look s.weather.latches o = false ∧ s.mark o = .clear) ∨
    (look s.weather.latches o = true ∧ (s.core.live o).state = .lockedOut ∧ s.mark o = .withheld) ∨
    (look s.weather.latches o = true ∧ s.mark o = .closed) ∨
    (s.unclosed o ∧ ∃ d : Delay, d.standsFor (s.core.live o) ∧ s.mark o = .delayed d) ∨
    (s.unclosed o ∧ s.mark o = .closing) := by
  cases latched : look s.weather.latches o with
  | false => exact .inl ⟨rfl, mark_unlatched latched⟩
  | true =>
    by_cases barred : (s.core.live o).state = .lockedOut
    · exact .inr (.inl ⟨rfl, barred, mark_withheld latched barred⟩)
    · by_cases shut : ∃ x : Nat, (s.core.live o).position = .percent x ∧ x ≤ 2
      · exact .inr (.inr (.inl ⟨rfl, mark_closed latched barred shut⟩))
      · have waits := unclosed_of_not_shut latched barred shut
        by_cases delayed : ∃ d : Delay, d.standsFor (s.core.live o)
        · obtain ⟨d, h⟩ := delayed
          exact .inr (.inr (.inr (.inl ⟨waits, d, h, mark_delayed waits h⟩)))
        · exact .inr (.inr (.inr (.inr ⟨waits, mark_closing waits fun d h => delayed ⟨d, h⟩⟩)))

theorem mark_ne_clear_iff : s.mark o ≠ .clear ↔ look s.weather.latches o = true := by
  refine ⟨fun marked => ?_, fun latched => ?_⟩
  · exact Bool.eq_true_of_not_eq_false fun free => marked (mark_unlatched free)
  · rcases mark_cases s o with ⟨free, _⟩ | ⟨_, _, h⟩ | ⟨_, h⟩ | ⟨_, d, _, h⟩ | ⟨_, h⟩
    · exact absurd (free.symm.trans latched) nofun
    all_goals rw [h]; exact nofun

theorem mark_withheld_iff : s.mark o = .withheld ↔
    look s.weather.latches o = true ∧ (s.core.live o).state = .lockedOut := by
  refine ⟨fun mark => ?_, fun ⟨latched, barred⟩ => mark_withheld latched barred⟩
  rcases mark_cases s o with ⟨_, h⟩ | ⟨latched, barred, _⟩ | ⟨_, h⟩ | ⟨_, d, _, h⟩ | ⟨_, h⟩
  · exact absurd (h.symm.trans mark) nofun
  · exact ⟨latched, barred⟩
  all_goals exact absurd (h.symm.trans mark) nofun

theorem mark_delayed_iff (d : Delay) : s.mark o = .delayed d ↔ s.unclosed o ∧ d.standsFor (s.core.live o) := by
  refine ⟨fun mark => ?_, fun ⟨waits, h⟩ => mark_delayed waits h⟩
  rcases mark_cases s o with ⟨_, h⟩ | ⟨_, _, h⟩ | ⟨_, h⟩ | ⟨waits, x, stands, h⟩ | ⟨_, h⟩
  case inr.inr.inr.inl =>
    obtain rfl : x = d := Mark.delayed.inj (h.symm.trans mark)
    exact ⟨waits, stands⟩
  all_goals exact absurd (h.symm.trans mark) nofun

theorem isDelayed_iff : (s.mark o).isDelayed = true ↔
    s.unclosed o ∧ ∃ d : Delay, d.standsFor (s.core.live o) := by
  constructor
  · intro delayed
    cases mark : s.mark o with
    | delayed d =>
      obtain ⟨waits, h⟩ := (mark_delayed_iff d).1 mark
      exact ⟨waits, d, h⟩
    | clear | withheld | closed | closing => rw [mark] at delayed; exact absurd delayed nofun
  · rintro ⟨waits, d, h⟩
    rw [mark_delayed waits h]
    rfl

/-- The states that delay an opening's closing (R72). -/
theorem delayed_iff {l : Live} : (∃ d : Delay, d.standsFor l) ↔ l.state = .resting ∨ l.state = .dwell ∨
    l.state = .lost ∨ l.state = .faulted ∨ l.state = .unenrolled := by
  constructor
  · rintro ⟨d, h⟩
    cases d with
    | rest => exact .inl h
    | dwellReversal | dwellObstruction => exact .inr (.inl h.1)
    | lost => exact .inr (.inr (.inl h))
    | faulted => exact .inr (.inr (.inr (.inl h)))
    | unenrolled => exact .inr (.inr (.inr (.inr h)))
  · rintro (h | h | h | h | h)
    · exact ⟨.rest, h⟩
    · by_cases reason : l.dwellReason = some .obstruction
      · exact ⟨.dwellObstruction, h, reason⟩
      · exact ⟨.dwellReversal, h, reason⟩
    · exact ⟨.lost, h⟩
    · exact ⟨.faulted, h⟩
    · exact ⟨.unenrolled, h⟩

theorem marked_code (s : State) (o : OpeningId) : s.marked o (s.mark o).code := by
  have delayed {d : Delay} (waits : s.unclosed o) (h : d.standsFor (s.core.live o)) :
      (s.mark o).code = (Mark.delayed d).code := congrArg _ (mark_delayed waits h)
  refine ⟨fun h => congrArg Mark.code (mark_unlatched h), fun h x => congrArg Mark.code (mark_withheld h x),
    fun h x y => congrArg Mark.code (mark_closed h x y), fun waits => ⟨fun moves => ?_, fun h => delayed (d := .rest) waits h,
      fun h r => delayed (d := .dwellReversal) waits ⟨h, by rw [r]; exact nofun⟩,
      fun h r => delayed (d := .dwellObstruction) waits ⟨h, r⟩, fun h => delayed (d := .lost) waits h,
      fun h => delayed (d := .faulted) waits h, fun h => delayed (d := .unenrolled) waits h⟩⟩
  refine congrArg Mark.code (mark_closing waits fun d h => ?_)
  have stays := delayed_iff.1 ⟨d, h⟩
  rcases moves with h | h | h | h <;> simp [h] at stays

end Marks

/-! ### The weather view (R71, R72, R202) -/

section Weather

variable {s : State} {page : Fin 8}

/-- A count of marks counts what the tested marks stand for. -/
theorem countMarks_counts {test : Mark → Bool} {holds : OpeningId → Prop}
    (h : ∀ o : OpeningId, test (s.mark o) = true ↔ holds o) : counts (s.countMarks test) holds :=
  ⟨allOpenings.filter fun o => test (s.mark o), (List.nodup_finRange 128).filter _, by simp [h], rfl⟩

/-- The counts and the marks of the weather view, which stand after its first 25 bytes. -/
theorem weatherView_drop (s : State) (page : Fin 8) : (s.weatherView page).drop 25 =
    [s.countMarks fun m => decide (m ≠ .clear), s.countMarks fun m => decide (m = .withheld), s.countMarks Mark.isDelayed] ++
      [Delay.rest, .dwellReversal, .dwellObstruction, .lost, .faulted, .unenrolled].map
        (fun d => s.countMarks fun m => decide (m = .delayed d)) ++
      (List.finRange 16).map fun n => (s.mark (pageOpening page n)).code := by
  unfold State.weatherView
  dsimp only
  rw [page_openings, List.map_map]
  cases s.weather.advisory <;> rfl

theorem weatherView_length (s : State) (page : Fin 8) : (s.weatherView page).length = 50 := by
  have tail := congrArg List.length (weatherView_drop s page)
  rw [List.length_drop] at tail
  simp at tail
  omega

theorem weatherView_byte (n : Nat) : (s.weatherView page)[25 + n]? = ((s.weatherView page).drop 25)[n]? :=
  List.getElem?_drop.symm

/-- The count of a delay's reason. -/
theorem delay_counts (s : State) (d : Delay) : counts (s.countMarks fun m => decide (m = .delayed d))
    fun o : OpeningId => s.unclosed o ∧ d.standsFor (s.core.live o) :=
  countMarks_counts fun _ => decide_eq_true_iff.trans (mark_delayed_iff d)

theorem weatherView_spelled (s : State) (page : Fin 8) : s.weatherSpelled page (s.weatherView page) := by
  have byte {n : Nat} {b c : Byte} (read : (s.weatherView page)[25 + n]? = some b)
      (place : ((s.weatherView page).drop 25)[n]? = some c) : b = c :=
    Option.some.inj (read.symm.trans ((weatherView_byte n).trans place))
  refine ⟨weatherView_length s page, fun b read => ?_, fun b read => ?_, fun b read => ?_, fun n x b which read => ?_,
    fun b read => ?_, fun b read => ?_, fun n o b place read => ?_⟩
  · rw [byte (n := 0) read (by rw [weatherView_drop]; rfl)]
    exact countMarks_counts fun _ => decide_eq_true_iff.trans mark_ne_clear_iff
  · rw [byte (n := 1) read (by rw [weatherView_drop]; rfl)]
    exact countMarks_counts fun _ => decide_eq_true_iff.trans mark_withheld_iff
  · rw [byte (n := 2) read (by rw [weatherView_drop]; rfl)]
    exact countMarks_counts fun _ => isDelayed_iff.trans (and_congr .rfl delayed_iff)
  · rcases which with ⟨rfl, rfl⟩ | ⟨rfl, rfl⟩ | ⟨rfl, rfl⟩ | ⟨rfl, rfl⟩
    · rw [byte (n := 3) read (by rw [weatherView_drop]; rfl)]
      exact delay_counts s .rest
    · rw [byte (n := 6) read (by rw [weatherView_drop]; rfl)]
      exact delay_counts s .lost
    · rw [byte (n := 7) read (by rw [weatherView_drop]; rfl)]
      exact delay_counts s .faulted
    · rw [byte (n := 8) read (by rw [weatherView_drop]; rfl)]
      exact delay_counts s .unenrolled
  · rw [byte (n := 4) read (by rw [weatherView_drop]; rfl)]
    exact delay_counts s .dwellReversal
  · rw [byte (n := 5) read (by rw [weatherView_drop]; rfl)]
    exact delay_counts s .dwellObstruction
  · have held : ((s.weatherView page).drop 25)[9 + n.val]? = some (s.mark o).code := by
      rw [weatherView_drop, ← pageOpening_eq place, List.getElem?_append_right (by simp)]
      simp
    have shifted : (s.weatherView page)[25 + (9 + n.val)]? = some b := by
      rw [← read, show 25 + (9 + n.val) = 34 + n.val by omega]
    rw [byte shifted held]
    exact marked_code s o

end Weather

/-! ### The status view (R102, R202) -/

/-- The Scheduler's items, which stand after the first 16 bytes (R102). -/
theorem statusView_drop (s : State) : s.statusView.drop 16 =
    [s.core.countSlots fun _ => true, s.core.countSlots fun x => decide (x.phase = .orphan)] ++
      twoBytes s.core.reservationSum ++
      [byteOf s.core.queue.length, orAbsent (fun j => byteOf j.opening.val) s.core.queue.head?,
        orAbsent (fun j => classCode j.cls) s.core.queue.head?, orAbsent (fun j => byteOf j.rank.val) s.core.queue.head?] ++
      ([WaitReason.noSlot, .supply, .pause, .segment, .battery, .withheld, .budget, .behindBudget].map s.core.countWait ++
        ([byteOf (s.core.jobsOn .seg0), byteOf (s.core.jobsOn .seg1)] ++ s.segmentView .seg0 ++ s.segmentView .seg1)) := by
  simp only [State.statusView, List.append_assoc]
  rfl

theorem statusView_byte {s : State} (n : Nat) : s.statusView[16 + n]? = (s.statusView.drop 16)[n]? :=
  List.getElem?_drop.symm

theorem statusView_slots (s : State) : s.statusView[16]? = some (s.core.countSlots fun _ => true) ∧
    s.statusView[17]? = some (s.core.countSlots fun x => decide (x.phase = .orphan)) := by
  rw [statusView_byte 0, statusView_byte 1, statusView_drop]
  exact ⟨rfl, rfl⟩

theorem statusView_reserved (s : State) :
    [s.statusView[18]?, s.statusView[19]?] = (twoBytes s.core.reservationSum).map some := by
  rw [statusView_byte 2, statusView_byte 3, statusView_drop]
  rfl

theorem statusView_queue (s : State) : s.statusView[20]? = some (byteOf s.core.queue.length) ∧
    s.statusView[21]? = some (orAbsent (fun j => byteOf j.opening.val) s.core.queue.head?) ∧
      s.statusView[22]? = some (orAbsent (fun j => classCode j.cls) s.core.queue.head?) ∧
      s.statusView[23]? = some (orAbsent (fun j => byteOf j.rank.val) s.core.queue.head?) := by
  rw [statusView_byte 4, statusView_byte 5, statusView_byte 6, statusView_byte 7, statusView_drop]
  exact ⟨rfl, rfl, rfl, rfl⟩

theorem statusView_waits (s : State) {n : Nat} {w : WaitReason}
    (named : [WaitReason.noSlot, .supply, .pause, .segment, .battery, .withheld, .budget, .behindBudget][n]? = some w) :
    s.statusView[24 + n]? = some (s.core.countWait w) := by
  have short : n < 8 := (List.getElem?_eq_some_iff.1 named).1
  rw [show 24 + n = 16 + (8 + n) by omega, statusView_byte (8 + n), statusView_drop, List.getElem?_append_right (by simp [twoBytes])]
  simp only [twoBytes, List.length_append, List.length_cons, List.length_nil, Nat.add_sub_cancel_left]
  rw [List.getElem?_append_left (by simpa using short), List.getElem?_map, named]
  rfl

theorem statusView_jobsOn (s : State) : s.statusView[32]? = some (byteOf (s.core.jobsOn .seg0)) ∧
    s.statusView[33]? = some (byteOf (s.core.jobsOn .seg1)) := by
  rw [statusView_byte 16, statusView_byte 17, statusView_drop]
  exact ⟨rfl, rfl⟩

theorem statusView_spelled (s : State) : s.statusSpelled s.statusView := by
  obtain ⟨occupied, orphans⟩ := statusView_slots s
  obtain ⟨length, head⟩ := statusView_queue s
  have full : (s.core.slots.toList.filter fun y => y.any fun _ => true) = s.core.slots.toList.filter Option.isSome :=
    List.filter_congr fun y _ => by cases y <;> rfl
  refine ⟨rfl, occupied.trans ?_, orphans, statusView_reserved s, length, fun empty => ?_, fun j rest queue => ?_,
    fun n w named => statusView_waits s named, statusView_jobsOn s⟩
  · rw [← full]
    rfl
  · rwa [empty] at head
  · rwa [queue] at head

/-! ### The opening view (R7, R103, R202) -/

section View

variable {s : State} {o : OpeningId}

theorem openingView_spelled (s : State) (o : OpeningId) : s.viewSpelled o ((s.openingView o).take 25) := by
  rintro m l rfl rfl
  have absent {α : Type} (code : α → Byte) (x : Option α) : (x.map code).getD 0xFF#8 = orAbsent code x := by
    cases x <;> rfl
  simp only [absent]
  cases enrolled : (s.core.live o).ability with
  | none =>
    unfold State.openingView
    dsimp only
    rw [enrolled]
    rfl
  | some a =>
    unfold State.openingView
    dsimp only
    rw [enrolled]
    rfl

/-- A running timer, by its code, in the last three bytes. -/
theorem openingView_timed {code : Byte} {ms : Nat} (timer : s.openingTimer o = some (code, ms)) :
    (s.openingView o).drop 25 = code :: twoBytes ((ms + 999) / 1000) := by
  unfold State.openingView
  rw [timer]
  rfl

theorem openingView_untimed (timer : s.openingTimer o = none) : (s.openingView o).drop 25 = [0, 0xFF#8, 0xFF#8] := by
  unfold State.openingView
  rw [timer]
  rfl

/-- Outside RESTING and DWELL the timer is the slot's. -/
theorem openingTimer_slot (rest : (s.core.live o).state ≠ .resting) (dwell : (s.core.live o).state ≠ .dwell) :
    (s.core.slotOf o = none → s.openingTimer o = none) ∧
      ∀ (i : SlotId) (x : Slot), s.core.slotOf o = some i → look s.core.slots i = some x →
        (∀ t : Nat, x.orphanEnd = some t → s.openingTimer o = some (4, t - s.clock)) ∧
        (x.orphanEnd = none → x.runTimer = true → s.openingTimer o = some (1, x.runDeadline - s.clock)) := by
  unfold State.openingTimer
  dsimp only
  split
  · next h => exact absurd h rest
  · next h => exact absurd h dwell
  · refine ⟨fun free => by rw [free]; rfl, fun i x hi hx => ?_⟩
    rw [hi, Option.bind_some, hx]
    exact ⟨fun t orphan => by simp only [orphan], fun plain runs => by simp only [plain, runs, if_true]⟩

theorem openingView_timer (s : State) (o : OpeningId) : s.timerSpelled o ((s.openingView o).drop 25) := by
  refine ⟨fun f state timer => openingView_timed ?_, fun f state timer => openingView_timed ?_, fun rest dwell => ?_⟩
  · simp only [State.openingTimer, state, timer]
    rfl
  · simp only [State.openingTimer, state, timer]
    rfl
  · obtain ⟨free, slotted⟩ := openingTimer_slot rest dwell
    refine ⟨fun none => openingView_untimed (free none), fun i x hi hx => ?_⟩
    obtain ⟨orphan, runs⟩ := slotted i x hi hx
    exact ⟨fun t h => openingView_timed (orphan t h), fun h r => openingView_timed (runs h r)⟩

theorem openingView_length (s : State) (o : OpeningId) : (s.openingView o).length = 28 := by
  cases timer : s.openingTimer o with
  | none =>
    have tail := congrArg List.length (openingView_untimed timer)
    rw [List.length_drop] at tail
    simp at tail
    omega
  | some t =>
    have tail := congrArg List.length (openingView_timed (code := t.1) (ms := t.2) timer)
    rw [List.length_drop] at tail
    simp [twoBytes] at tail
    omega

end View

/-! ### The read requests (R7, R22, R40, R71) -/

section Requests

variable {s : State}

theorem serveReadBlock_start {first : Byte} {o : OpeningId} (named : names first o) (start : o.val % 16 = 0) :
    serveReadBlock first s = (s, .ok (s.blockBytes o)) := by
  simp only [serveReadBlock, finOf?_eq_some 128 first.toNat o named, if_pos start]

theorem serveReadWeather_page {page : Byte} {x : Fin 8} (named : page.toNat = x.val) :
    serveReadWeather page s = (s, .ok (s.weatherView x)) := by
  simp only [serveReadWeather, finOf?_eq_some 8 page.toNat x named]

theorem serveReadStatic_slot {slot : Byte} {i : Fin 32} (named : slot.toNat = i.val) :
    serveReadStatic slot s = (s, .ok (staticBytes (look s.work.statics i))) := by
  simp only [serveReadStatic, finOf?_eq_some 32 slot.toNat i named]

variable {p : Role} {b : Byte} {o : OpeningId} (named : names b o)
include named

/-- From the Service port the link-drop latch of an opening not LOST returns to intact (R22). -/
theorem serveReadOpening_mends (mends : p = .service ∧ (s.core.live o).state ≠ .lost) : serveReadOpening p b s =
    (s.withLive o { s.core.live o with linkDropped := false }, .ok (s.openingView o)) := by
  simp only [serveReadOpening, finOf?_eq_some 128 b.toNat o named, if_pos mends]
  rfl

theorem serveReadOpening_plain (plain : ¬ (p = .service ∧ (s.core.live o).state ≠ .lost)) :
    serveReadOpening p b s = (s, .ok (s.openingView o)) := by
  simp only [serveReadOpening, finOf?_eq_some 128 b.toNat o named, if_neg plain]

end Requests

end Sys2Proof.Machine

open Sys2Proof Sys2Proof.Machine

/-- Settles O9: each read returns its fields, spelled byte by byte, and changes nothing but the port, except that
READ_OPENING from the Service port makes the link-drop latch of an opening not LOST intact. -/
theorem readsReturnTheirFields : Obligations.ReadsReturnTheirFields := by
  unfold Obligations.ReadsReturnTheirFields
  refine ⟨fun p s takes => ⟨fun first o named start => ⟨blockBytes_spelled s start, ?_⟩, fun page x named =>
    ⟨weatherView_spelled s x, ?_⟩, statusView_spelled s, ?_, ?_⟩, fun p b o s takes named => ⟨?_, openingView_spelled s o,
      openingView_timer s o, ?_⟩⟩
  · exact exec_served (.readBlock first) p s s _ takes (by cases p <;> rfl) (serveReadBlock_start named start)
  · exact exec_served (.readWeather page) p s s _ takes (by cases p <;> rfl) (serveReadWeather_page named)
  · exact exec_served .readStatus p s s _ takes (by cases p <;> rfl) rfl
  · rintro rfl
    exact ⟨fun slot i named => exec_served (.readStatic slot) .service s s _ takes rfl (serveReadStatic_slot named),
      exec_served .settingsRead .service s s _ takes rfl rfl⟩
  · exact openingView_length s o
  · exact ⟨fun service present => exec_served (.readOpening b) p s _ _ takes (by cases p <;> rfl)
      (serveReadOpening_mends named ⟨service, present⟩), fun plain => exec_served (.readOpening b) p s s _ takes
      (by cases p <;> rfl) (serveReadOpening_plain named fun ⟨service, present⟩ => plain.elim (· service) present)⟩

end
